-- ==== Sys2Proof/Word.lean ====
section
/-!
DEFINITION. The word types of the block. Every multi-byte quantity of the 6400 is made of bytes (R4);
counts, positions and times whose exact value matters are Nat or Int in the files that use them.
-/

namespace Sys2Proof

/-- One byte (R4). -/
abbrev Byte := BitVec 8

/-- A 32-bit word: a setup register, a Locator, a register index. -/
abbrev Word := BitVec 32

/-- A 64-bit word. -/
abbrev DWord := BitVec 64

/-- A list of bytes, lowest offset first (R4). -/
abbrev Bytes := List Byte

end Sys2Proof
end

