-- ==== Sys2Proof/Syntax.lean ====
section
/-!
DEFINITION. The commands of the block: one constructor of `Instr` per row of opcode_table.json, with what the row takes
from outside (a submission entry, an instant, a level, a measured set, fetched bytes). A row whose subject is a ring
command stands for that command's application at its application frame (R21); a row whose subject is an event stands for
the instant at which it happens.
-/

namespace Sys2Proof

/-- One submission entry without its opcode, with the session and the ring it was read from (Table 15-4, R540). -/
structure Cmd where
  /-- Session in which the entry was read. -/
  session : BitVec 16
  /-- Submission ring of the entry. -/
  sq : Fin 32
  /-- Bit 0 PAIR; bits [7:1] reserved. -/
  flags : BitVec 8
  /-- Reserved byte 3. -/
  rsv3 : BitVec 8
  tag : BitVec 32
  loc : BitVec 32
  /-- Reserved bytes 12 to 15. -/
  rsv12 : BitVec 32
  /-- The 48-byte argument area, byte 0 lowest. -/
  args : BitVec 384
  deriving DecidableEq, Repr, Inhabited

/-- An instant inside a frame: lattice points after the last boundary, and one of eight phases (R97). -/
structure Instant where
  lp : Nat
  ph : Fin 8
  deriving DecidableEq, Repr, Inhabited

/-- The voltages one die's converter samples, in picovolts: of the analog input and of the negative sense ball of its
group of
eight (R259). -/
structure AnalogIn where
  ain : Int
  ainn : Int
  deriving DecidableEq, Repr, Inhabited

/-- A control die (R41). -/
inductive Die where
  | cda
  | cdb
  deriving DecidableEq, Repr, Inhabited

/-- A field die. -/
inductive FieldDie where
  | cda
  | cdb
  | fid
  deriving DecidableEq, Repr

/-- The extent a fault marks (R29). -/
inductive Extent where
  | unit
  | cluster
  | region
  deriving DecidableEq, Repr

/-- The checkers of Table 13-4, codes 1 to 6. -/
inductive Checker where
  | ecc
  | residue
  | handshake
  | slack
  | dupPath
  | link
  deriving DecidableEq, Repr

/-- A replay's result in one die (R467). -/
inductive Replay where
  | same
  | differs
  | notJudged
  deriving DecidableEq, Repr

/-- Why a resynchronisation starts again or fails (R470, R473). -/
inductive RetryCause where
  | digestDiffers
  | fellBehind
  | timeout
  | selfTestFailed
  deriving DecidableEq, Repr

/-- The switch inputs of an axis channel (R206). -/
inductive Switch where
  | limitPos
  | limitNeg
  | home
  deriving DecidableEq, Repr

/-- Why an admitted port goes down (R435). -/
inductive PortDown where
  | codeSync
  | codeErrors
  | probesUnanswered
  deriving DecidableEq, Repr

/-- The causes of a failed bus read (Table 15-17). -/
inductive BusCause where
  | timeout
  | unsupported
  | abort
  deriving DecidableEq, Repr

/-- A tested output: a valve ball, or ball 0 or 1 of a safety output pair (R517). -/
inductive TestedOut where
  | valve (v : Fin 64)
  | safety (k : Fin 8) (ball2 : Bool)
  deriving DecidableEq, Repr

/-- A signed firmware image: its 256-byte header and its body (Table 17-2). -/
structure Image where
  header : List (BitVec 8)
  body : List (BitVec 8)
  deriving DecidableEq, Repr

/-- An entry of the boot flash's directory, with the image it points at (R602). -/
structure FlashEntry where
  kind : Nat
  image : Image
  deriving DecidableEq, Repr

/-- The levels the FID latches at a boundary that have no row of their own. -/
structure FieldInputs where
  /-- EDM balls 0 to 15. -/
  edm : BitVec 16
  /-- Valve readbacks 0 to 63. -/
  valveRb : BitVec 64
  /-- Counted FID events of the ended frame: region, SEL, number (R590). -/
  counts : List (Nat × Nat × Nat)
  /-- Lattice points with work in progress, by FID region 0 to 5 (R590). -/
  busyPts : List Nat
  /-- The same of the HBD's regions 0 to 5. -/
  hbdCounts : List (Nat × Nat × Nat)
  hbdBusyPts : List Nat
  deriving DecidableEq, Repr

/-- A work item with a deadline (Table 2-4). -/
inductive WorkItem where
  | loop (u : Fin 832)
  | axis (a : Fin 64)
  | task (t : Fin 1024)
  | step (q : Fin 16)
  | slot (k : Fin 1024)
  | reduction (tap : Fin 4096)
  | safety
  | output
  deriving DecidableEq, Repr

/-- What a region's slack monitor measures in a frame, in units of 312.5 ps: the canary delay, and the instant after the
frame boundary at which the last work item due at the deadline was completed, if any was due (R66, R67). -/
structure SlackMeas where
  canary : Nat
  done : Option Nat
  deriving DecidableEq, Repr

/-- The die-local values one control die measures and exchanges (Table 13-2, R457). -/
structure DieLocal where
  missed : List WorkItem
  /-- Engines whose cycle has not ended by the deadline (R361). -/
  busy : List (Fin 16)
  /-- What the slack monitors of the die's regions 0 to 7, then of FID regions 0 to 5, measured (R66 to R68). -/
  slack : List SlackMeas
  /-- Junction temperature of the die and of the FID, 1/4 °C. -/
  tj : Int
  fidTj : Int
  /-- Lattice points with work in progress, by region 0 to 7 (R590). -/
  busyPts : List Nat
  /-- Counted events of the ended frame: region, SEL, number (R590). -/
  counts : List (Nat × Nat × Nat)
  /-- Self-test passes ended in the frame, and progress of the present pass in per mille (R475). -/
  passes : Nat
  coverage : Nat
  /-- Latencies in ns of the instructions sampled in the frame: engine, latency (R593). -/
  latencies : List (Fin 16 × Nat)
  deriving DecidableEq, Repr

/-- The link measurements of a health report (Table 13-7). -/
structure HealthMeas where
  /-- Every supply lies within its operating range (R482, R629). -/
  supplies : Bool
  blaErr : Nat
  blbErr : Nat
  girderRetry : Nat
  deriving DecidableEq, Repr

/-- What a LINK_CONTROL message carries (Table 15-11). -/
inductive LinkCtl where
  | train (link : Die)
  | sessionOpen
  | sessionClose
  | hold
  | release
  | hostReset
  deriving DecidableEq, Repr

/-- What a BOOT message carries (Table 15-11). -/
inductive BootMsg where
  | selfTest (die : FieldDie) (passed : Bool)
  | imageRequest (die : Die)
  | verification (die : Die) (result : Fin 16)
  deriving DecidableEq, Repr

/-- What a BULK_DOWN message carries: load data for a command, data of a host DMA channel for a Deck offset, or image data
for a booting die (R559, Table 15-11). -/
inductive BulkDown where
  | load (session : BitVec 16) (tag : BitVec 32) (offset : Nat) (data : List (BitVec 8))
  | deck (h : Fin 16) (offset : BitVec 25) (data : List (BitVec 8))
  | image (die : Die) (offset : Nat) (data : List (BitVec 8))
  deriving DecidableEq, Repr

/-- What the environment alone decides in a consistency check: the region, if any, whose worst-corner budget is exceeded
(R78) and the regulator's VOUT_MODE answer (R71). -/
structure CheckMeas where
  overBudget : Option (Fin 8)
  voutMode : Option (BitVec 8)
  /-- Whether the standby's result differs (R135). -/
  standbyDiffers : Bool
  deriving DecidableEq, Repr

/-- A frame received at the node's controller: its 32 header bytes, payload, the arrival instant of its first symbol, and
whether its CRC and code groups are intact (R417). -/
structure RxFrame where
  header : List (BitVec 8)
  payload : List (BitVec 8)
  crcOk : Bool
  slot : Nat
  t : Instant
  deriving DecidableEq, Repr

/-- A submission entry as read: opcode and content. -/
structure Entry where
  opcode : BitVec 16
  cmd : Cmd
  deriving DecidableEq, Repr

/-- What a doorbell poll reads: the host half of the page (R534), and for each submission ring the entries its read
returns from SQ_HEAD on; a ring that returns fewer than are due had a failed read (R658). -/
structure DoorbellPage where
  session : BitVec 32
  sqTail : List (BitVec 32)
  cqHead : List (BitVec 32)
  entries : List (Nat × List Entry)
  deriving DecidableEq, Repr

/-- The commands of the block, in the order of opcode_table.json. -/
inductive Instr where
  /-- FIELD_SUPPLY_VALID, R137. -/
  | fieldSupplyValid
  /-- FIELD_SUPPLY_LOST, R632. -/
  | fieldSupplyLost
  /-- HOST_SUPPLY_VALID, R85. -/
  | hostSupplyValid
  /-- HOST_SUPPLY_LOST, R18. -/
  | hostSupplyLost
  /-- PERST, R531. -/
  | perst
  /-- FUNCTION_LEVEL_RESET, R531. -/
  | functionLevelReset
  /-- LATTICE_LOCK, R58. -/
  | latticeLock
  /-- REF_LOST, R59. -/
  | refLost (t : Instant)
  /-- REF_RESTORED, R60. -/
  | refRestored (devPpb : Int) (t : Instant)
  /-- HOLDOVER_EXPIRED, R61. -/
  | holdoverExpired (t : Instant)
  /-- ROM_SELF_TEST_END, R139. -/
  | romSelfTestEnd (die : FieldDie) (pass : Bool)
  /-- HBD_READY, R143. -/
  | hbdReady (flash : List FlashEntry)
  /-- IMAGE_VERIFIED, R603. -/
  | imageVerified (die : Die) (ctl : Image) (fid : Image)
  /-- BOOT_END, R140. -/
  | bootEnd
  /-- FIELD_RESET, R122. -/
  | fieldReset
  /-- FRAME_BOUNDARY, R64. -/
  | frameBoundary (inp : FieldInputs)
  /-- DEADLINE, R80. -/
  | deadline (a b : DieLocal)
  /-- FRAME_DIGEST_EXCHANGE, R462. -/
  | frameDigestExchange (a b : List (BitVec 64)) (fidDiffers : Bool)
  /-- REPLAY_RESULT, R467. -/
  | replayResult (a b : Replay)
  /-- DIE_FAULT, R463. -/
  | dieFault (die : Die) (checker : Checker) (region : Fin 8) (extent : Extent) (unit : Fin 1024) (late : Bool)
  /-- ECC_CORRECTED, R464. -/
  | eccCorrected (die : Die)
  /-- FID_FAULT, R476. -/
  | fidFault (region : Fin 6) (extent : Extent) (unit : Fin 128)
  /-- FID_REGION_RETURN, R31. -/
  | fidRegionReturn (region : Fin 6)
  /-- RESYNC_PASS_END, R471. -/
  | resyncPassEnd (dirty : Nat)
  /-- PAIR_RESTORED, R472. -/
  | pairRestored
  /-- RESYNC_RETRY, R473. -/
  | resyncRetry (cause : RetryCause)
  /-- HEALTH_REPORT, R477. -/
  | healthReport (m : HealthMeas)
  /-- HEARTBEAT, R478. -/
  | heartbeat (link : Die)
  /-- BARRIER_LINK_DOWN, R478; `lost` tells that the link lost its training. -/
  | barrierLinkDown (link : Die) (lost : Bool)
  /-- BARRIER_LINK_RETRAIN, R478. -/
  | barrierLinkRetrain (link : Die)
  /-- BARRIER_LINK_UP, R478. -/
  | barrierLinkUp (link : Die)
  /-- GIRDER_DOWN, R481. -/
  | girderDown
  /-- GIRDER_RETRAIN, R481. -/
  | girderRetrain (ok : Bool)
  /-- LINK_CONTROL, R570. -/
  | linkControl (msg : LinkCtl)
  /-- PAIR_WRITE, R21. -/
  | pairWrite (offset : BitVec 16) (data : BitVec 32)
  /-- COMMAND, R21. -/
  | command (opcode : BitVec 16) (c : Cmd) (load : Option (List (BitVec 8)))
  /-- COMPLETION, R542. -/
  | completion
  /-- STREAM, R300. -/
  | stream (ring : Fin 32)
  /-- EVENT, R585. -/
  | event
  /-- FIELD_RECORDER_RESTART, R587. -/
  | fieldRecorderRestart
  /-- COUNTER_DUMP, R592. -/
  | counterDump
  /-- DUMP_CAPTURE, R592. -/
  | dumpCapture
  /-- TIME, R85. -/
  | time
  /-- ACK, R479. -/
  | ack
  /-- BOOT, R603. -/
  | boot (msg : BootMsg)
  /-- BULK_DOWN, R559. -/
  | bulkDown (b : BulkDown)
  /-- BULK_UP, R559. -/
  | bulkUp (h : Fin 16)
  /-- DIAG_REQUEST, R569. -/
  | diagRequest (req : Nat)
  /-- DIAG_REPLY, R569. -/
  | diagReply (req : Nat)
  /-- DIAG_REPLY_TIMEOUT, R569. -/
  | diagReplyTimeout (req us : Nat)
  /-- MODE_FORCE, R122. -/
  | modeForce (value : BitVec 32)
  /-- MODE_FORCE_RESET, R122. -/
  | modeForceReset (value : BitVec 32)
  /-- MODE_FORCE_CONFIGURE, R123. -/
  | modeForceConfigure (value : BitVec 32)
  /-- DEGRADED_EXPIRED, R120. -/
  | degradedExpired
  /-- SUBSYS_ENABLE, R128. -/
  | subsysEnable (value : BitVec 32)
  /-- REDUNDANCY_CFG, R485. -/
  | redundancyCfg (value : BitVec 32)
  /-- CHECKED_SETUP_WRITE, R136. -/
  | checkedSetupWrite (offset : BitVec 16) (value : BitVec 32)
  /-- CONSISTENCY_CHECK_END, R130. -/
  | consistencyCheckEnd (m : CheckMeas)
  /-- SLACK_CLEAR, R68. -/
  | slackClear (value : BitVec 32)
  /-- GOVERNOR_INTERVAL, R73. -/
  | governorInterval
  /-- READ_VOUT_POLL, R74. -/
  | readVoutPoll (mv : Nat) (t : Instant)
  /-- VOUT_SETTLE_TIMEOUT, R74. -/
  | voutSettleTimeout (t : Instant)
  /-- GOV_REG_ALERT, R75. -/
  | govRegAlert (status : BitVec 16)
  /-- TIME_SET, R101. -/
  | timeSet (c : Cmd)
  /-- TXTS_READ, R102. -/
  | txtsRead (c : Cmd)
  /-- TIME_STEP, R87. -/
  | timeStep (theta : Int)
  /-- PPS_IN_EDGE, R94. -/
  | ppsInEdge (rising : Bool) (t : Instant)
  /-- PPS_LOST, R94. -/
  | ppsLost (t : Instant)
  /-- PPS_OUT, R96. -/
  | ppsOut
  /-- PPS_OUT_WIDTH_END, R96. -/
  | ppsOutWidthEnd (t : Instant)
  /-- MODE_REQUEST, R112. -/
  | modeRequest (c : Cmd)
  /-- AXIS_LIMITS, R159. -/
  | axisLimits (c : Cmd)
  /-- AXIS_STOPS, R159. -/
  | axisStops (c : Cmd)
  /-- AXIS_IO, R188. -/
  | axisIo (c : Cmd)
  /-- MOVE, R162. -/
  | move (c : Cmd)
  /-- STOP, R171. -/
  | stop (c : Cmd)
  /-- OVERRIDE, R175. -/
  | override (c : Cmd)
  /-- FOLLOW, R178. -/
  | follow (c : Cmd)
  /-- JOG, R177. -/
  | jog (c : Cmd)
  /-- HOME, R208. -/
  | home (c : Cmd)
  /-- AXIS_STATUS, R184. -/
  | axisStatus (c : Cmd)
  /-- ENCODER_STATUS, R215. -/
  | encoderStatus (c : Cmd)
  /-- SERVO_TICK, R150. -/
  | servoTick
  /-- FOLLOW_MASTER_LOST, R181. -/
  | followMasterLost (axis : Fin 64)
  /-- AXIS_FE_FAULT, R203. -/
  | axisFeFault (axis : Fin 64)
  /-- HOME_CHATTER_WINDOW_END, R209. -/
  | homeChatterWindowEnd (axis : Fin 64)
  /-- ENCODER_EDGE, R199. -/
  | encoderEdge (axis : Fin 64) (a b : Bool) (heldA heldB : Nat)
  /-- INDEX_EDGE, R204. -/
  | indexEdge (axis : Fin 64) (level : Bool) (held : Nat) (t : Instant)
  /-- SWITCH_EDGE, R206. -/
  | switchEdge (axis : Fin 64) (sw : Switch) (level : Bool) (t : Instant)
  /-- SWITCH_EDGE_QUALIFIED, R206. -/
  | switchEdgeQualified (axis : Fin 64) (sw : Switch) (t : Instant)
  /-- TRIG_IN_EDGE, R639. -/
  | trigInEdge (n : Fin 8) (level : Bool) (t : Instant)
  /-- LOOP_SLOT, R251. -/
  | loopSlot (c : Cmd)
  /-- LOOP_STAGE, R252. -/
  | loopStage (c : Cmd)
  /-- LOOP_TABLE, R253. -/
  | loopTable (c : Cmd)
  /-- LOOP_SETPOINT, R221. -/
  | loopSetpoint (c : Cmd)
  /-- LOOP_MODE, R237. -/
  | loopMode (c : Cmd)
  /-- LOOP_SET, R238. -/
  | loopSet (c : Cmd)
  /-- LOOP_PRESET, R254. -/
  | loopPreset (c : Cmd)
  /-- LOOP_OSC_CLEAR, R243. -/
  | loopOscClear (c : Cmd)
  /-- LOOP_STATUS, R255. -/
  | loopStatus (c : Cmd)
  /-- LOOP_SLOT_BOUNDARY, R220. -/
  | loopSlotBoundary (u : Fin 832)
  /-- LOOP_INPUT_STALE, R246. -/
  | loopInputStale (u : Fin 832)
  /-- ADC_CONVERTER, R281. -/
  | adcConverter (c : Cmd)
  /-- ADC_SEQUENCE, R282. -/
  | adcSequence (c : Cmd)
  /-- ADC_DMA, R283. -/
  | adcDma (c : Cmd)
  /-- ADC_STATUS, R284. -/
  | adcStatus (c : Cmd)
  /-- ADC_REGULAR_TRIGGER, R264. -/
  | adcRegularTrigger (conv : Fin 32) (t : Instant)
  /-- ADC_INJECTED_TRIGGER, R265. -/
  | adcInjectedTrigger (conv : Fin 32) (t : Instant)
  /-- CONVERTER_FREE, R269. -/
  | converterFree (conv : Fin 32) (t : Instant)
  /-- ADC_SLOT_END, R271. -/
  | adcSlotEnd (conv : Fin 32) (a b : AnalogIn) (t : Instant)
  /-- ADC_TEST_END, R274. -/
  | adcTestEnd (conv : Fin 32) (t : Instant)
  /-- ACQ_TAP_ASSIGN, R290. -/
  | acqTapAssign (c : Cmd)
  /-- ACQ_REDUCE, R291. -/
  | acqReduce (c : Cmd)
  /-- CAPTURE_CFG, R302. -/
  | captureCfg (c : Cmd)
  /-- CAPTURE_TRIGGER, R303. -/
  | captureTrigger (c : Cmd)
  /-- CAPTURE_ARM, R303. -/
  | captureArm (c : Cmd)
  /-- CAPTURE_STOP, R305. -/
  | captureStop (c : Cmd)
  /-- CAPTURE_SAMPLE, R302. -/
  | captureSample (eng : Fin 64)
  /-- REDUCTION_INTERVAL_END, R297. -/
  | reductionIntervalEnd (tap : Fin 4096)
  /-- SEQ_CFG, R317. -/
  | seqCfg (c : Cmd)
  /-- SEQ_LOAD, R318. -/
  | seqLoad (c : Cmd) (load : Option (List (BitVec 8)))
  /-- SEQ_START, R324. -/
  | seqStart (c : Cmd)
  /-- SEQ_RESUME, R336. -/
  | seqResume (c : Cmd)
  /-- SEQ_STATUS, R343. -/
  | seqStatus (c : Cmd)
  /-- STEP_PREPARED, R324. -/
  | stepPrepared (q : Fin 16) (t : Instant)
  /-- KEYSTONE_COMMIT, R328. -/
  | keystoneCommit (q : Fin 16)
  /-- STEP_END, R319. -/
  | stepEnd (q : Fin 16)
  /-- SEQ_TIMEOUT, R320. -/
  | seqTimeout (q : Fin 16)
  /-- PROG_CFG, R379. -/
  | progCfg (c : Cmd)
  /-- PROG_LOAD, R409. -/
  | progLoad (c : Cmd) (load : Option (List (BitVec 8)))
  /-- TASK_CFG, R348. -/
  | taskCfg (c : Cmd)
  /-- PROG_IMAGE, R382. -/
  | progImage (c : Cmd)
  /-- PROG_MAP, R360. -/
  | progMap (c : Cmd)
  /-- PROG_CHANGE, R369. -/
  | progChange (c : Cmd)
  /-- FORCE_SET, R372. -/
  | forceSet (c : Cmd)
  /-- FORCE_CLEAR, R373. -/
  | forceClear (c : Cmd)
  /-- TASK_CONTROL, R380. -/
  | taskControl (c : Cmd)
  /-- TASK_FLAGS, R380. -/
  | taskFlags (c : Cmd)
  /-- TASK_STATUS, R382. -/
  | taskStatus (c : Cmd)
  /-- TASK_FAULT_READ, R368. -/
  | taskFaultRead (c : Cmd)
  /-- FORCE_READ, R381. -/
  | forceRead (c : Cmd)
  /-- DISPATCH, R352. -/
  | dispatch
  /-- LINTIS_NOP, R398. -/
  | opNop (e : Fin 16)
  /-- TAKE, R399. -/
  | opTake (e : Fin 16)
  /-- SIGNAL, R400. -/
  | opSignal (e : Fin 16) (t : BitVec 16) (b : BitVec 8)
  /-- TRAP, R403. -/
  | opTrap (e : Fin 16) (b : BitVec 8)
  /-- TASKNO, R391. -/
  | opTaskno (e : Fin 16)
  /-- CYCFLAGS, R391. -/
  | opCycflags (e : Fin 16)
  /-- CYCNO, R391. -/
  | opCycno (e : Fin 16)
  /-- CTIME, R391. -/
  | opCtime (e : Fin 16)
  /-- FRAMENO, R391. -/
  | opFrameno (e : Fin 16)
  /-- PUSHB, R398. -/
  | opPushb (e : Fin 16) (v : BitVec 8)
  /-- PUSHH, R398. -/
  | opPushh (e : Fin 16) (v : BitVec 16)
  /-- PUSHW, R398. -/
  | opPushw (e : Fin 16) (v : BitVec 32)
  /-- DUP, R398. -/
  | opDup (e : Fin 16)
  /-- DUP2, R398. -/
  | opDup2 (e : Fin 16)
  /-- DROP, R398. -/
  | opDrop (e : Fin 16)
  /-- DROP2, R398. -/
  | opDrop2 (e : Fin 16)
  /-- SWAP, R398. -/
  | opSwap (e : Fin 16)
  /-- SWAP2, R398. -/
  | opSwap2 (e : Fin 16)
  /-- OVER, R398. -/
  | opOver (e : Fin 16)
  /-- PICK, R398. -/
  | opPick (e : Fin 16) (b : BitVec 8)
  /-- LD32, R388. -/
  | opLd32 (e : Fin 16) (a : BitVec 32)
  /-- LD64, R388. -/
  | opLd64 (e : Fin 16) (a : BitVec 32)
  /-- LDU8, R388. -/
  | opLdu8 (e : Fin 16) (a : BitVec 32)
  /-- LDI8, R388. -/
  | opLdi8 (e : Fin 16) (a : BitVec 32)
  /-- LDU16, R388. -/
  | opLdu16 (e : Fin 16) (a : BitVec 32)
  /-- LDI16, R388. -/
  | opLdi16 (e : Fin 16) (a : BitVec 32)
  /-- ST32, R388. -/
  | opSt32 (e : Fin 16) (a : BitVec 32)
  /-- ST64, R388. -/
  | opSt64 (e : Fin 16) (a : BitVec 32)
  /-- ST8, R388. -/
  | opSt8 (e : Fin 16) (a : BitVec 32)
  /-- ST16, R388. -/
  | opSt16 (e : Fin 16) (a : BitVec 32)
  /-- LDX32, R388. -/
  | opLdx32 (e : Fin 16)
  /-- LDX64, R388. -/
  | opLdx64 (e : Fin 16)
  /-- LDXU8, R388. -/
  | opLdxu8 (e : Fin 16)
  /-- STX32, R388. -/
  | opStx32 (e : Fin 16)
  /-- STX64, R388. -/
  | opStx64 (e : Fin 16)
  /-- STX8, R388. -/
  | opStx8 (e : Fin 16)
  /-- IADD, R394. -/
  | opIadd (e : Fin 16)
  /-- ISUB, R394. -/
  | opIsub (e : Fin 16)
  /-- IMUL, R394. -/
  | opImul (e : Fin 16)
  /-- IDIV, R394. -/
  | opIdiv (e : Fin 16)
  /-- IREM, R394. -/
  | opIrem (e : Fin 16)
  /-- INEG, R394. -/
  | opIneg (e : Fin 16)
  /-- UDIV, R394. -/
  | opUdiv (e : Fin 16)
  /-- UREM, R394. -/
  | opUrem (e : Fin 16)
  /-- AND, R398. -/
  | opAnd (e : Fin 16)
  /-- OR, R398. -/
  | opOr (e : Fin 16)
  /-- XOR, R398. -/
  | opXor (e : Fin 16)
  /-- NOT, R398. -/
  | opNot (e : Fin 16)
  /-- SHL, R394. -/
  | opShl (e : Fin 16)
  /-- SHR, R394. -/
  | opShr (e : Fin 16)
  /-- SAR, R394. -/
  | opSar (e : Fin 16)
  /-- LADD, R394. -/
  | opLadd (e : Fin 16)
  /-- LSUB, R394. -/
  | opLsub (e : Fin 16)
  /-- LMUL, R394. -/
  | opLmul (e : Fin 16)
  /-- LDIV, R394. -/
  | opLdiv (e : Fin 16)
  /-- LREM, R394. -/
  | opLrem (e : Fin 16)
  /-- LNEG, R394. -/
  | opLneg (e : Fin 16)
  /-- LAND, R398. -/
  | opLand (e : Fin 16)
  /-- LOR, R398. -/
  | opLor (e : Fin 16)
  /-- LXOR, R398. -/
  | opLxor (e : Fin 16)
  /-- LSHL, R394. -/
  | opLshl (e : Fin 16)
  /-- LSHR, R394. -/
  | opLshr (e : Fin 16)
  /-- LSAR, R394. -/
  | opLsar (e : Fin 16)
  /-- FADD, R395. -/
  | opFadd (e : Fin 16)
  /-- FSUB, R395. -/
  | opFsub (e : Fin 16)
  /-- FMUL, R395. -/
  | opFmul (e : Fin 16)
  /-- FDIV, R395. -/
  | opFdiv (e : Fin 16)
  /-- FNEG, R395. -/
  | opFneg (e : Fin 16)
  /-- FABS, R395. -/
  | opFabs (e : Fin 16)
  /-- FSQRT, R395. -/
  | opFsqrt (e : Fin 16)
  /-- FRINT, R395. -/
  | opFrint (e : Fin 16)
  /-- DADD, R395. -/
  | opDadd (e : Fin 16)
  /-- DSUB, R395. -/
  | opDsub (e : Fin 16)
  /-- DMUL, R395. -/
  | opDmul (e : Fin 16)
  /-- DDIV, R395. -/
  | opDdiv (e : Fin 16)
  /-- DNEG, R395. -/
  | opDneg (e : Fin 16)
  /-- DABS, R395. -/
  | opDabs (e : Fin 16)
  /-- DSQRT, R395. -/
  | opDsqrt (e : Fin 16)
  /-- DRINT, R395. -/
  | opDrint (e : Fin 16)
  /-- ICEQ, R397. -/
  | opIceq (e : Fin 16)
  /-- ICLT, R397. -/
  | opIclt (e : Fin 16)
  /-- ICLE, R397. -/
  | opIcle (e : Fin 16)
  /-- UCLT, R397. -/
  | opUclt (e : Fin 16)
  /-- UCLE, R397. -/
  | opUcle (e : Fin 16)
  /-- LCEQ, R397. -/
  | opLceq (e : Fin 16)
  /-- LCLT, R397. -/
  | opLclt (e : Fin 16)
  /-- LCLE, R397. -/
  | opLcle (e : Fin 16)
  /-- FCEQ, R397. -/
  | opFceq (e : Fin 16)
  /-- FCLT, R397. -/
  | opFclt (e : Fin 16)
  /-- FCLE, R397. -/
  | opFcle (e : Fin 16)
  /-- DCEQ, R397. -/
  | opDceq (e : Fin 16)
  /-- DCLT, R397. -/
  | opDclt (e : Fin 16)
  /-- DCLE, R397. -/
  | opDcle (e : Fin 16)
  /-- EQZ, R397. -/
  | opEqz (e : Fin 16)
  /-- LEQZ, R397. -/
  | opLeqz (e : Fin 16)
  /-- JMP, R393. -/
  | opJmp (e : Fin 16) (j : BitVec 16)
  /-- JMPL, R393. -/
  | opJmpl (e : Fin 16) (k : BitVec 32)
  /-- BZ, R393. -/
  | opBz (e : Fin 16) (j : BitVec 16)
  /-- BNZ, R393. -/
  | opBnz (e : Fin 16) (j : BitVec 16)
  /-- CALL, R401. -/
  | opCall (e : Fin 16) (k : BitVec 32)
  /-- RET, R401. -/
  | opRet (e : Fin 16)
  /-- CALLX, R401. -/
  | opCallx (e : Fin 16)
  /-- JTAB, R401. -/
  | opJtab (e : Fin 16) (w : BitVec 32)
  /-- I2L, R396. -/
  | opI2l (e : Fin 16)
  /-- U2L, R396. -/
  | opU2l (e : Fin 16)
  /-- L2I, R396. -/
  | opL2i (e : Fin 16)
  /-- I2F, R396. -/
  | opI2f (e : Fin 16)
  /-- U2F, R396. -/
  | opU2f (e : Fin 16)
  /-- L2F, R396. -/
  | opL2f (e : Fin 16)
  /-- I2D, R396. -/
  | opI2d (e : Fin 16)
  /-- U2D, R396. -/
  | opU2d (e : Fin 16)
  /-- L2D, R396. -/
  | opL2d (e : Fin 16)
  /-- F2I, R396. -/
  | opF2i (e : Fin 16)
  /-- F2L, R396. -/
  | opF2l (e : Fin 16)
  /-- D2I, R396. -/
  | opD2i (e : Fin 16)
  /-- D2U, R396. -/
  | opD2u (e : Fin 16)
  /-- D2L, R396. -/
  | opD2l (e : Fin 16)
  /-- F2D, R396. -/
  | opF2d (e : Fin 16)
  /-- D2F, R396. -/
  | opD2f (e : Fin 16)
  /-- SEL, R398. -/
  | opSel (e : Fin 16)
  /-- LIMIT, R398. -/
  | opLimit (e : Fin 16)
  /-- BOUND, R398. -/
  | opBound (e : Fin 16)
  /-- LINTIS_MOVE, R402. -/
  | opMove (e : Fin 16)
  /-- FILL, R402. -/
  | opFill (e : Fin 16)
  /-- LDBIT, R398. -/
  | opLdbit (e : Fin 16) (a : BitVec 32) (b : BitVec 8)
  /-- STBIT, R398. -/
  | opStbit (e : Fin 16) (a : BitVec 32) (b : BitVec 8)
  /-- NET_SYSTEM, R450. -/
  | netSystem (c : Cmd)
  /-- NET_NODES, R414. -/
  | netNodes (c : Cmd)
  /-- NET_SLOTS, R450. -/
  | netSlots (c : Cmd)
  /-- NET_PUBS, R426. -/
  | netPubs (c : Cmd)
  /-- NET_LOCAL, R448. -/
  | netLocal (c : Cmd)
  /-- NET_SEND, R447. -/
  | netSend (c : Cmd) (load : Option (List (BitVec 8)))
  /-- NET_PORT_STATUS, R453. -/
  | netPortStatus (c : Cmd)
  /-- NET_NODE_MAP, R453. -/
  | netNodeMap (c : Cmd)
  /-- NETWORK_CYCLE, R420. -/
  | networkCycle
  /-- STATIC_SLOT_SEND, R422. -/
  | staticSlotSend (slot : Fin 1024)
  /-- DYNAMIC_FRAME_SEND, R425. -/
  | dynamicFrameSend (mini : Fin 4096) (chB : Bool)
  /-- BENAND_FRAME_RX, R417. -/
  | benandFrameRx (chB : Bool) (rx : RxFrame)
  /-- PIER_START_DELIMITER, R428. -/
  | pierStartDelimiter (pierB : Bool) (port : Fin 9) (hdr : List (BitVec 8)) (t : Instant)
  /-- SLOT_END_CUT, R430. -/
  | slotEndCut (pierB : Bool) (port : Fin 9) (t : Instant)
  /-- PROBE_REQ, R434. -/
  | probeReq (pierB : Bool) (port : Fin 8) (t : Instant)
  /-- PROBE_REQ_RX, R434. -/
  | probeReqRx (pierB : Bool) (port : Fin 8) (source : BitVec 16) (t : Instant)
  /-- PROBE_RSP, R434. -/
  | probeRsp (pierB : Bool) (port : Fin 8) (source : BitVec 16) (turn : BitVec 32) (t : Instant)
  /-- NET_PORT_DOWN, R435. -/
  | netPortDown (pierB : Bool) (port : Fin 8) (cause : PortDown)
  /-- COLDSTART_OFFER, R439. -/
  | coldstartOffer
  /-- NET_COLDSTART_FAIL, R439. -/
  | netColdstartFail
  /-- COLDSTART_LOCK_RELEASE, R438. -/
  | coldstartLockRelease (pierB : Bool) (t : Instant)
  /-- PAIR_SWAP, R483. -/
  | pairSwap (c : Cmd)
  /-- DIE_RETRY, R484. -/
  | dieRetry (c : Cmd)
  /-- DIAG_INJECT, R624. -/
  | diagInject (die : Die) (value : BitVec 32)
  /-- VALVE_CFG, R516. -/
  | valveCfg (c : Cmd)
  /-- PWM_CFG, R523. -/
  | pwmCfg (c : Cmd)
  /-- SAFETY_UNLOCK, R511. -/
  | safetyUnlock (c : Cmd)
  /-- UNLOCK_LOCKOUT_END, R511. -/
  | unlockLockoutEnd
  /-- SAFETY_COMMIT, R513. -/
  | safetyCommit (c : Cmd)
  /-- SAFETY_CANCEL, R511. -/
  | safetyCancel (c : Cmd)
  /-- SAFETY_PASSWORD, R512. -/
  | safetyPassword (c : Cmd)
  /-- SAFETY_SESSION_TIMEOUT, R511. -/
  | safetySessionTimeout
  /-- SAFETY_ACK, R504. -/
  | safetyAck (c : Cmd)
  /-- SAFE_SELECT, R526. -/
  | safeSelect (c : Cmd)
  /-- SAFETY_GLOBAL, R512. -/
  | safetyGlobal (c : Cmd)
  /-- SAFETY_INPUT, R492. -/
  | safetyInput (c : Cmd)
  /-- SAFETY_OUTPUT, R512. -/
  | safetyOutput (c : Cmd)
  /-- SAFETY_AXIS, R512. -/
  | safetyAxis (c : Cmd)
  /-- SAFETY_SLP, R512. -/
  | safetySlp (c : Cmd)
  /-- SAFETY_AXIS_STATUS, R527. -/
  | safetyAxisStatus (c : Cmd)
  /-- SAFETY_LOG_READ, R515. -/
  | safetyLogRead (c : Cmd)
  /-- SAFETY_INPUT_ACCEPT, R492. -/
  | safetyInputAccept (k : Fin 16) (ball2 : Bool) (level : Bool) (held : Nat) (t : Instant)
  /-- SAFETY_DISCREPANCY, R492. -/
  | safetyDiscrepancy (k : Fin 16) (t : Instant)
  /-- SAFETY_VERDICT_EXCHANGE, R490. -/
  | safetyVerdictExchange (xcomp : BitVec 32)
  /-- SS1_STANDSTILL, R500. -/
  | ss1Standstill (k : Fin 8)
  /-- SS1_TIMEOUT, R500. -/
  | ss1Timeout (k : Fin 8)
  /-- SAFETY_EDM_FAULT, R503. -/
  | safetyEdmFault (i : Fin 16) (t : Instant)
  /-- SAFETY_CHANNEL_RESTORED, R509. -/
  | safetyChannelRestored (ch : Die)
  /-- OUTPUT_TEST_START, R517. -/
  | outputTestStart (o : TestedOut) (t : Instant)
  /-- OUTPUT_TEST_END, R518. -/
  | outputTestEnd (o : TestedOut) (pulseRead afterRead : Bool) (t : Instant)
  /-- OUTPUT_READBACK, R519. -/
  | outputReadback (o : TestedOut) (t : Instant)
  /-- OUTPUT_UNTESTED, R521. -/
  | outputUntested (o : TestedOut) (t : Instant)
  /-- VALVE_FAULT_CLEAR, R522. -/
  | valveFaultClear (hi : Bool) (value : BitVec 32)
  /-- PWM_PERIOD_START, R524. -/
  | pwmPeriodStart (n : Fin 32) (t : Instant)
  /-- PWM_HIGH_END, R524. -/
  | pwmHighEnd (n : Fin 32) (t : Instant)
  /-- TRUST_SVN_COMMIT, R605. -/
  | trustSvnCommit (c : Cmd)
  /-- TRUST_PROVISION, R606. -/
  | trustProvision (c : Cmd) (load : Option (List (BitVec 8)))
  /-- ATTEST, R608. -/
  | attest (c : Cmd)
  /-- IDENTITY_CERT, R607. -/
  | identityCert (c : Cmd)
  /-- DEBUG_CHALLENGE, R609. -/
  | debugChallenge (c : Cmd)
  /-- DEBUG_CHALLENGE_EXPIRY, R609. -/
  | debugChallengeExpiry (t : Instant)
  /-- DEBUG_UNLOCK, R610. -/
  | debugUnlock (c : Cmd) (load : Option (List (BitVec 8)))
  /-- DEBUG_LOCK, R611. -/
  | debugLock (c : Cmd)
  /-- DEBUG_SCOPE_EXPIRY, R611. -/
  | debugScopeExpiry (t : Instant)
  /-- ABORT, R555. -/
  | abort (c : Cmd)
  /-- NOP, R554. -/
  | nop (c : Cmd)
  /-- DMA_TO_DECK, R559. -/
  | dmaToDeck (c : Cmd)
  /-- DMA_FROM_DECK, R559. -/
  | dmaFromDeck (c : Cmd)
  /-- HDMA_DESCRIPTOR_FETCHED, R556. -/
  | hdmaDescriptorFetched (h : Fin 16) (desc : BitVec 128)
  /-- HDMA_DATA_DONE, R559. -/
  | hdmaDataDone (h : Fin 16) (data : List (BitVec 8))
  /-- HDMA_BUS_ERROR, R562. -/
  | hdmaBusError (addr : BitVec 64) (outstanding : BitVec 16) (cause : BusCause)
  /-- HDMA_PAUSE, R560. -/
  | hdmaPause (h : Fin 16)
  /-- HDMA_PAUSE_CLEAR, R560. -/
  | hdmaPauseClear (h : Fin 16)
  /-- HDMA_RESUME, R563. -/
  | hdmaResume (h : Fin 16)
  /-- FDMA_PAUSE, R566. -/
  | fdmaPause (value : BitVec 32)
  /-- FDMA_RESUME, R565. -/
  | fdmaResume (value : BitVec 32)
  /-- COUNTER_SELECT, R597. -/
  | counterSelect (c : Cmd)
  /-- COUNTER_DUMP_CFG, R592. -/
  | counterDumpCfg (c : Cmd)
  /-- PRECISE_CFG, R593. -/
  | preciseCfg (c : Cmd)
  /-- DB_POLL, R534. -/
  | dbPoll (value : BitVec 32)
  /-- DOORBELL_POLL, R534. -/
  | doorbellPoll (page : DoorbellPage) (us : Nat)
  /-- DOORBELL_BUS_ERROR, R538. -/
  | doorbellBusError (cause : BusCause)
  /-- SUBMISSION_READ_FAIL, R658. -/
  | submissionReadFail (ring : Fin 32) (cause : BusCause)
  /-- RING_ERR_CLEAR, R541. -/
  | ringErrClear (value : BitVec 32)
  /-- SESSION_CTRL_CLOSE, R549. -/
  | sessionCtrlClose (value : BitVec 32)
  /-- HOST_SESSION_CLOSED, R550. -/
  | hostSessionClosed
  /-- RING_IRQ_DELAY, R533. -/
  | ringIrqDelay (ring : Fin 32) (us : Nat)
  /-- READY_STATUS_CLR, R147. -/
  | readyStatusClr (value : BitVec 32)
  /-- VIOL_INFO_CLR, R567. -/
  | violInfoClr (value : BitVec 32)
  /-- LOW_HALF_READ, R617. -/
  | lowHalfRead (offset : BitVec 16) (wide : Bool)
  /-- PAIR_WINDOW_READ, R621. -/
  | pairWindowRead (offset : BitVec 16)
  /-- SETUP_WRITE, R622. -/
  | setupWrite (offset : BitVec 16) (value : BitVec 64) (wide : Bool)
  /-- UNSUPPORTED_ACCESS, R616. -/
  | unsupportedAccess (offset : BitVec 16) (write : Bool) (be : BitVec 4)
  /-- ACCUMULATOR_STROBE, R192. -/
  | accumulatorStrobe (t : Instant)
  /-- HBD_FAULT, R32. -/
  | hbdFault (region : Fin 6) (extent : Extent) (unit : Fin 128)
  /-- PMBUS_NACK, R74. -/
  | pmbusNack (t : Instant)
  /-- PERST_RELEASE, R531. -/
  | perstRelease
  /-- TAP_INSTRUCTION, R647. -/
  | tapInstruction (fieldTap : Bool) (ir : Nat)
  deriving DecidableEq, Repr

end Sys2Proof
end

