-- ==== Sys2Proof/Decode.lean ====
section
/-!
DEFINITION. Decoding. The block's commands come as submission entries, register accesses and events; no row of the opcode
table gives a word for its command any bits.
-/

namespace Sys2Proof

/-- The command a word spells: no row of the table gives bits, so none does. Log: 2 (DESIGN CHOICE, safe). -/
def decodeTableWord (_nbits _w : Nat) : Option Instr := none

end Sys2Proof
end

