-- ==== Sys2Proof/Config.lean ====
section
/-!
DEFINITION. What the spec fixes per part or leaves open: constants without a body, so that no proof can see a value.
-/

namespace Sys2Proof.Config

/-- Bytes of the true random challenge of DEBUG_CHALLENGE (R609), by draw and byte. Log: 5 (DESIGN CHOICE, safe). -/
opaque challenge : Nat → Nat → Byte

/-- The fused identity seed from which the part's Ed25519 key pair is made (Table 17-1). Log: 7 (DESIGN CHOICE, unsafe). -/
opaque identitySeed : Nat → Byte

/-- The four fused vendor public keys, by key and byte (Table 17-1). Log: 7 (DESIGN CHOICE, unsafe). -/
opaque vendorKey : Nat → Nat → Byte

/-- The fused serial number (Table 17-1). Log: 7 (DESIGN CHOICE, unsafe). -/
opaque serial : DWord

/-- The fused screening grade: true for extended reliability (R1). Log: 7 (DESIGN CHOICE, unsafe). -/
opaque grade : Bool

/-- The vendor signature of the identity certificate, fused at manufacture (R607). Log: 7 (DESIGN CHOICE, unsafe). -/
opaque certSignature : Nat → Byte

/-- What the HBD's own clock counts in ns between two instants that the commands do not time, by draw (R85).
Log: 5 (DESIGN CHOICE, safe), 25 (DESIGN CHOICE, unsafe). -/
opaque hbdClock : Nat → Nat

/-- What the work length of a field region exceeds 1 by, by draw and region: the consistency check computes it, and it is no
published figure (R66). Log: 105 (DESIGN CHOICE, safe). -/
opaque workLength : Nat → Nat → Nat

/-- The work length that the HBD's firmware fixes for a region (R68). Log: 105 (DESIGN CHOICE, safe). -/
opaque hbdWork : Nat → Nat

/-- The canary delay of a region of the HBD in a frame, in 312.5 ps, by draw and region (R68).
Log: 105 (DESIGN CHOICE, safe). -/
opaque hbdCanary : Nat → Nat → Nat

/-- Whether the worst-corner budget of R78 is exceeded by a configuration that a command would give, and in which region,
by draw: the spec gives the test but not the times it adds up. Log: 5 (DESIGN CHOICE, safe), 12 (DESIGN CHOICE, safe). -/
opaque overBudget : Nat → Option (Fin 8)

/-- What a field of that many bits holds where the exact value lies outside it and no rule saturates or wraps it.
Log: 14 (DESIGN CHOICE, safe). -/
opaque outOfFormat : Nat → Int → Int

/-- A result the spec states no value for, by draw. Log: 5 (DESIGN CHOICE, safe), 66 (DESIGN CHOICE, safe). -/
opaque unstated : Nat → Int

end Sys2Proof.Config
end

