-- ==== Sys2Proof/Machine/Bits.lean ====
section
/-!
DEFINITION. Bit fields, little-endian bytes, two's complement views, saturation and exact rounding, said once for all
chapters.
-/

namespace Sys2Proof.Machine.Bits

/-- Bits [hi:lo] of a number (R3). -/
def field (w hi lo : Nat) : Nat := (w >>> lo) % 2 ^ (hi + 1 - lo)

/-- One bit of a number (R3). -/
def bit (w i : Nat) : Bool := w.testBit i

/-- A Bool as 0 or 1. -/
def b2n (b : Bool) : Nat := if b then 1 else 0

/-- Places a value at bit `lo`, keeping its low `n` bits. -/
def place (v n lo : Nat) : Nat := (v % 2 ^ n) <<< lo

/-- The two's complement reading of the low `n` bits. -/
def signed (n w : Nat) : Int :=
  let u := w % 2 ^ n
  if u < 2 ^ (n - 1) then (u : Int) else (u : Int) - 2 ^ n

/-- The low `n` bits of an integer as a natural number. -/
def unsigned (n : Nat) (z : Int) : Nat := (z % (2 ^ n : Int)).toNat

/-- Wraps an integer to `n`-bit two's complement. -/
def wrap (n : Nat) (z : Int) : Int := signed n (unsigned n z)

/-- Limits an integer to a range. -/
def clamp (lo hi z : Int) : Int := if z < lo then lo else if hi < z then hi else z

/-- Saturates to `n`-bit two's complement. -/
def sat (n : Nat) (z : Int) : Int := clamp (-(2 ^ (n - 1) : Int)) (2 ^ (n - 1) - 1) z

/-- Whether an integer lies in `n`-bit two's complement. -/
def inS (n : Nat) (z : Int) : Bool := decide (-(2 ^ (n - 1) : Int) ≤ z) && decide (z ≤ 2 ^ (n - 1) - 1)

/-- A value in a two's-complement format of `n` bits: itself where it lies in the format; the spec states no value otherwise.
Log: 14 (DESIGN CHOICE, safe). -/
def fit (n : Nat) (z : Int) : Int := if inS n z then z else wrap n (Config.outOfFormat n z)

/-- A count in an unsigned field of `n` bits: itself where the field holds it; the spec states no value otherwise.
Log: 14 (DESIGN CHOICE, safe). -/
def fitU (n v : Nat) : Nat := if v < 2 ^ n then v else unsigned n (Config.outOfFormat n v)

/-- A counter of `n` bits that stays at its maximum. -/
def satInc (n v : Nat) : Nat := if v + 1 < 2 ^ n then v + 1 else 2 ^ n - 1

/-- Adds to a counter of `n` bits that stays at its maximum. -/
def satAdd (n v d : Nat) : Nat := if v + d < 2 ^ n then v + d else 2 ^ n - 1

/-- The little-endian value of a list of bytes (R4). -/
def ofLe : Bytes → Nat
  | [] => 0
  | b :: bs => b.toNat + 256 * ofLe bs

/-- The low `n` bytes of a value, little-endian (R4). -/
def toLe (n v : Nat) : Bytes :=
  match n with
  | 0 => []
  | n + 1 => BitVec.ofNat 8 v :: toLe n (v / 256)

/-- `len` bytes of a list from an offset on, zero past its end. -/
def slice (bs : Bytes) (off len : Nat) : Bytes :=
  let t := (bs.drop off).take len
  t ++ List.replicate (len - t.length) 0

/-- The little-endian number of `len` bytes at an offset. -/
def leAt (bs : Bytes) (off len : Nat) : Nat := ofLe (slice bs off len)

/-- Overwrites bytes of a list at an offset. -/
def patch (bs : Bytes) (off : Nat) (v : Bytes) : Bytes := bs.take off ++ v ++ bs.drop (off + v.length)

/-- `num / den` rounded to the nearest integer, a tie to the even one; `den` is positive. -/
def roundDiv (num : Int) (den : Nat) : Int :=
  let q := num / (den : Int)
  let r := (num % (den : Int)) * 2
  if r < den then q else if (den : Int) < r then q + 1 else if q % 2 = 0 then q else q + 1

/-- `z / 2 ^ k` rounded half to even. -/
def roundShift (z : Int) (k : Nat) : Int := roundDiv z (2 ^ k)

/-- `z * 2 ^ k`, for a negative `k` rounded half to even. -/
def scale2 (z : Int) (k : Int) : Int :=
  if 0 ≤ k then z * 2 ^ k.toNat else roundShift z (-k).toNat

/-- The largest `r` in `fuel` bits with `r * r ≤ n`, bit by bit. -/
def isqrtAux (n : Nat) : Nat → Nat → Nat
  | 0, r => r
  | k + 1, r => let r' := r + 2 ^ k; if r' * r' ≤ n then isqrtAux n k r' else isqrtAux n k r

/-- The integer square root. -/
def isqrt (n : Nat) : Nat := isqrtAux n (n.log2 / 2 + 1) 0

/-- The indices of the set bits of the low `n` bits, ascending. -/
def bitsOf (w n : Nat) : List Nat := (List.range n).filter w.testBit

/-- Sets or clears one bit. -/
def setBit (w i : Nat) (b : Bool) : Nat :=
  if w.testBit i == b then w else if b then w + 2 ^ i else w - 2 ^ i

/-- Clears in a flag word the bits a write-one-to-clear write gives (Table 0-3). -/
def w1c (w clear n : Nat) : Nat := (w % 2 ^ n) &&& ((2 ^ n - 1) ^^^ (clear % 2 ^ n))

/-- Median of three. -/
def mid3 (a b c : Int) : Int := max (min a b) (min (max a b) c)

end Sys2Proof.Machine.Bits
end

