-- ==== Sys2Proof/Machine/Crypto.lean ====
section
/-!
DEFINITION. The check and signature functions the chapters name: CRC-32C (R416), CRC-64 of ECMA-182 (R461), SHA-512
(FIPS 180-4) and Ed25519 (RFC 8032) as R600 uses them. All are structural recursions on Nat and lists of bytes.
-/

namespace Sys2Proof.Machine.Crypto

/-- One bit step of the reflected CRC-32C. -/
def crc32cBit (r : Nat) : Nat := if r % 2 = 1 then (r >>> 1) ^^^ 0x82F63B78 else r >>> 1

/-- One byte step of CRC-32C. -/
def crc32cByte (r b : Nat) : Nat := Nat.repeat crc32cBit 8 (r ^^^ b)

/-- The CRC-32C register after more bytes. -/
def crc32cRun (r : Nat) (bs : Bytes) : Nat := bs.foldl (fun r b => crc32cByte r b.toNat) r

/-- CRC-32C: polynomial 0x1EDC_6F41 reflected, initial value and final XOR 0xFFFF_FFFF (R416).
Log: 100 (PRESUMED, unsafe). -/
def crc32c (bs : Bytes) : Nat := crc32cRun 0xFFFFFFFF bs ^^^ 0xFFFFFFFF

/-- One bit step of the CRC-64. -/
def crc64Bit (r : Nat) : Nat :=
  if r.testBit 63 then ((r <<< 1) % 2 ^ 64) ^^^ 0x42F0E1EBA9EA3693 else (r <<< 1) % 2 ^ 64

/-- The CRC-64 of R461: not reflected, initial value and final XOR all ones. Log: 100 (PRESUMED, unsafe). -/
def crc64 (bs : Bytes) : Nat :=
  bs.foldl (fun r b => Nat.repeat crc64Bit 8 (r ^^^ (b.toNat <<< 56))) (2 ^ 64 - 1) ^^^ (2 ^ 64 - 1)

/-- The round constants of SHA-512: the cube roots of the first 80 primes. -/
def shaK1 : List Nat := [
  0x428A2F98D728AE22, 0x7137449123EF65CD, 0xB5C0FBCFEC4D3B2F, 0xE9B5DBA58189DBBC,
  0x3956C25BF348B538, 0x59F111F1B605D019, 0x923F82A4AF194F9B, 0xAB1C5ED5DA6D8118,
  0xD807AA98A3030242, 0x12835B0145706FBE, 0x243185BE4EE4B28C, 0x550C7DC3D5FFB4E2,
  0x72BE5D74F27B896F, 0x80DEB1FE3B1696B1, 0x9BDC06A725C71235, 0xC19BF174CF692694,
  0xE49B69C19EF14AD2, 0xEFBE4786384F25E3, 0x0FC19DC68B8CD5B5, 0x240CA1CC77AC9C65,
  0x2DE92C6F592B0275, 0x4A7484AA6EA6E483, 0x5CB0A9DCBD41FBD4, 0x76F988DA831153B5,
  0x983E5152EE66DFAB, 0xA831C66D2DB43210, 0xB00327C898FB213F, 0xBF597FC7BEEF0EE4,
  0xC6E00BF33DA88FC2, 0xD5A79147930AA725, 0x06CA6351E003826F, 0x142929670A0E6E70,
  0x27B70A8546D22FFC, 0x2E1B21385C26C926, 0x4D2C6DFC5AC42AED, 0x53380D139D95B3DF,
  0x650A73548BAF63DE, 0x766A0ABB3C77B2A8, 0x81C2C92E47EDAEE6, 0x92722C851482353B]

/-- The rest of the round constants. -/
def shaK2 : List Nat := [
  0xA2BFE8A14CF10364, 0xA81A664BBC423001, 0xC24B8B70D0F89791, 0xC76C51A30654BE30,
  0xD192E819D6EF5218, 0xD69906245565A910, 0xF40E35855771202A, 0x106AA07032BBD1B8,
  0x19A4C116B8D2D0C8, 0x1E376C085141AB53, 0x2748774CDF8EEB99, 0x34B0BCB5E19B48A8,
  0x391C0CB3C5C95A63, 0x4ED8AA4AE3418ACB, 0x5B9CCA4F7763E373, 0x682E6FF3D6B2B8A3,
  0x748F82EE5DEFB2FC, 0x78A5636F43172F60, 0x84C87814A1F0AB72, 0x8CC702081A6439EC,
  0x90BEFFFA23631E28, 0xA4506CEBDE82BDE9, 0xBEF9A3F7B2C67915, 0xC67178F2E372532B,
  0xCA273ECEEA26619C, 0xD186B8C721C0C207, 0xEADA7DD6CDE0EB1E, 0xF57D4F7FEE6ED178,
  0x06F067AA72176FBA, 0x0A637DC5A2C898A6, 0x113F9804BEF90DAE, 0x1B710B35131C471B,
  0x28DB77F523047D84, 0x32CAAB7B40C72493, 0x3C9EBE0A15C9BEBC, 0x431D67C49C100D4C,
  0x4CC5D4BECB3E42B6, 0x597F299CFC657E2A, 0x5FCB6FAB3AD6FAEC, 0x6C44198C4A475817]

/-- The initial hash value of SHA-512. -/
def shaH : List Nat := [
  0x6A09E667F3BCC908, 0xBB67AE8584CAA73B, 0x3C6EF372FE94F82B, 0xA54FF53A5F1D36F1,
  0x510E527FADE682D1, 0x9B05688C2B3E6C1F, 0x1F83D9ABFB41BD6B, 0x5BE0CD19137E2179]

/-- Rotation right in 64 bits. -/
def rotr (x k : Nat) : Nat := (x >>> k) ||| ((x <<< (64 - k)) % 2 ^ 64)

/-- Complement in 64 bits. -/
def not64 (x : Nat) : Nat := x ^^^ (2 ^ 64 - 1)

/-- The padded message: 0x80, zeros, the bit length in 128 bits, big-endian. -/
def shaPad (bs : Bytes) : Bytes :=
  let n := bs.length
  let z := (239 - n % 128) % 128
  bs ++ [0x80#8] ++ List.replicate z 0#8 ++ ((Bits.toLe 16 (8 * n)).reverse)

/-- The big-endian 64-bit words of a block. -/
def shaWords (fuel : Nat) (bs : Bytes) : List Nat :=
  match fuel with
  | 0 => []
  | f + 1 => Bits.ofLe (bs.take 8).reverse :: shaWords f (bs.drop 8)

/-- The message schedule, newest word first. -/
def shaSched (fuel : Nat) (w : List Nat) : List Nat :=
  match fuel with
  | 0 => w
  | f + 1 =>
    let a := w.getD 14 0
    let b := w.getD 1 0
    let s0 := rotr a 1 ^^^ rotr a 8 ^^^ (a >>> 7)
    let s1 := rotr b 19 ^^^ rotr b 61 ^^^ (b >>> 6)
    shaSched f ((s1 + w.getD 6 0 + s0 + w.getD 15 0) % 2 ^ 64 :: w)

/-- The eight working variables. -/
structure Sha where
  a : Nat
  b : Nat
  c : Nat
  d : Nat
  e : Nat
  f : Nat
  g : Nat
  h : Nat

/-- One round. -/
def shaRound (s : Sha) (kw : Nat × Nat) : Sha :=
  let s1 := rotr s.e 14 ^^^ rotr s.e 18 ^^^ rotr s.e 41
  let ch := (s.e &&& s.f) ^^^ (not64 s.e &&& s.g)
  let t1 := s.h + s1 + ch + kw.1 + kw.2
  let s0 := rotr s.a 28 ^^^ rotr s.a 34 ^^^ rotr s.a 39
  let mj := (s.a &&& s.b) ^^^ (s.a &&& s.c) ^^^ (s.b &&& s.c)
  { a := (t1 + s0 + mj) % 2 ^ 64, b := s.a, c := s.b, d := s.c, e := (s.d + t1) % 2 ^ 64, f := s.e, g := s.f, h := s.g }

/-- One block. -/
def shaBlock (hs : List Nat) (blk : Bytes) : List Nat :=
  let w := (shaSched 64 (shaWords 16 blk).reverse).reverse
  let g := fun i => hs.getD i 0
  let r := ((shaK1 ++ shaK2).zip w).foldl shaRound
    { a := g 0, b := g 1, c := g 2, d := g 3, e := g 4, f := g 5, g := g 6, h := g 7 }
  [g 0 + r.a, g 1 + r.b, g 2 + r.c, g 3 + r.d, g 4 + r.e, g 5 + r.f, g 6 + r.g, g 7 + r.h].map (· % 2 ^ 64)

/-- All blocks. -/
def shaRun (fuel : Nat) (hs : List Nat) (bs : Bytes) : List Nat :=
  match fuel with
  | 0 => hs
  | n + 1 => if bs.isEmpty then hs else shaRun n (shaBlock hs (bs.take 128)) (bs.drop 128)

/-- SHA-512 (FIPS 180-4): 64 bytes. Log: 100 (PRESUMED, unsafe). -/
def sha512 (bs : Bytes) : Bytes :=
  let p := shaPad bs
  (shaRun (p.length / 128) shaH p).flatMap fun w => (Bits.toLe 8 w).reverse

/-- The field prime 2^255 - 19. -/
def edP : Nat := 2 ^ 255 - 19

/-- The order of the base point. -/
def edL : Nat := 2 ^ 252 + 27742317777372353535851937790883648493

/-- Modular power over the bits of the exponent, high to low. -/
def powMod (b e p fuel acc : Nat) : Nat :=
  match fuel with
  | 0 => acc
  | n + 1 =>
    let a2 := acc * acc % p
    powMod b e p n (if e.testBit n then a2 * b % p else a2)

/-- The inverse in the field. -/
def edInv (x : Nat) : Nat := powMod x (edP - 2) edP 255 1

/-- The curve constant d. -/
def edD : Nat := (edP - 121665) * edInv 121666 % edP

/-- A point in extended coordinates. -/
structure EdPt where
  x : Nat
  y : Nat
  z : Nat
  t : Nat

/-- Subtraction in the field. -/
def edSub (a b : Nat) : Nat := (a + edP - b % edP) % edP

/-- Point addition (complete). -/
def edAdd (d : Nat) (p q : EdPt) : EdPt :=
  let a := edSub p.y p.x * edSub q.y q.x % edP
  let b := (p.y + p.x) * (q.y + q.x) % edP
  let c := 2 * p.t * q.t % edP * d % edP
  let e := 2 * p.z * q.z % edP
  let h := (b + a) % edP
  let f := edSub e c
  let g := (e + c) % edP
  let i := edSub b a
  ⟨i * f % edP, g * h % edP, f * g % edP, i * h % edP⟩

/-- Scalar multiplication, high bit first. -/
def edMul (d : Nat) (p : EdPt) (k fuel : Nat) (acc : EdPt) : EdPt :=
  match fuel with
  | 0 => acc
  | n + 1 =>
    let a2 := edAdd d acc acc
    edMul d p k n (if k.testBit n then edAdd d a2 p else a2)

/-- The neutral point. -/
def edZero : EdPt := ⟨0, 1, 1, 0⟩

/-- The x coordinate of sign `sgn` for a y, if the point is on the curve. -/
def edRecover (y sgn : Nat) : Option Nat :=
  if edP ≤ y then none
  else
    let x2 := edSub (y * y) 1 * edInv ((edD * (y * y % edP) + 1) % edP) % edP
    if x2 = 0 then (if sgn = 1 then none else some 0)
    else
      let r := powMod x2 ((edP + 3) / 8) edP 253 1
      let r := if r * r % edP = x2 then r else r * powMod 2 ((edP - 1) / 4) edP 254 1 % edP
      if r * r % edP ≠ x2 then none
      else some (if r % 2 = sgn then r else edP - r)

/-- Decodes a 32-byte point. -/
def edDecode (bs : Bytes) : Option EdPt :=
  let v := Bits.ofLe bs
  let y := v % 2 ^ 255
  match edRecover y (v / 2 ^ 255) with
  | none => none
  | some x => some ⟨x, y, 1, x * y % edP⟩

/-- Encodes a point in 32 bytes. -/
def edEncode (p : EdPt) : Bytes :=
  let zi := edInv p.z
  let x := p.x * zi % edP
  let y := p.y * zi % edP
  Bits.toLe 32 (y + (x % 2) * 2 ^ 255)

/-- The base point. -/
def edBase : EdPt :=
  let y := 4 * edInv 5 % edP
  match edRecover y 0 with
  | some x => ⟨x, y, 1, x * y % edP⟩
  | none => edZero

/-- The two halves of a private key's hash: the scalar and the prefix. -/
def edExpand (seed : Bytes) : Nat × Bytes :=
  let h := sha512 seed
  let a := Bits.ofLe (h.take 32) % 2 ^ 254
  (a - a % 8 + 2 ^ 254, h.drop 32)

/-- The public key of a seed. -/
def edPublic (seed : Bytes) : Bytes := edEncode (edMul edD edBase (edExpand seed).1 255 edZero)

/-- PureEdDSA signature of a message. -/
def edSign (seed msg : Bytes) : Bytes :=
  let (a, pre) := edExpand seed
  let pk := edEncode (edMul edD edBase a 255 edZero)
  let r := Bits.ofLe (sha512 (pre ++ msg)) % edL
  let rb := edEncode (edMul edD edBase r 255 edZero)
  let k := Bits.ofLe (sha512 (rb ++ pk ++ msg)) % edL
  rb ++ Bits.toLe 32 ((r + k * a) % edL)

/-- PureEdDSA verification of a 64-byte signature. Log: 100 (PRESUMED, unsafe). -/
def edVerify (pk msg sig : Bytes) : Bool :=
  if sig.length ≠ 64 || pk.length ≠ 32 then false
  else
    match edDecode pk, edDecode (sig.take 32) with
    | some a, some r =>
      let s := Bits.ofLe (sig.drop 32)
      if edL ≤ s then false
      else
        let k := Bits.ofLe (sha512 (sig.take 32 ++ pk ++ msg)) % edL
        let l := edMul edD edBase s 253 edZero
        let q := edAdd edD r (edMul edD a k 253 edZero)
        l.x * q.z % edP == q.x * l.z % edP && l.y * q.z % edP == q.y * l.z % edP
    | _, _ => false

end Sys2Proof.Machine.Crypto
end

