-- ==== Sys2Proof/Machine/Tab.lean ====
section
/-!
DEFINITION. Tables of like things by number: a list of (number, content) pairs in ONE canonical form, numbers strictly
rising and no entry equal to the reset content, so that equal tables are equal data. The per-unit tables of State, the
Deck and the host memory the device has written are such tables.
-/

namespace Sys2Proof.Machine

/-- A table: an unlisted number holds `default`, the reset content of its kind. -/
abbrev Tab (α : Type) := List (Nat × α)

/-- The content at a number. -/
def Tab.get {α : Type} [Inhabited α] : Tab α → Nat → α
  | [], _ => default
  | (j, a) :: t, k => if j = k then a else if k < j then default else Tab.get t k

/-- Inserts a content that is not the reset content. -/
def Tab.put {α : Type} (t : Tab α) (k : Nat) (v : α) : Tab α :=
  match t with
  | [] => [(k, v)]
  | (j, a) :: t => if j < k then (j, a) :: Tab.put t k v else if j = k then (k, v) :: t else (k, v) :: (j, a) :: t

/-- Removes a number's entry: it holds the reset content again. -/
def Tab.erase {α : Type} (t : Tab α) (k : Nat) : Tab α :=
  match t with
  | [] => []
  | (j, a) :: t => if j < k then (j, a) :: Tab.erase t k else if j = k then t else (j, a) :: t

/-- Sets the content at a number; the reset content is not listed. -/
def Tab.set {α : Type} [Inhabited α] [DecidableEq α] (t : Tab α) (k : Nat) (v : α) : Tab α :=
  if v = default then Tab.erase t k else Tab.put t k v

/-- Changes the content at a number. -/
def Tab.modify {α : Type} [Inhabited α] [DecidableEq α] (t : Tab α) (k : Nat) (f : α → α) : Tab α :=
  Tab.set t k (f (Tab.get t k))

/-- Every number of a table's list is above `k`. -/
def Tab.above {α : Type} (k : Nat) : Tab α → Bool
  | [] => true
  | (j, _) :: _ => decide (k < j)

/-- The canonical form: numbers strictly rising, no entry equal to the reset content. -/
def Tab.wf {α : Type} [Inhabited α] [DecidableEq α] : Tab α → Bool
  | [] => true
  | (j, a) :: t => decide (a ≠ default) && Tab.above j t && Tab.wf t

/-- Changes every number of a list of numbers. -/
def Tab.modifyAll {α : Type} [Inhabited α] [DecidableEq α] (t : Tab α) (ks : List Nat) (f : Nat → α → α) : Tab α :=
  ks.foldl (fun t k => Tab.modify t k (f k)) t

/-- Rewrites every listed content; those that become the reset content leave the list. -/
def Tab.mapVals {α : Type} [Inhabited α] [DecidableEq α] (t : Tab α) (f : Nat → α → α) : Tab α :=
  t.filterMap fun (k, a) => let b := f k a; if b = default then none else some (k, b)

/-- A byte memory: an unlisted address reads as zero. Log: 8 (DESIGN CHOICE, unsafe). -/
abbrev Mem := Tab Byte

/-- `n` bytes from an address, lowest first. -/
def Mem.read (m : Mem) (addr : Nat) : Nat → Bytes
  | 0 => []
  | n + 1 => Tab.get m addr :: Mem.read m (addr + 1) n

/-- Stores bytes from an address on, lowest first. -/
def Mem.write (m : Mem) (addr : Nat) : Bytes → Mem
  | [] => m
  | b :: bs => Mem.write (Tab.set m addr b) (addr + 1) bs

/-- The little-endian value of `n` bytes at an address (R4). -/
def Mem.readLe (m : Mem) (addr : Nat) : Nat → Nat
  | 0 => 0
  | n + 1 => (Tab.get m addr).toNat + 256 * Mem.readLe m (addr + 1) n

/-- Stores the low `n` bytes of a value, little-endian (R4). -/
def Mem.writeLe (m : Mem) (addr : Nat) (n v : Nat) : Mem :=
  match n with
  | 0 => m
  | n + 1 => Mem.writeLe (Tab.set m addr (BitVec.ofNat 8 v)) (addr + 1) n (v / 256)

/-- Makes `n` bytes from an address on zero: they hold the reset content again. -/
def Mem.clear (m : Mem) (addr n : Nat) : Mem := m.filter fun q => decide (q.1 < addr) || decide (addr + n ≤ q.1)

end Sys2Proof.Machine
end

