-- ==== Sys2Proof/Machine/Types/Core.lean ====
section
/-!
DEFINITION. The plain data the chapters share: modes, completion statuses, completions, event records, time and the
state of the time, mode, pair and recorder chapters.
-/

namespace Sys2Proof.Machine

/-- The eight operating modes (Table 3-1). -/
inductive Mode where
  | reset
  | boot
  | configure
  | commission
  | run
  | hold
  | degraded
  | safeStop
  deriving DecidableEq, Repr, Inhabited

/-- Completion status codes (Table 0-4). -/
inductive Status where
  | done
  | accepted
  | aborted
  | nothingToAbort
  | refused
  | notReady
  | malformed
  | wrongMode
  | locked
  | chainLimit
  | busError
  | deferred
  deriving DecidableEq, Repr, Inhabited

/-- Where a completion belongs: the command's tag, session, ring and opcode (Table 15-5). -/
structure Origin where
  tag : Nat := 0
  session : Nat := 0
  sq : Nat := 0
  opcode : Nat := 0
  deriving DecidableEq, Repr, Inhabited

/-- A completion before its SEQ is assigned (Table 15-5, R542). -/
structure Compl where
  org : Origin := {}
  status : Status := .done
  reason : Nat := 0
  /-- The 16 result bytes as a number. -/
  result : Nat := 0
  interim : Bool := false
  /-- Whether the HBD made it itself, so that it needs no Barrier Link. -/
  atHbd : Bool := false
  /-- The refusal of an entry whose tag was in use: it ends no command's wait (R543). -/
  dup : Bool := false
  deriving DecidableEq, Repr, Inhabited

/-- An event record before it is committed (Table 16-1). -/
structure Ev where
  /-- Frame number of the boundary that commits it. -/
  stamp : Nat := 0
  /-- Raised between two boundaries: the next one is its stamp. -/
  mid : Bool := false
  /-- Severity and event number. -/
  code : Nat := 0
  /-- Locator bits [22:8]. -/
  src : Nat := 0
  p0 : Nat := 0
  p1 : Nat := 0
  deriving DecidableEq, Repr, Inhabited

/-- An event record of the HBD series or one received from the field: SEQ, time in ns, and the rest. -/
structure HRec where
  seq : Nat := 0
  sec : Nat := 0
  ns : Nat := 0
  code : Nat := 0
  src : Nat := 0
  p0 : Nat := 0
  p1 : Nat := 0
  deriving DecidableEq, Repr, Inhabited

/-- A stream entry handed to the barrier: 32 bytes as a number, SEQ inside (R300). -/
structure SEntry where
  bytes : Nat := 0
  deriving DecidableEq, Repr, Inhabited

/-- The once-per-64-frames limit of one event of one unit (R82). -/
structure Limit where
  /-- One more than the frame of the last event; 0 none yet. -/
  last : Nat := 0
  /-- Happenings since that event. -/
  since : Nat := 0
  deriving DecidableEq, Repr, Inhabited

/-- Supplies and resets of the two sides (R137, R143, R531). -/
structure Power where
  fieldValid : Bool := false
  hostValid : Bool := false
  perst : Bool := true
  hbdReady : Bool := false
  deriving DecidableEq, Repr, Inhabited

/-- A queued transmit timestamp (R98): time in 1/256 ns and frame identifier. -/
structure TxTs where
  time : Nat := 0
  id : Nat := 0
  deriving DecidableEq, Repr, Inhabited

/-- SLACK_NS and SLACK_MIN_NS of one region (Tables 2-11, 2-12). -/
structure Slack where
  last : Int := 32767
  min : Int := 32767
  deriving DecidableEq, Repr, Inhabited

/-- A transaction on the field-side PMBus (R70, Table 2-3): the addressed regulator, the command code, the word written or
read, and whether it carries a packet error check. -/
structure PmbusXfer where
  addr : Nat
  cmd : Nat
  write : Bool
  data : Nat
  pec : Bool
  deriving DecidableEq, Repr

/-- The slack governor (R70 to R76). -/
structure Gov where
  /-- Target in mV; the regulator starts at 0.80 V (R77). -/
  v : Nat := 800
  /-- VOUT_MV: last commanded; 0 before the first command. -/
  out : Nat := 0
  quiet : Nat := 0
  /-- Linear exponent read from VOUT_MODE at the accepted enable. -/
  expo : Int := 0
  /-- Consecutive intervals at 950 mV with slack below target − hyst. -/
  atMaxRun : Nat := 0
  atMax : Bool := false
  fault : Bool := false
  enabled : Bool := false
  /-- A VOUT_COMMAND write whose reading has not settled yet. -/
  settling : Bool := false
  retries : Nat := 0
  /-- Minimum slack of the interval. -/
  minSlack : Int := 32767
  /-- One more than the frame of the last interval decision; 0 none (R73). -/
  decided : Nat := 0
  /-- Lattice points since lock of the VOUT_COMMAND write, and of the last READ_VOUT after it (R74). -/
  wroteAt : Nat := 0
  readAt : Nat := 0
  /-- The transactions of the frame in progress, oldest first (R70). -/
  bus : List PmbusXfer := []
  deriving DecidableEq, Repr, Inhabited

/-- Time (chapter "The time lattice, slack and network time"). Log: 10 (DEDUCED, unsafe), 19 (DESIGN CHOICE, unsafe). -/
structure Time where
  lock : Bool := false
  holdover : Bool := false
  /-- Lattice points since lock at which the reference was lost, and whether the holdover limit has passed since (R61). -/
  lostAt : Nat := 0
  expired : Bool := false
  /-- Frame number of the last boundary. -/
  frame : Nat := 0
  /-- The lowest of the frame numbers the last boundary carries or skipped: a periodic activity that has one of them as its
  boundary has it here (R89). -/
  first : Nat := 0
  /-- While a boundary makes up for the frame numbers its own TIME_SET has skipped: one more than the number it had; else 0
  (R89, R101). -/
  late : Nat := 0
  /-- The counter's excess over the boundary's value at the last boundary, in 2^-40 of 2.5 ns (R83). -/
  rem : Nat := 0
  /-- Lattice points from lattice lock to the last boundary. -/
  lp : Nat := 0
  /-- Lattice points of the frame before. -/
  lpPrev : Nat := 6250
  /-- The last multiple of 20 ns of control time whose accumulator strobe has come (R57). -/
  strobe : Int := -1
  /-- Sum of the steps applied since reset, device minus control time, in 1/256 ns (R88). -/
  steps : Int := 0
  rate : Int := 0
  /-- The rate word that applies from the next boundary (R84). -/
  nextRate : Option Int := none
  integ : Int := 0
  theta : Int := 0
  latticeCfg : Word := 0x00646400
  slackTarget : Word := 0x01F405DC
  govCfg : Word := 0x0F1925C0
  timeCfg : Word := 0x004103E8
  ppsLocked : Bool := false
  /-- Control time of the last accepted PPS_IN edge, 1/256 ns. -/
  ppsLast : Option Int := none
  /-- A step of this θ is due at the next boundary (R93). -/
  stepDue : Option Int := none
  ppsOut : Bool := false
  /-- The seconds that have given a PPS_OUT pulse, as ranges from a second to a second (R96). -/
  ppsDone : List (Nat × Nat) := []
  /-- Lattice points since lock at which the pulse in progress ends. -/
  ppsEnd : Nat := 0
  txA : List TxTs := []
  txB : List TxTs := []
  ovfA : Bool := false
  ovfB : Bool := false
  /-- Timestamps of the frame in progress: channel B or not, entry (R99). -/
  txNew : List (Bool × TxTs) := []
  /-- Slack by control die × 16 + region; FID regions as a control die sees them are 8 to 13 of its die. -/
  slack : Tab Slack := []
  /-- Frames a region has still to pass at or above FLOOR_NS before it records SLACK_FLOOR again, by die × 16 + region
  (R69). -/
  floorWait : Tab Nat := []
  /-- What the work length W of a field region exceeds 1 by: 0 to 7 of the control dies, 8 to 13 of the FID (R66). -/
  work : Tab Nat := []
  gov : Gov := {}
  deriving DecidableEq, Repr, Inhabited

/-- Fused values, boot results and debug state of the trust engine (Tables 17-1, 17-7, 17-8).
Log: 7 (DESIGN CHOICE, unsafe). -/
structure Trust where
  revoked : Nat := 0
  svn1 : Nat := 0
  svn2 : Nat := 0
  svn3 : Nat := 0
  /-- CUSTOMER_KEY as a 256-bit number, 0 while unprovisioned. -/
  customer : Nat := 0
  res1 : Nat := 0
  res2 : Nat := 0
  res3 : Nat := 0
  entry2 : Nat := 0
  entry3 : Nat := 0
  /-- H of the images of kinds 1, 2 and 3 the HBD verified and delivered. -/
  h1 : Nat := 0
  h2 : Nat := 0
  h3 : Nat := 0
  /-- SVN and REVOKE of those images. -/
  run1 : Nat × Nat := (0, 0)
  run2 : Nat × Nat := (0, 0)
  run3 : Nat × Nat := (0, 0)
  /-- The outstanding challenge, 128 bits. -/
  challenge : Option Nat := none
  /-- Control time until which the challenge is valid, 1/256 ns (R609). -/
  challengeUntil : Int := 0
  draws : Nat := 0
  hbdScope : Bool := false
  fieldScope : Bool := false
  /-- Control times at which the scopes' lifetimes end, 1/256 ns. -/
  hbdUntil : Int := 0
  fieldUntil : Int := 0
  deriving DecidableEq, Repr, Inhabited

/-- The operating mode (chapter "Modes, configuration checks and start-up"). -/
structure ModeSt where
  mode : Mode := .reset
  stopping : Bool := false
  /-- The mode DEGRADED returns to; HOLD after R121. -/
  ret : Mode := .reset
  /-- Frames of the degraded time left (R120). -/
  degLeft : Nat := 0
  cause : Nat := 9
  changes : Nat := 0
  /-- The cause the change from RESET to BOOT will carry (R114). -/
  resetCause : Nat := 9
  /-- A MODE_FORCE reset waits for STOPPING = 0 (R122). -/
  forceReset : Bool := false
  /-- A MODE_FORCE to CONFIGURE waits for STOPPING = 0 (R123). -/
  forceConfigure : Bool := false
  /-- Outputs stay off until the next boundary (R115). -/
  outHeld : Bool := false
  /-- Outputs were live at the entry to SAFE_STOP. -/
  ssLive : Bool := false
  /-- Automatic causes of SAFE_STOP found since the last boundary, by code (R118). -/
  stopCauses : List Nat := []
  /-- A loss of a die (3) or of a channel (4) found since the last boundary. -/
  lossCauses : List Nat := []
  /-- DEGRADED expired since the last boundary (R118). -/
  degExpired : Bool := false
  deriving DecidableEq, Repr, Inhabited

/-- Boot of one control die (R139 to R142). Log: 10 (DEDUCED, unsafe), 119 (DESIGN CHOICE, safe). -/
structure DieBoot where
  /-- CDA_STATE or CDB_STATE (Table 3-9). -/
  st : Nat := 0
  verified : Bool := false
  /-- Failures of this BOOT. -/
  fails : Nat := 0
  /-- Held in reset: only DIE_RETRY or MODE_FORCE RESET starts it again. -/
  held : Bool := false
  /-- Whether the last failure was a verification. -/
  failVerify : Bool := false
  /-- What the HBD has delivered of its images so far: the control-die image and the FID image behind it (R139, R603). -/
  img : Bytes := []
  deriving DecidableEq, Repr, Inhabited

/-- Start-up of the field side (Table 3-9). -/
structure Boot where
  cda : DieBoot := {}
  cdb : DieBoot := {}
  fidOk : Bool := false
  ended : Bool := false
  fail : Bool := false
  failCode : Nat := 0
  deriving DecidableEq, Repr, Inhabited

/-- What a running consistency check would set (R127, R136, R485). -/
inductive CheckOf where
  | subsys (v : Nat)
  | redundancy (v : Nat)
  | register (offset : Nat) (v : Nat)
  deriving DecidableEq, Repr

/-- A check's result, entered at the next boundary (R130). -/
structure CheckResult where
  of : CheckOf
  reason : Nat
  subsys : Nat
  dir : Nat
  loc : Nat
  expo : Int
  deriving DecidableEq, Repr

/-- Enable bits and consistency checks. -/
structure Check where
  enable : Nat := 0
  running : Option CheckOf := none
  result : Option CheckResult := none
  reason : Nat := 0
  subsys : Nat := 0
  dir : Nat := 0
  seq : Nat := 0
  loc : Nat := 0
  deriving DecidableEq, Repr, Inhabited

/-- What one control die holds of its own (Tables 18-6 to 18-9). Log: 10 (DEDUCED, unsafe). -/
structure DieSt where
  /-- LAST_CHECKER. -/
  lastChecker : Nat := 0
  /-- TJ and TJ_MAX in 1/4 °C. -/
  tj : Int := 0
  tjMax : Int := -32768
  ecc : Nat := 0
  scrubs : Nat := 0
  /-- Errors DIAG_INJECT has planted: kind, block or region. -/
  planted : List (Nat × Nat) := []
  /-- Safety channel present (R507). -/
  channel : Bool := false
  /-- Equal verdicts of the rebuild so far (R509). -/
  rebuilt : Nat := 0
  /-- The die's extents marked faulted since its reset: region, extent, unit. -/
  marks : List (Nat × Extent × Nat) := []
  deriving DecidableEq, Repr, Inhabited

/-- A fault flagged in a control die for a frame boundary (R463, R465). -/
structure FlagFault where
  /-- 1 CDA, 2 CDB. -/
  die : Nat
  /-- The marked extent includes the Safety region (R469). -/
  safety : Bool := false
  checker : Nat := 0
  /-- Source of its DIE_FAULT. -/
  src : Nat := 0
  deriving DecidableEq, Repr

/-- A disagreement under replay (R466). -/
structure Disagree where
  frame : Nat
  deriving DecidableEq, Repr

/-- Resynchronisation of the die that is out of step (R470 to R473). -/
structure Resync where
  /-- Passes of state sent. -/
  pass : Nat := 0
  /-- Dirty blocks at the end of the last pass. -/
  dirty : Nat := 9728
  fullRate : Bool := false
  /-- The final cut has been decided for the next boundary, or taken. -/
  cutDue : Bool := false
  cut : Bool := false
  /-- The die has caught up and joins at the next boundary. -/
  joinDue : Bool := false
  /-- Frame boundaries since its image was verified, and since the final cut (R473). -/
  age : Nat := 0
  cutAge : Nat := 0
  deriving DecidableEq, Repr, Inhabited

/-- The pair (chapter "Active and standby"). Log: 10 (DEDUCED, unsafe). -/
structure Pair where
  /-- PAIR_STATE: 0 NONE, 1 IN_STEP, 2 SOLO, 3 REJOINING. -/
  st : Nat := 0
  /-- ACTIVE: 0 none, 1 CDA, 2 CDB. -/
  active : Nat := 0
  pct : Nat := 0
  tries : Nat := 0
  flags : Nat := 0
  failovers : Nat := 0
  disagrees : Nat := 0
  eccCorr : Nat := 0
  redundancyCfg : Word := 0x00040001
  resync : Resync := {}
  disagree : Option Disagree := none
  /-- Faults flagged for the next boundary. -/
  flagged : List FlagFault := []
  /-- Faults flagged after lattice point 6,150: for the boundary after that. -/
  flaggedLate : List FlagFault := []
  /-- One more than the frame number of the boundary at which a flagged fault last decided the selection; 0 none. -/
  decided : Nat := 0
  /-- Replay outcome to apply at the next boundary: the die judged faulty. -/
  judged : Option Nat := none
  girder : Bool := true
  linkA : Bool := false
  linkB : Bool := false
  /-- Frame boundaries since the last valid message on each Barrier Link, to 640 (R478). -/
  quietA : Nat := 0
  quietB : Nat := 0
  hostLost : Bool := false
  cda : DieSt := {}
  cdb : DieSt := {}
  /-- The registers of the field pair window as the last frame boundary left them; none before the first (R621). -/
  regs : Option (Tab Nat) := none
  /-- Junction temperature of the FID, 1/4 °C. -/
  fidTj : Int := 0
  /-- Completed self-test passes of the standby since field reset, and progress. -/
  passes : Nat := 0
  coverage : Nat := 0
  /-- FID faults: region, extent, unit. -/
  fidMarks : List (Nat × Extent × Nat) := []
  /-- FID regions whose reset has not returned them yet. -/
  fidReset : List Nat := []
  /-- FID regions that return to service at the next boundary. -/
  fidReturn : List Nat := []
  lastFault : Nat := 0
  lastFaultFrame : Nat := 0
  /-- Of the present 100 ms: corrections, least slack, highest temperature. -/
  eccWin : Nat := 0
  slackWin : Int := 32767
  tjWin : Int := -32768
  /-- One more than the frame number of the last health report; 0 none. -/
  healthFrame : Nat := 0
  deriving DecidableEq, Repr, Inhabited

/-- Performance counters of one region of one die (R590). -/
structure Counters where
  busy : Nat := 0
  sel : List Nat := []
  cnt : List Nat := []
  ovf : Nat := 0
  deriving DecidableEq, Repr, Inhabited

/-- A sampled Lintis instruction (Table 16-6). -/
structure Sample where
  task : Nat := 0
  opcode : Nat := 0
  trapped : Bool := false
  addr : Nat := 0
  cycle : Nat := 0
  frame : Nat := 0
  latA : Option Nat := none
  latB : Option Nat := none
  deriving DecidableEq, Repr, Inhabited

/-- The field event recorder and the performance counters of both sides. -/
structure Recorder where
  /-- SEQ of the newest committed record; 0 none. -/
  seq : Nat := 0
  /-- Records raised and not yet committed, in the order they arose. -/
  raised : List Ev := []
  /-- Records of RESET and BOOT in the order they arose (R108), and those beyond 512 of a boundary, in their order (R582). -/
  held : List Ev := []
  limits : Tab Limit := []
  /-- Counters by die × 8 + region. -/
  counters : Tab Counters := []
  /-- The counters as the last frame boundary left them, before its messages (R596). -/
  latched : Tab Counters := []
  dumpEn : Bool := false
  dumpN : Nat := 0
  dumpRing : Nat := 0
  sampleEn : Bool := false
  sampleTask : Nat := 0
  samplePeriod : Nat := 0
  /-- Operations counted per task since PRECISE_CFG. -/
  sampleOps : Tab Nat := []
  /-- Sampled instructions of cycles that have not ended, each with its engine. -/
  sampled : List (Nat × Sample) := []
  buffer : List Sample := []
  /-- Samples ever entered, and entered at the last dump. -/
  entered : Nat := 0
  dumped : Nat := 0
  /-- Captured blocks, handed over at the next boundary: die × 8 + region, counters of the die and of the peer. -/
  captured : List (Nat × Counters × Counters) := []
  /-- One more than the frame number of the last capture; 0 none. -/
  captureFrame : Nat := 0
  capturePeerAbsent : Bool := false
  captureActive : Nat := 0
  deriving DecidableEq, Repr, Inhabited

end Sys2Proof.Machine
end

