-- ==== Sys2Proof/Machine/Types/Prog.lean ====
section
/-!
DEFINITION. The plain data of the Program region: the loaded program, tasks and their cycles, images, forces, remote stations
and the step sequencers.
-/

namespace Sys2Proof.Machine

/-- What the image file declares (Tables 11-5 and 11-6); the segments' contents lie in the Deck. -/
structure Loaded where
  given : Bool := false
  codeSize : Nat := 0
  constSize : Nat := 0
  dataSize : Nat := 0
  sharedSize : Nat := 0
  imageSize : Nat := 0
  commonStart : Nat := 0
  commonLen : Nat := 0
  fixedStart : Nat := 0
  fixedLen : Nat := 0
  /-- Task, start and length of each code range. -/
  tasks : List (Nat × Nat × Nat) := []
  /-- Owner, start and length of each shared range. -/
  owners : List (Nat × Nat × Nat) := []
  funcs : List Nat := []
  /-- Address word and TYPE of each declared variable. -/
  vars : List (Nat × Nat) := []
  deriving DecidableEq, Repr, Inhabited

/-- TASK_CFG (Table 10-3). -/
structure TaskCfg where
  given : Bool := false
  prio : Nat := 0
  rate : Nat := 255
  phase : Nat := 0
  deadline : Nat := 0
  mask : Nat := 0
  entry : Nat := 0
  budget : Nat := 0
  skipLimit : Nat := 3
  faultAction : Nat := 0
  autostart : Bool := false
  falling : Bool := false
  dataBase : Nat := 0
  dataSize : Nat := 0
  imgIn : Nat := 0
  imgOut : Nat := 0
  deriving DecidableEq, Repr, Inhabited

/-- A PROG_IMAGE entry (R382). -/
structure ImgEntry where
  off : Nat := 0
  kind : Nat := 0
  typ : Nat := 0
  index : Nat := 0
  stOff : Nat := 0
  stLen : Nat := 0
  dflt : Nat := 0
  deriving DecidableEq, Repr, Inhabited

/-- A cycle (R354). Byte overlays hold 256 + byte at each listed offset. -/
structure Cycle where
  num : Nat := 0
  /-- Frame number of the ready instant, and its control time in ns. -/
  b : Nat := 0
  ns : Nat := 0
  /-- Output boundary of a cycle that ends in time. -/
  due : Nat := 0
  flags : Nat := 0
  engine : Option Nat := none
  pc : Nat := 0
  /-- Operand cells, top first; return offsets, newest first. -/
  stack : List Nat := []
  ret : List Nat := []
  ops : Nat := 0
  /-- It has executed its final TAKE; it counts as ended for the pair (R361), in the frame given. -/
  ended : Bool := false
  done : Bool := false
  overrun : Bool := false
  /-- Writes to the shared segment and to the output image that wait for the output boundary. -/
  shared : Tab Nat := []
  out : Tab Nat := []
  signals : List (Nat × Nat) := []
  /-- Shared and constant bytes as they stood at the ready instant, where they have changed since. -/
  sharedOld : Tab Nat := []
  constOld : Tab Nat := []
  /-- A PROG_CHANGE was applied at its start (R374). -/
  changed : Bool := false
  /-- Stations whose status showed RESUME_WAIT in its input image (R377). -/
  waits : List Nat := []
  deriving DecidableEq, Repr, Inhabited

/-- A PROG_CHANGE waiting for its cycle start (R369): entries of address word, TYPE and value. -/
structure Change where
  org : Origin := {}
  app : Nat := 0
  entries : List (Nat × Nat × Nat) := []
  deriving DecidableEq, Repr

/-- A task fault record (Table 10-2). -/
structure FaultRec where
  cause : Nat := 0
  access : Nat := 0
  codeAddr : Nat := 0
  dataAddr : Nat := 0
  cycle : Nat := 0
  frame : Nat := 0
  engine : Nat := 0
  deriving DecidableEq, Repr, Inhabited

/-- One task. -/
structure Task where
  cfg : TaskCfg := {}
  inMap : Tab ImgEntry := []
  outMap : Tab ImgEntry := []
  started : Bool := false
  faulted : Bool := false
  flags : Nat := 0
  /-- Number of the next cycle. -/
  next : Nat := 0
  cyc : Option Cycle := none
  /-- Ended cycles whose output boundary has not come. -/
  waiting : List Cycle := []
  skips : Nat := 0
  overruns : Nat := 0
  maxOps : Nat := 0
  lastEngine : Option Nat := none
  fault : Option FaultRec := none
  /-- FAULT_ACTION is due at the next boundary. -/
  actionDue : Bool := false
  /-- One past the frame of its last output boundary (R373). -/
  outAt : Nat := 0
  changes : List Change := []
  /-- Recipe variable writes that wait: number and value. -/
  recipes : List (Nat × Nat) := []
  deriving DecidableEq, Repr, Inhabited

/-- A force entry (R372 to R375). -/
structure Force where
  inUse : Bool := false
  /-- 0 input entry, 1 output entry, 2 variable. -/
  kind : Nat := 0
  task : Nat := 0
  addr : Nat := 0
  typ : Nat := 0
  value : Nat := 0
  app : Nat := 0
  active : Bool := false
  changed : Bool := false
  /-- Underlying value at the end of the owning task's previous cycle. -/
  last : Option Nat := none
  deriving DecidableEq, Repr, Inhabited

/-- A PROG_MAP binding (R360): task, TYPE and address word. -/
structure Binding where
  given : Bool := false
  task : Nat := 0
  typ : Nat := 0
  addr : Nat := 0
  deriving DecidableEq, Repr, Inhabited

/-- A remote station as the images see it (R376, R377). -/
structure Station where
  /-- A configured station's frame was valid in the last network cycle. -/
  present : Bool := false
  /-- 0 GOOD, 1 NULL_RECEIVED, 2 STALE, 3 RETURNING. -/
  quality : Nat := 0
  resumeWait : Bool := false
  feeding : Bool := false
  drops : Nat := 0
  /-- Consecutive cycles with valid frames since its return; consecutive missed ones. -/
  good : Nat := 0
  missed : Nat := 0
  /-- Input payload as the images show it, and as last received. -/
  inp : Nat := 0
  live : Nat := 0
  /-- Output payload. -/
  out : Nat := 0
  deriving DecidableEq, Repr, Inhabited

/-- One step sequencer. -/
structure Sequencer where
  -- SEQ_CFG
  given : Bool := false
  base : Nat := 0
  sizeLog2 : Nat := 0
  group : Nat := 0
  -- the loaded table
  loaded : Bool := false
  recipe : Nat := 0
  steps : Nat := 0
  /-- 0 idle, 1 running, 2 paused (R336). -/
  st : Nat := 0
  cause : Nat := 0
  org : Origin := {}
  /-- A committed step has not ended: its index, its Keystone instant and the boundaries counted since it (R319). -/
  running : Bool := false
  cur : Nat := 0
  lastK : Nat := 0
  cnt : Nat := 0
  /-- Consecutive boundaries with every loop of a kind 2 end settled. -/
  settled : Nat := 0
  /-- A qualifying trigger edge has been delivered since K. -/
  trig : Bool := false
  /-- An action of the running step failed at K. -/
  actionFail : Bool := false
  /-- A step waits for its Keystone instant: its index, and the instant once it is planned or announced. -/
  pend : Bool := false
  nxt : Nat := 0
  k : Option Nat := none
  /-- Boundary at which its preparation began; whether it is prepared; whether it missed the deadline of the frame in
  progress; the reason code of an action that would be refused. -/
  prepP : Nat := 0
  prepDone : Bool := false
  prepMissed : Bool := false
  prepFail : Nat := 0
  deferrals : Nat := 0
  /-- Aborted or stopped by SAFE_STOP since its last start (R335). -/
  stopped : Bool := false
  deriving DecidableEq, Repr, Inhabited

/-- The Program region. -/
structure Prog where
  base : Nat := 0
  sizeLog2 : Nat := 0
  image : Loaded := {}
  tasks : Tab Task := []
  forces : Tab Force := []
  /-- Cleared or replaced forces that act until their point in the owning task's cycle. -/
  ending : List Force := []
  recipeVars : Tab Binding := []
  recNums : Tab Binding := []
  /-- Recipe condition bits. -/
  conds : Nat := 0
  stations : Tab Station := []
  busy : Nat := 0
  /-- AUTOSTART is due at the first boundary of COMMISSION or RUN (R380). -/
  auto : Bool := false
  fOverrun : Bool := false
  fFault : Bool := false
  fBudget : Bool := false
  fForce : Bool := false
  fStation : Bool := false
  seqs : Tab Sequencer := []
  seqFlags : Nat := 0
  groupCfg : Word := 0x00000803
  deriving DecidableEq, Repr, Inhabited

end Sys2Proof.Machine
end

