-- ==== Sys2Proof/Machine/LintisCode.lean ====
section
/-!
DEFINITION. Lintis code as data: the operand bytes of the 126 opcodes, the decoding of a code range, and the twelve checks of
an image file at load (R392, R398, R406 to R409).
-/

namespace Sys2Proof.Machine.LintisCode

/-- Operand bytes after an opcode byte; none for a byte Table 11-3 does not define. -/
def operands (op : Nat) : Option Nat :=
  if op ≤ 0x01 then some 0
  else if op = 0x02 then some 3
  else if op = 0x03 then some 1
  else if op ≤ 0x08 then some 0
  else if op < 0x10 then none
  else if op = 0x10 then some 1
  else if op = 0x11 then some 2
  else if op = 0x12 then some 4
  else if op ≤ 0x19 then some 0
  else if op = 0x1A then some 1
  else if op < 0x20 then none
  else if op ≤ 0x29 then some 4
  else if op ≤ 0x3E then some 0
  else if op < 0x40 then none
  else if op ≤ 0x4B then some 0
  else if op < 0x50 then none
  else if op ≤ 0x6F then some 0
  else if op = 0x70 then some 2
  else if op = 0x71 then some 4
  else if op ≤ 0x73 then some 2
  else if op = 0x74 then some 4
  else if op ≤ 0x76 then some 0
  else if op = 0x77 then some 4
  else if op < 0x80 then none
  else if op ≤ 0x94 then some 0
  else if op ≤ 0x96 then some 5
  else none

/-- A decoded instruction: code offset, opcode, operand bytes as a number, length. -/
structure Ins where
  at_ : Nat
  op : Nat
  arg : Nat
  len : Nat
  deriving DecidableEq, Repr

/-- Decodes a range as whole instructions: the instructions, or the offset of the first byte that does not decode. -/
def decode (fuel at_ : Nat) (bs : Bytes) : List Ins × Option Nat :=
  match fuel with
  | 0 => ([], none)
  | fuel + 1 =>
    match bs with
    | [] => ([], none)
    | b :: rest =>
      match operands b.toNat with
      | none => ([], some at_)
      | some n =>
        if rest.length < n then ([], some at_)
        else
          let r := decode fuel (at_ + 1 + n) (rest.drop n)
          ({ at_ := at_, op := b.toNat, arg := Bits.leAt rest 0 n, len := 1 + n } :: r.1, r.2)

/-- Bytes a direct load or store touches: 0 for any other opcode (Table 11-3). -/
def directLen (op : Nat) : Nat :=
  if op = 0x20 ∨ op = 0x26 then 4
  else if op = 0x21 ∨ op = 0x27 then 8
  else if op = 0x22 ∨ op = 0x23 ∨ op = 0x28 ∨ op = 0x95 ∨ op = 0x96 then 1
  else if op = 0x24 ∨ op = 0x25 ∨ op = 0x29 then 2
  else 0

/-- Whether a direct access stores. -/
def stores (op : Nat) : Bool := (decide (0x26 ≤ op) && decide (op ≤ 0x29)) || decide (op = 0x96)

/-- The offset from which a segment starts in the program area, each rounded up to 64 bytes (R408). -/
def up64 (n : Nat) : Nat := (n + 63) / 64 * 64

/-- Size of a segment. -/
def Loaded.size (l : Loaded) (seg : Nat) : Nat :=
  match seg with
  | 0 => l.codeSize
  | 1 => l.constSize
  | 2 => l.dataSize
  | 3 => l.sharedSize
  | 4 => l.imageSize
  | _ => 0

/-- Start of a segment in the program area (R408). -/
def Loaded.start (l : Loaded) (seg : Nat) : Nat :=
  match seg with
  | 0 => 0
  | n + 1 => Loaded.start l n + up64 (Loaded.size l n)

/-- A failed load check: code, file offset and check number. -/
abbrev Fail := Nat × Nat × Nat

/-- The first failing offset of a list of tests. -/
def firstBad (ts : List (Nat × Bool)) : Option Nat := (ts.find? fun t => !t.2).map (·.1)

/-- The first byte at which a field differs from what it must hold. -/
def differs (bs : Bytes) (off len v : Nat) : Option Nat :=
  ((List.range len).find? fun i => Bits.leAt bs (off + i) 1 ≠ v / 256 ^ i % 256).map (off + ·)

/-- Check 1: the header (Table 11-5). -/
def check1 (bs : Bytes) (len : Nat) : Option Nat :=
  if bs.length < 64 then some bs.length
  else
    (differs bs 0 4 0x53544E4C).orElse fun _ => (differs bs 4 2 1).orElse fun _ => (differs bs 6 2 0).orElse fun _ =>
    (differs bs 8 4 len).orElse fun _ =>
    (differs bs 12 4 (Crypto.crc32c (Bits.patch bs 12 (Bits.toLe 4 0)))).orElse fun _ => differs bs 38 2 0

/-- A section: type, place in the file and length. -/
abbrev Sect := Nat × Nat × Nat

/-- The section table. -/
def sections (bs : Bytes) : List Sect :=
  (List.range (Bits.leAt bs 36 2)).map fun i =>
    (Bits.leAt bs (64 + 16 * i) 2, Bits.leAt bs (64 + 16 * i + 4) 4, Bits.leAt bs (64 + 16 * i + 8) 4)

/-- A section of a type: its place and length, an absent one being empty. -/
def sect (ss : List Sect) (t : Nat) : Nat × Nat :=
  match ss.find? fun x => x.1 = t with
  | some x => x.2
  | none => (0, 0)

/-- Whether two ranges share a byte. -/
def meet (a n b m : Nat) : Bool := decide (a < b + m) && decide (b < a + n) && decide (0 < n) && decide (0 < m)

/-- Whether a section's length suits its type (Table 11-6). -/
def lenOk (bs : Bytes) (t n : Nat) : Bool :=
  match t with
  | 1 => decide (n = Bits.leAt bs 16 4)
  | 2 => decide (n ≤ Bits.leAt bs 20 4)
  | 3 => decide (n ≤ Bits.leAt bs 24 4)
  | 4 => decide (n ≤ Bits.leAt bs 28 4)
  | 5 => decide (n % 12 = 0) && decide (12 ≤ n) && decide (n ≤ 12288)
  | 6 => decide (n % 12 = 0)
  | 7 => decide (n % 4 = 0)
  | 8 => decide (n % 8 = 0)
  | _ => false

/-- Check 2: the section table (R407). -/
def check2 (bs : Bytes) : Option Nat :=
  let n := Bits.leAt bs 36 2
  let ss := sections bs
  if n < 2 ∨ 8 < n then some 36
  else if bs.length < 64 + 16 * n then some bs.length
  else
    let one (i : Nat) : Option Nat :=
      let x := ss.getD i (0, 0, 0)
      let o := 64 + 16 * i
      let before := ss.take i
      if x.1 = 0 ∨ 8 < x.1 ∨ (before.any fun y => y.1 = x.1) then some o
      else
        (differs bs (o + 2) 2 0).orElse fun _ =>
          if x.2.1 % 4 ≠ 0 ∨ bs.length < x.2.1 + x.2.2 ∨ meet x.2.1 x.2.2 0 (64 + 16 * n) ∨
              (before.any fun y => meet x.2.1 x.2.2 y.2.1 y.2.2) then some (o + 4)
          else if !lenOk bs x.1 x.2.2 then some (o + 8)
          else differs bs (o + 12) 4 0
    ((List.range n).findSome? one).orElse fun _ =>
      if (ss.any fun x => x.1 = 1) && ss.any fun x => x.1 = 5 then none else some 64

/-- The entries of a 12-byte section: task, start and length. -/
def ranges (bs : Bytes) (x : Nat × Nat) : List (Nat × Nat × Nat) :=
  (List.range (x.2 / 12)).map fun i =>
    (Bits.leAt bs (x.1 + 12 * i) 2, Bits.leAt bs (x.1 + 12 * i + 4) 4, Bits.leAt bs (x.1 + 12 * i + 8) 4)

/-- What the file declares. -/
def declared (bs : Bytes) : Loaded :=
  let ss := sections bs
  let f := sect ss 7
  let v := sect ss 8
  { given := true, codeSize := Bits.leAt bs 16 4, constSize := Bits.leAt bs 20 4, dataSize := Bits.leAt bs 24 4
    sharedSize := Bits.leAt bs 28 4, imageSize := Bits.leAt bs 32 4, commonStart := Bits.leAt bs 40 4
    commonLen := Bits.leAt bs 44 4, fixedStart := Bits.leAt bs 48 4, fixedLen := Bits.leAt bs 52 4
    tasks := ranges bs (sect ss 5), owners := ranges bs (sect ss 6)
    funcs := (List.range (f.2 / 4)).map fun i => Bits.leAt bs (f.1 + 4 * i) 4
    vars := (List.range (v.2 / 8)).map fun i => (Bits.leAt bs (v.1 + 8 * i) 4, Bits.leAt bs (v.1 + 8 * i + 4) 1) }

/-- Check 3: segment sizes, and the five segments within the area (R408). -/
def check3 (l : Loaded) (sizeLog2 : Nat) : Option Nat :=
  (firstBad [(16, decide (l.codeSize % 4 = 0 ∧ 4 ≤ l.codeSize)), (20, decide (l.constSize % 4 = 0)),
    (24, decide (l.dataSize % 4 = 0)), (28, decide (l.sharedSize % 4 = 0)), (32, decide (l.imageSize % 4 = 0)),
    (52, decide (l.fixedLen % 4 = 0))]).orElse fun _ =>
      if Loaded.start l 4 + l.imageSize ≤ 2 ^ sizeLog2 then none else some 16

/-- The code ranges: those of the tasks, then the common range. -/
def codeRanges (l : Loaded) : List (Nat × Nat) :=
  l.tasks.map (·.2) ++ (if l.commonLen = 0 then [] else [(l.commonStart, l.commonLen)])

/-- Check 4: the code ranges lie within the code segment and are disjoint; one entry per task. -/
def check4 (bs : Bytes) (l : Loaded) : Option Nat :=
  let o := (sect (sections bs) 5).1
  let one (i : Nat) : Option Nat :=
    let x := l.tasks.getD i (0, 0, 0)
    let before := l.tasks.take i
    if 1024 ≤ x.1 ∨ (before.any fun y => y.1 = x.1) then some (o + 12 * i)
    else
      (differs bs (o + 12 * i + 2) 2 0).orElse fun _ =>
        if l.codeSize < x.2.1 + x.2.2 ∨ (before.any fun y => meet x.2.1 x.2.2 y.2.1 y.2.2) then some (o + 12 * i + 4) else none
  ((List.range l.tasks.length).findSome? one).orElse fun _ =>
    if l.codeSize < l.commonStart + l.commonLen ∨ (l.tasks.any fun y => meet l.commonStart l.commonLen y.2.1 y.2.2) then
      some 40
    else none

/-- The instructions of every range, with the range, or the first offset that does not decode. -/
def decodeAll (code : Bytes) (l : Loaded) : List ((Nat × Nat) × List Ins × Option Nat) :=
  (codeRanges l).map fun r => (r, decode (r.2 + 1) r.1 (Bits.slice code r.1 r.2))

/-- Whether an offset is an instruction start of a list. -/
def isStart (is : List Ins) (c : Nat) : Bool := is.any fun i => i.at_ = c

/-- Whether an offset lies in a range. -/
def inRange (r : Nat × Nat) (c : Nat) : Bool := decide (r.1 ≤ c) && decide (c < r.1 + r.2)

/-- The static target of a branch, jump or call (R393). -/
def target (i : Ins) : Option Int :=
  if i.op = 0x70 ∨ i.op = 0x72 ∨ i.op = 0x73 then some ((i.at_ + i.len : Nat) + Bits.signed 16 i.arg)
  else if i.op = 0x71 ∨ i.op = 0x74 then some i.arg
  else none

/-- Check 6: static targets. -/
def check6 (l : Loaded) (ds : List ((Nat × Nat) × List Ins × Option Nat)) : Option Nat :=
  let common := (l.commonStart, l.commonLen)
  ds.findSome? fun d => d.2.1.findSome? fun i =>
    match target i with
    | none => none
    | some t =>
      let c := t.toNat
      let ok :=
        if i.op = 0x74 then
          decide (0 ≤ t) && l.funcs.contains c && (inRange d.1 c || (inRange common c && decide (0 < l.commonLen)))
        else decide (0 ≤ t) && inRange d.1 c && isStart d.2.1 c
      if ok then none else some i.at_

/-- Check 8: flags, trap codes and bit numbers. -/
def check8 (ds : List ((Nat × Nat) × List Ins × Option Nat)) : Option Nat :=
  ds.findSome? fun d => d.2.1.findSome? fun i =>
    let ok :=
      if i.op = 0x02 then decide (1 ≤ i.arg / 65536) && decide (i.arg / 65536 ≤ 23)
      else if i.op = 0x03 then decide (0x40 ≤ i.arg) && decide (i.arg ≤ 0x7F)
      else if i.op = 0x95 ∨ i.op = 0x96 then decide (i.arg / 2 ^ 32 ≤ 7)
      else true
    if ok then none else some i.at_

/-- Check 9: direct address operands. -/
def check9 (l : Loaded) (ds : List ((Nat × Nat) × List Ins × Option Nat)) : Option Nat :=
  ds.findSome? fun d => d.2.1.findSome? fun i =>
    let n := directLen i.op
    if n = 0 then none
    else
      let a := i.arg % 2 ^ 32
      let seg := a / 2 ^ 28
      let off := a % 2 ^ 28
      if 1 ≤ seg ∧ seg ≤ 4 ∧ off + n ≤ Loaded.size l seg ∧ ¬(stores i.op = true ∧ seg = 1) then none else some i.at_

/-- Check 10: jump tables, `const` giving the constant segment's initial bytes. -/
def check10 (l : Loaded) (const : Bytes) (ds : List ((Nat × Nat) × List Ins × Option Nat)) : Option Nat :=
  ds.findSome? fun d => d.2.1.findSome? fun i =>
    if i.op ≠ 0x77 then none
    else
      let w := i.arg
      let n := Bits.leAt const w 4
      let fits (k : Nat) : Bool := decide (l.fixedStart ≤ w) && decide (w + k ≤ l.fixedStart + l.fixedLen)
      let good (c : Nat) : Bool := inRange d.1 c && isStart d.2.1 c
      if fits 8 && decide (w % 4 = 0) && decide (1 ≤ n) && decide (n ≤ 1024) && fits (8 + 4 * n) &&
          (List.range (n + 1)).all (fun m => good (Bits.leAt const (w + 4 + 4 * m) 4)) then none
      else some i.at_

/-- Check 11: declared variables. -/
def check11 (bs : Bytes) (l : Loaded) : Option Nat :=
  let o := (sect (sections bs) 8).1
  (List.range l.vars.length).findSome? fun i =>
    let x := l.vars.getD i (0, 0)
    let seg := x.1 / 2 ^ 28
    let off := x.1 % 2 ^ 28
    if seg < 1 ∨ 3 < seg ∨ off % 4 ≠ 0 ∨ Loaded.size l seg < off + (if x.2 = 2 ∨ x.2 = 4 then 8 else 4) then some (o + 8 * i)
    else if 4 < x.2 then some (o + 8 * i + 4)
    else differs bs (o + 8 * i + 5) 3 0

/-- Check 12: shared ranges. -/
def check12 (bs : Bytes) (l : Loaded) : Option Nat :=
  let o := (sect (sections bs) 6).1
  (List.range l.owners.length).findSome? fun i =>
    let x := l.owners.getD i (0, 0, 0)
    if 1024 ≤ x.1 then some (o + 12 * i)
    else if l.sharedSize < x.2.1 + x.2.2 ∨ ((l.owners.take i).any fun y => meet x.2.1 x.2.2 y.2.1 y.2.2) then
      some (o + 12 * i + 4)
    else none

/-- Whether a list rises strictly. -/
def rising : List Nat → Bool
  | [] => true
  | [_] => true
  | a :: b :: t => decide (a < b) && rising (b :: t)

/-- The twelve checks of a file of `len` bytes, in order; the first failure ends the check (R409). -/
def check (bs : Bytes) (len sizeLog2 : Nat) : Option Fail :=
  let no (n code : Nat) (x : Option Nat) : Option Fail := x.map fun o => (code, o, n)
  (no 1 0x43 (check1 bs len)).orElse fun _ =>
  (no 2 0x43 (check2 bs)).orElse fun _ =>
    let l := declared bs
    let ss := sections bs
    let codeAt := (sect ss 1).1
    let code := Bits.slice bs codeAt l.codeSize
    let ds := decodeAll code l
    let inCode (x : Option Nat) : Option Nat := x.map (codeAt + ·)
    (no 3 0x43 (check3 l sizeLog2)).orElse fun _ =>
    (no 4 0x43 (check4 bs l)).orElse fun _ =>
    (no 5 0x43 (inCode (ds.findSome? fun d => d.2.2))).orElse fun _ =>
    (no 6 0x43 (inCode (check6 l ds))).orElse fun _ =>
    (no 7 0x43 ((List.range l.funcs.length).findSome? fun i =>
      if (ds.any fun d => isStart d.2.1 (l.funcs.getD i 0)) && rising (l.funcs.take (i + 1)) then none
      else some ((sect ss 7).1 + 4 * i))).orElse fun _ =>
    (no 8 0x43 (inCode (check8 ds))).orElse fun _ =>
    (no 9 0x43 (inCode (check9 l ds))).orElse fun _ =>
    (no 10 0x43 (inCode (check10 l (Bits.slice bs (sect ss 2).1 (sect ss 2).2) ds))).orElse fun _ =>
    (no 11 0x43 (check11 bs l)).orElse fun _ => no 12 0x46 (check12 bs l)

/-- Writes a checked file's segments into the program area at `base`: what no section fills is zero (R408). -/
def place (bs : Bytes) (base : Nat) (m : Mem) : Mem :=
  let l := declared bs
  let ss := sections bs
  let m0 := Mem.clear m base (Loaded.start l 4 + l.imageSize)
  (List.range 4).foldl (fun m seg =>
    let x := sect ss (seg + 1)
    Mem.write m (base + Loaded.start l seg) (Bits.slice bs x.1 x.2)) m0

end Sys2Proof.Machine.LintisCode
end

