-- ==== Sys2Proof/Machine/Events.lean ====
section
/-!
DEFINITION. The event codes of Table 16-3: bits [15:13] severity, bits [12:0] event number (Table 16-1, R579, R580).
-/

namespace Sys2Proof.Machine.Event

/-- A code from severity and event number. -/
def code (severity number : Nat) : Nat := severity * 0x2000 + number

/-- ECC_CORRECTED, block 0. -/
def eccCorrected : Nat := code 2 0x0001

/-- MOTION_OVERRUN, block 1. -/
def motionOverrun : Nat := code 3 0x0201

/-- STEP_RATE_CLAMP, block 1. -/
def stepRateClamp : Nat := code 3 0x0202

/-- STEP_LOST, block 1. -/
def stepLost : Nat := code 4 0x0203

/-- ENC_ERROR, block 1. -/
def encError : Nat := code 4 0x0204

/-- AXIS_FE_FAULT, block 1. -/
def axisFeFault : Nat := code 5 0x0205

/-- AXIS_HW_LIMIT, block 1. -/
def axisHwLimit : Nat := code 4 0x0206

/-- HOME_DONE, block 1. -/
def homeDone : Nat := code 1 0x0207

/-- HOME_FAIL, block 1. -/
def homeFail : Nat := code 3 0x0208

/-- FOLLOW_LIMIT, block 1. -/
def followLimit : Nat := code 4 0x0209

/-- FOLLOW_MASTER_LOST, block 1. -/
def followMasterLost : Nat := code 4 0x020A

/-- LOOP_OVERRUN, block 2. -/
def loopOverrun : Nat := code 3 0x0401

/-- LOOP_FAIL, block 2. -/
def loopFail : Nat := code 4 0x0402

/-- LOOP_OSC, block 2. -/
def loopOsc : Nat := code 3 0x0403

/-- LOOP_INPUT_STALE, block 2. -/
def loopInputStale : Nat := code 4 0x0404

/-- ADC_TRIG_OVR, block 3. -/
def adcTrigOvr : Nat := code 3 0x0601

/-- ADC_XCHK, block 3. -/
def adcXchk : Nat := code 3 0x0602

/-- ADC_XCHK_FAULT, block 3. -/
def adcXchkFault : Nat := code 4 0x0603

/-- ADC_INPUT_SUSPECT, block 3. -/
def adcInputSuspect : Nat := code 3 0x0604

/-- ACQ_STREAM_DROP, block 3. -/
def acqStreamDrop : Nat := code 3 0x0605

/-- FDMA_BUS_ERROR, block 3. -/
def fdmaBusError : Nat := code 4 0x0606

/-- TASK_OVERRUN, block 4. -/
def taskOverrun : Nat := code 3 0x0801

/-- TASK_FAULT, block 4. -/
def taskFault : Nat := code 4 0x0802

/-- TASK_BUDGET, block 4. -/
def taskBudget : Nat := code 3 0x0803

/-- FORCE_SET, block 4. -/
def forceSet : Nat := code 2 0x0804

/-- FORCE_CLEAR, block 4. -/
def forceClear : Nat := code 2 0x0805

/-- FORCED_TARGET_CHANGED, block 4. -/
def forcedTargetChanged : Nat := code 2 0x0806

/-- STATION_LOST, block 4. -/
def stationLost : Nat := code 4 0x0807

/-- STATION_RESUMED, block 4. -/
def stationResumed : Nat := code 2 0x0808

/-- SEQ_STEP, block 4. -/
def seqStep : Nat := code 1 0x0809

/-- STEP_DEFERRED, block 4. -/
def stepDeferred : Nat := code 3 0x080A

/-- SEQ_TIMEOUT, block 4. -/
def seqTimeout : Nat := code 3 0x080B

/-- SEQ_ACTION_FAIL, block 4. -/
def seqActionFail : Nat := code 4 0x080C

/-- SEQ_PAUSE, block 4. -/
def seqPause : Nat := code 2 0x080D

/-- KEYSTONE_NO_DECISION, block 4. -/
def keystoneNoDecision : Nat := code 4 0x080E

/-- TIME_STEP, block 5. -/
def timeStep : Nat := code 2 0x0A01

/-- TIME_OUT_OF_SYNC, block 5. -/
def timeOutOfSync : Nat := code 4 0x0A02

/-- PPS_REJECT, block 5. -/
def ppsReject : Nat := code 3 0x0A03

/-- PPS_LOST, block 5. -/
def ppsLost : Nat := code 3 0x0A04

/-- TXTS_OVERFLOW, block 5. -/
def txtsOverflow : Nat := code 3 0x0A05

/-- NET_HASH_MISMATCH, block 5. -/
def netHashMismatch : Nat := code 4 0x0A06

/-- NET_CHANNEL_DIFF, block 5. -/
def netChannelDiff : Nat := code 3 0x0A07

/-- NET_COLDSTART, block 5. -/
def netColdstart : Nat := code 2 0x0A08

/-- NET_COLDSTART_FAIL, block 5. -/
def netColdstartFail : Nat := code 3 0x0A09

/-- NET_INTEG_FAIL, block 5. -/
def netIntegFail : Nat := code 3 0x0A0A

/-- NET_IN_SYNC, block 5. -/
def netInSync : Nat := code 2 0x0A0B

/-- NET_REF_CHANGE, block 5. -/
def netRefChange : Nat := code 2 0x0A0C

/-- NET_CMASTER_CHANGE, block 5. -/
def netCmasterChange : Nat := code 2 0x0A0D

/-- SAFETY_DEMAND, block 6. -/
def safetyDemand : Nat := code 6 0x0C01

/-- SAFETY_DISCREPANCY, block 6. -/
def safetyDiscrepancy : Nat := code 6 0x0C02

/-- SAFETY_POS_DISC, block 6. -/
def safetyPosDisc : Nat := code 6 0x0C03

/-- SAFETY_SS1_ENVELOPE, block 6. -/
def safetySs1Envelope : Nat := code 6 0x0C04

/-- SAFETY_LIMIT, block 6. -/
def safetyLimit : Nat := code 6 0x0C05

/-- SAFETY_EDM_FAULT, block 6. -/
def safetyEdmFault : Nat := code 6 0x0C06

/-- SAFETY_XCOMP, block 6. -/
def safetyXcomp : Nat := code 7 0x0C07

/-- SAFETY_CHANNEL_LOST, block 6. -/
def safetyChannelLost : Nat := code 6 0x0C08

/-- SAFETY_CHANNEL_RESTORED, block 6. -/
def safetyChannelRestored : Nat := code 2 0x0C09

/-- SAFETY_ACK, block 6. -/
def safetyAck : Nat := code 2 0x0C0A

/-- SAFETY_UNLOCK_FAIL, block 6. -/
def safetyUnlockFail : Nat := code 3 0x0C0B

/-- SAFETY_CONFIG_CHANGE, block 6. -/
def safetyConfigChange : Nat := code 2 0x0C0C

/-- MODE_CHANGE, block 7. -/
def modeChange : Nat := code 2 0x0E01

/-- CHECK_REFUSED, block 7. -/
def checkRefused : Nat := code 3 0x0E02

/-- BOOT_DIE_FAIL, block 7. -/
def bootDieFail : Nat := code 5 0x0E03

/-- SLACK_FLOOR, block 7. -/
def slackFloor : Nat := code 3 0x0E04

/-- GOV_PMBUS_FAULT, block 7. -/
def govPmbusFault : Nat := code 4 0x0E05

/-- GOV_REG_ALERT, block 7. -/
def govRegAlert : Nat := code 4 0x0E06

/-- GOV_AT_LIMIT, block 7. -/
def govAtLimit : Nat := code 3 0x0E07

/-- REF_LOST, block 7. -/
def refLost : Nat := code 4 0x0E08

/-- REF_RESTORED, block 7. -/
def refRestored : Nat := code 2 0x0E09

/-- HOLDOVER_EXPIRED, block 7. -/
def holdoverExpired : Nat := code 7 0x0E0A

/-- DEGRADED_EXPIRED, block 7. -/
def degradedExpired : Nat := code 7 0x0E0B

/-- DIE_FAULT, block 7. -/
def dieFault : Nat := code 5 0x0E0C

/-- FAILOVER, block 7. -/
def failover : Nat := code 5 0x0E0D

/-- DIGEST_MISMATCH, block 7. -/
def digestMismatch : Nat := code 5 0x0E0E

/-- REPLAY_RESULT, block 7. -/
def replayResult : Nat := code 5 0x0E0F

/-- PAIR_DISAGREE, block 7. -/
def pairDisagree : Nat := code 5 0x0E10

/-- PAIR_RESTORED, block 7. -/
def pairRestored : Nat := code 2 0x0E11

/-- RESYNC_RETRY, block 7. -/
def resyncRetry : Nat := code 3 0x0E12

/-- RESYNC_FAIL, block 7. -/
def resyncFail : Nat := code 5 0x0E13

/-- BARRIER_LINK_DOWN, block 7. -/
def barrierLinkDown : Nat := code 4 0x0E14

/-- BARRIER_LINK_UP, block 7. -/
def barrierLinkUp : Nat := code 2 0x0E15

/-- GIRDER_DOWN, block 7. -/
def girderDown : Nat := code 5 0x0E16

/-- HOST_LOST, block 7. -/
def hostLost : Nat := code 3 0x0E17

/-- HOST_RESTORED, block 7. -/
def hostRestored : Nat := code 2 0x0E18

/-- FIELD_NOT_READY, block 14. -/
def fieldNotReady : Nat := code 3 0x1C01

/-- MODE_FORCE_REJECT, block 14. -/
def modeForceReject : Nat := code 3 0x1C02

/-- VIOLATION, block 14. -/
def violation : Nat := code 3 0x1C03

/-- DOORBELL_BUS_ERROR, block 14. -/
def doorbellBusError : Nat := code 4 0x1C04

/-- RING_ERROR, block 14. -/
def ringError : Nat := code 4 0x1C05

/-- SESSION_OPEN_FAIL, block 14. -/
def sessionOpenFail : Nat := code 3 0x1C06

/-- HOST_SESSION_CHANGE, block 14. -/
def hostSessionChange : Nat := code 2 0x1C07

/-- HOST_SESSION_CLOSED, block 14. -/
def hostSessionClosed : Nat := code 2 0x1C08

/-- COMPLETION_DROP, block 14. -/
def completionDrop : Nat := code 4 0x1C09

/-- HDMA_BUS_ERROR, block 14. -/
def hdmaBusError : Nat := code 4 0x1C0A

/-- DMA_CHAIN_LIMIT, block 14. -/
def dmaChainLimit : Nat := code 3 0x1C0B

/-- FIELD_RECORDER_RESTART, block 14. -/
def fieldRecorderRestart : Nat := code 2 0x1C0C

/-- MIRROR_GAP, block 14. -/
def mirrorGap : Nat := code 4 0x1C0D

/-- FID_FAULT of FID region `r`, blocks 8 to 13. -/
def fidFault (r : Nat) : Nat := code 5 ((8 + r) * 0x200 + 1)

/-- OUTPUT_TEST_FAIL, blocks 9 and 11. -/
def outputTestFail (safety : Bool) : Nat := if safety then code 6 0x1602 else code 5 0x1202

/-- OUTPUT_READBACK, blocks 9 and 11. -/
def outputReadback (safety : Bool) : Nat := if safety then code 6 0x1603 else code 5 0x1203

/-- OUTPUT_UNTESTED, blocks 9 and 11. -/
def outputUntested (safety : Bool) : Nat := if safety then code 6 0x1604 else code 3 0x1204

/-- NET_WINDOW_VIOL, block 12 for Pier A, 13 for Pier B. -/
def netWindowViol (pierB : Bool) : Nat := code 3 (0x1802 + if pierB then 0x200 else 0)

/-- NET_PORT_ISOLATED, block 12 for Pier A, 13 for Pier B. -/
def netPortIsolated (pierB : Bool) : Nat := code 4 (0x1803 + if pierB then 0x200 else 0)

/-- NET_PORT_RELEASED, block 12 for Pier A, 13 for Pier B. -/
def netPortReleased (pierB : Bool) : Nat := code 2 (0x1804 + if pierB then 0x200 else 0)

/-- NET_PORT_DOWN, block 12 for Pier A, 13 for Pier B. -/
def netPortDown (pierB : Bool) : Nat := code 4 (0x1805 + if pierB then 0x200 else 0)

/-- NET_PORT_UP, block 12 for Pier A, 13 for Pier B. -/
def netPortUp (pierB : Bool) : Nat := code 2 (0x1806 + if pierB then 0x200 else 0)

/-- NET_CABLE_MISMATCH, block 12 for Pier A, 13 for Pier B. -/
def netCableMismatch (pierB : Bool) : Nat := code 4 (0x1807 + if pierB then 0x200 else 0)

/-- NET_PORT_DELAY, block 12 for Pier A, 13 for Pier B. -/
def netPortDelay (pierB : Bool) : Nat := code 4 (0x1808 + if pierB then 0x200 else 0)

/-- NET_CHANNEL_MISS, block 12 for Pier A, 13 for Pier B. -/
def netChannelMiss (pierB : Bool) : Nat := code 4 (0x1809 + if pierB then 0x200 else 0)

/-- The severity of a code. -/
def severity (c : Nat) : Nat := c / 0x2000

end Sys2Proof.Machine.Event
end

