-- ==== Sys2Proof/Machine/Types/Acq.lean ====
section
/-!
DEFINITION. The plain data of the Acquisition region: converters, result buffers, signal taps, reductions and capture
engines.
-/

namespace Sys2Proof.Machine

/-- A trigger of a sequence (Tables 7-1, 7-4). -/
structure TrigCfg where
  src : Nat := 0
  rate : Nat := 0
  phase : Nat := 0
  pwm : Nat := 0
  edge : Nat := 0
  delay : Nat := 0
  deriving DecidableEq, Repr, Inhabited

/-- A sequence entry (Table 7-5). -/
structure SeqEntry where
  input : Nat := 0
  shift : Nat := 0
  avg : Nat := 1
  deriving DecidableEq, Repr, Inhabited

/-- ADC_CONVERTER (R281) and the two sequences (R282). -/
structure ConvCfg where
  reg : TrigCfg := {}
  inj : TrigCfg := {}
  tol : Nat := 8
  run : Nat := 16
  dmaReg : Nat := 0xFF
  dmaInj : Nat := 0xFF
  regSeq : List SeqEntry := []
  injSeq : List SeqEntry := []
  deriving DecidableEq, Repr, Inhabited

/-- A sequence that runs: the entries it started with and the next one (R280). -/
structure RunSeq where
  entries : List SeqEntry := []
  next : Nat := 0
  deriving DecidableEq, Repr, Inhabited

/-- The entry in progress. Lattice points are counted from lattice lock. -/
structure Conversion where
  inj : Bool := false
  entry : Nat := 0
  cfg : SeqEntry := {}
  /-- Start of the present slot. -/
  start : Nat := 0
  /-- Samples taken, and the sum of their agreed codes. -/
  taken : Nat := 0
  sum : Nat := 0
  xchk : Bool := false
  clip : Bool := false
  /-- Hold instant of the first sample: lattice point of its frame and frame number. -/
  holdLp : Nat := 0
  holdFrame : Nat := 0
  /-- Absolute lattice point of that hold instant. -/
  holdAbs : Nat := 0
  deriving DecidableEq, Repr, Inhabited

/-- A converter test in progress (R274). -/
structure ConvTest where
  start : Nat := 0
  taken : Nat := 0
  sumA : Nat := 0
  sumB : Nat := 0
  deriving DecidableEq, Repr, Inhabited

/-- A result of an entry (R275). -/
structure AdcResult where
  conv : Nat := 0
  input : Nat := 0
  value : Nat := 0
  xchk : Bool := false
  clip : Bool := false
  holdAbs : Nat := 0
  /-- The 8-byte record. -/
  record : Nat := 0
  dma : Nat := 0xFF
  /-- The last slot ended after lattice point 5,850: delivered one boundary later (R272). -/
  late : Bool := false
  deriving DecidableEq, Repr, Inhabited

/-- One converter. -/
structure Converter where
  cfg : ConvCfg := {}
  /-- Trigger instants to come, as absolute lattice points. -/
  regDue : List Nat := []
  injDue : List Nat := []
  cur : Option Conversion := none
  regRun : Option RunSeq := none
  injRun : Option RunSeq := none
  regHeld : Bool := false
  injHeld : Bool := false
  /-- Triggers that arrived at the lattice point at which the converter became free. -/
  regArr : Bool := false
  injArr : Bool := false
  /-- The lattice point at which it became free, until CONVERTER_FREE. -/
  freeAt : Option Nat := none
  /-- A test starts at the next boundary. -/
  testDue : Bool := false
  test : Option ConvTest := none
  /-- The 64 slots of a test have ended and await its judgement. -/
  tested : Option ConvTest := none
  mismatchRun : Nat := 0
  lastMux : Nat := 0
  results : Nat := 0
  regOvr : Nat := 0
  injOvr : Nat := 0
  mismatch : Nat := 0
  lastCode : Nat := 0
  codeNow : Option Nat := none
  codeLate : Option Nat := none
  /-- The result of ADC_STATUS as of the last boundary (R284). -/
  shown : Nat := 0
  deriving DecidableEq, Repr, Inhabited

/-- A field DMA channel (R276, R283, R302, R564). -/
structure Fdma where
  /-- Configured by ADC_DMA. -/
  adc : Bool := false
  base : Nat := 0
  sizeLog2 : Nat := 0
  countAddr : Nat := 0
  writes : Nat := 0
  deriving DecidableEq, Repr, Inhabited

/-- A tap's sample in a format of Table 8-2: `v` is the sample read as a signed integer, for a float format its bits; `e`
the exponent of an M24. -/
structure TapVal where
  fmt : Nat := 4
  v : Int := 0
  e : Int := 0
  deriving DecidableEq, Repr, Inhabited

/-- ACQ_TAP_ASSIGN of an assignable tap (Table 8-3). -/
structure TapAssign where
  src : Nat := 0
  state : Nat := 0
  loc : Nat := 0
  recno : Nat := 0
  deriving DecidableEq, Repr, Inhabited

/-- ACQ_REDUCE of a tap (R291). -/
structure RedCfg where
  on : Bool := false
  m : Nat := 3
  fwd : Bool := false
  xbits : Nat := 0
  ring : Nat := 0
  deriving DecidableEq, Repr, Inhabited

/-- The samples of an interval so far (R293 to R296): for a float format `sum` holds binary64 bits and the extremes bits of
the format. -/
structure RedAcc where
  s : Nat := 0
  n : Nat := 0
  min : Int := 0
  max : Int := 0
  sum : Int := 0
  last : Int := 0
  /-- Samples that are not NaN, for a float format. -/
  good : Nat := 0
  xchk : Bool := false
  clip : Bool := false
  /-- The tap's value at s. -/
  first : TapVal := {}
  cfg : RedCfg := {}
  deriving DecidableEq, Repr, Inhabited

/-- The reduction of one tap. -/
structure Reduction where
  /-- Setting in force. -/
  cfg : RedCfg := {}
  /-- A setting that takes effect at an interval's end. -/
  newCfg : Option RedCfg := none
  acc : Option RedAcc := none
  /-- An interval that has ended and is not yet reduced. -/
  ended : Option RedAcc := none
  deriving DecidableEq, Repr, Inhabited

/-- A reduced interval on its way to its block (R297, R298). -/
structure RedDone where
  tap : Nat := 0
  acc : RedAcc := {}
  due : Nat := 0
  late : Bool := false
  deriving DecidableEq, Repr, Inhabited

/-- CAPTURE_CFG (R314). -/
structure CapCfg where
  given : Bool := false
  taps : List Nat := []
  meas : Nat := 0
  div : Nat := 1
  pre : Nat := 0
  post : Nat := 1
  dma : Nat := 0
  sizeLog2 : Nat := 8
  ring : Nat := 0
  base : Nat := 0
  deriving DecidableEq, Repr, Inhabited

/-- CAPTURE_TRIGGER (Table 8-7). -/
structure CapTrig where
  kind : Nat := 0
  pol : Bool := false
  either : Bool := false
  leave : Bool := false
  tap : Nat := 0
  wmin : Nat := 0
  wmax : Nat := 0
  level : Int := 0
  hi : Int := 0
  hyst : Int := 0
  code : Nat := 0
  mask : Nat := 0
  deriving DecidableEq, Repr, Inhabited

/-- The taps built from die-local values and from the time and supply state, as of a boundary (Table 8-1). -/
structure LocalTaps where
  /-- Safety speeds by axis. -/
  ve : Tab Int := []
  /-- Reported slack: eight control-die regions, six FID regions. -/
  slack : List Int := []
  vout : Int := 0
  theta : Int := 0
  deriving DecidableEq, Repr, Inhabited

/-- A completed record that is handed to the barrier at the next boundary, with the settings it was taken under (R307). -/
structure CapRecord where
  cfg : CapCfg := {}
  kind : Nat := 0
  normal : Bool := false
  /-- The arming's last record: the arm command it completes and that command's result (R304). -/
  arm : Option Origin := none
  result : Nat := 0
  num : Nat := 0
  trigFrame : Nat := 0
  rows : List (List TapVal) := []
  stopped : Bool := false
  deriving DecidableEq, Repr, Inhabited

/-- A capture engine's arming (R303 to R305). -/
structure Capture where
  cfg : CapCfg := {}
  trig : CapTrig := {}
  /-- The arm command while armed. -/
  arm : Option Origin := none
  normal : Bool := false
  /-- Rows since the last arming, newest first, at most L. -/
  rows : List (List TapVal) := []
  /-- Samples since the last arming or re-arming; samples ever, for the store. -/
  taken : Nat := 0
  total : Nat := 0
  /-- Frame of the ready sample. -/
  readyFrame : Option Nat := none
  /-- Trigger accepted: frame of the trigger sample and samples still to take. -/
  hit : Option (Nat × Nat) := none
  records : Nat := 0
  lastTrig : Nat := 0
  prev : Int := 0
  low : Bool := false
  high : Bool := false
  /-- Pulse width so far; none while no pulse that began after ready runs. -/
  pulse : Option Nat := none
  /-- The last sample was inactive, since ready. -/
  idle : Bool := false
  evHit : Bool := false
  /-- CAPTURE_STOPs that wait for the record. -/
  stops : List Origin := []
  /-- CAPTURE_STOPs, and with true aborts, that wait for the sample of the boundary they were applied at (R51, R305). -/
  ends : List (Bool × Origin) := []
  stopMark : Bool := false
  out : Option CapRecord := none
  /-- One more than the frame of the last sample. -/
  lastB : Nat := 0
  deriving DecidableEq, Repr, Inhabited

/-- The Acquisition region. -/
structure Acq where
  conv : Tab Converter := []
  fdma : Tab Fdma := []
  fdmaPause : Nat := 0
  /-- The pauses in force since the last boundary (R566). -/
  fdmaPaused : Nat := 0
  fdmaStopped : Nat := 0
  fdmaLimit : Word := 0x00001000
  fdmaErrAddr : Nat := 0
  /-- Results that exist from the next boundary; results of this boundary, in order. -/
  waiting : List AdcResult := []
  fresh : List AdcResult := []
  /-- Latest result of each input. -/
  inputs : Tab Nat := []
  regOvr : Nat := 0
  injOvr : Nat := 0
  xchk : Nat := 0
  suspect : Nat := 0
  assign : Tab TapAssign := []
  /-- Taps 384 to 463 as of the last boundary. -/
  taps : LocalTaps := {}
  /-- Recorded program variables, by RECNO (Table 8-3). -/
  recVals : Tab TapVal := []
  red : Tab Reduction := []
  done : List RedDone := []
  cap : Tab Capture := []
  drop : Bool := false
  late : Bool := false
  deriving DecidableEq, Repr, Inhabited

end Sys2Proof.Machine
end

