-- ==== Sys2Proof/Machine/Types/Host.lean ====
section
/-!
DEFINITION. The plain data of the Host Bridge Die: sessions, rings, doorbells, host DMA, the barrier's queues, the
recorder mirror and the register images of the HBD window.
-/

namespace Sys2Proof.Machine

/-- A ring's registers (Table 15-14). -/
structure RingCfg where
  base : Nat := 0
  /-- RING_SIZE_n. -/
  size : Nat := 0
  threshold : Nat := 1
  delayUs : Nat := 0
  deriving DecidableEq, Repr, Inhabited

/-- A command the HBD has read and that awaits its final completion (R543). -/
structure Outstanding where
  org : Origin
  /-- Sent across the barrier. -/
  sent : Bool
  /-- The period of the session in which it was read: opens and soft changes so far (R552). -/
  period : Nat
  deriving DecidableEq, Repr

/-- What a downstream message carries that is applied at an application frame (Table 15-11). -/
inductive DownBody where
  | command (e : Entry)
  | pairWrite (offset : Nat) (v : Nat)
  | diagWrite (die : Die) (offset : Nat) (v : Nat)
  | modeForce (v : Nat)
  | bulk (b : BulkDown)
  deriving DecidableEq, Repr

/-- A downstream message waiting for its application frame (R20). Log: 102 (DESIGN CHOICE, safe). -/
structure Down where
  num : Nat
  /-- Frame boundaries to go: it is applied at the one that makes this 0. -/
  wait : Nat
  body : DownBody
  deriving DecidableEq, Repr

/-- A host DMA command's chain in progress (R556). -/
structure Chain where
  org : Origin := {}
  toDeck : Bool := true
  /-- Bytes still to transfer; with DECK_CHAIN unbounded. -/
  left : Nat := 0
  deckChain : Bool := false
  /-- Deck offset of the next byte. -/
  deck : Nat := 0
  /-- With DECK_CHAIN: next Deck descriptor, bytes left of the present one, LAST seen, Deck descriptors fetched. -/
  deckNext : Nat := 0
  deckLeft : Nat := 0
  deckLast : Bool := false
  deckDescs : Nat := 0
  fch : Nat := 0
  /-- Data transfer of the fetched descriptor: host address, bytes still to move; 0 none. -/
  addr : Nat := 0
  len : Nat := 0
  /-- The fetched descriptor carried LAST. -/
  last : Bool := false
  lastAddr : Nat := 0
  /-- A load fetch of channel 15: the entry whose data it fetches. -/
  load : Option Entry := none
  /-- Bytes sent to the Decks and not yet written there. -/
  inFlight : Nat := 0
  /-- An aligned 8-byte word of the Deck of which only a part has been sent, with its number: read whole once (R559). -/
  word : Nat × Bytes := (0, [])
  /-- How the chain ends once its data is delivered. -/
  ending : Option Status := none
  deriving DecidableEq, Repr, Inhabited

/-- A host DMA channel (Table 15-17). -/
structure Hdma where
  chain : Nat := 0
  pause : Bool := false
  /-- 0 idle, 1 running, 2 pausing, 3 paused, 4 stopped. -/
  st : Nat := 0
  bytes : Nat := 0
  descs : Nat := 0
  limit : Nat := 4096
  work : Option Chain := none
  deriving DecidableEq, Repr, Inhabited

/-- A window read or single-die write in flight across the barrier (R569). -/
structure DiagReq where
  num : Nat
  offset : Nat
  /-- The reply once a die has formed it. -/
  reply : Option Nat := none
  deriving DecidableEq, Repr

/-- A setup access of the host that waits on the link (R616, R620). -/
inductive Access where
  | write (offset v : Nat) (wide : Bool)
  | read (offset : Nat) (wide : Bool)
  | bad (offset : Nat) (write : Bool) (be : Nat)
  deriving DecidableEq, Repr

/-- The Host Bridge Die. Log: 8 (DESIGN CHOICE, unsafe), 93 (DESIGN CHOICE, safe), 102 (DESIGN CHOICE, safe). -/
structure Hbd where
  -- session and doorbell
  sess : Nat := 0
  sessNum : Nat := 0
  dbErr : Bool := false
  openReason : Nat := 0
  changes : Nat := 0
  /-- Sessions opened or changed ever: tells two periods of one session number apart. -/
  period : Nat := 0
  /-- SESSION value of the refused open already recorded; cleared by the writes of R546. -/
  openFail : Option Nat := none
  pollUs : Nat := 4
  pollEn : Bool := false
  /-- The page has been read since polling was enabled (R534). -/
  polled : Bool := false
  dbBase : Nat := 0
  polls : Nat := 0
  -- rings
  rings : Tab RingCfg := []
  sqHead : Tab Nat := []
  cqTail : Tab Nat := []
  cqHead : Tab Nat := []
  ringErr : Nat := 0
  /-- Entries written since the ring's source last fired (R533). -/
  unsignalled : Tab Nat := []
  outstanding : List Outstanding := []
  -- interrupts
  route : Tab Nat := []
  irqSource : Nat := 0
  /-- Messages sent per MSI-X vector. -/
  msix : Tab Nat := []
  -- violations
  violAddr : Nat := 0
  violKind : Nat := 0
  violWrite : Bool := false
  violBe : Nat := 0
  violMode : Nat := 0
  violCount : Nat := 0
  lastStatus : Nat := 0
  nrCount : Nat := 0
  -- copies of field-side state
  /-- The MODE register as last reported (R105). -/
  modeReg : Nat := 0x00090000
  checkBusy : Bool := false
  /-- The frame at which the result was entered: the next TIME message clears CHECK_BUSY. -/
  checkDone : Option Nat := none
  /-- PAIR_STATE, ACTIVE, SELFTEST_EN and GUARANTEE of the latest health report, and the reports received (Table 13-9). -/
  healthBits : Nat := 0
  reports : Nat := 0
  /-- Frames since the latest health report, up to 255 × 6,400, which also stands for none. -/
  healthAge : Nat := 1632000
  /-- What HEALTH_SUMMARY showed before a reset of the HBD, until it shows it again: bits, reports and age (R619). -/
  healthOld : Option (Nat × Nat × Nat) := none
  -- barrier
  downNum : Nat := 0
  down : List Down := []
  /-- Per write sent and not yet reported as past: frame boundaries to go (R620). -/
  pairPending : List Nat := []
  /-- Accesses that wait on the link while PAIR_PENDING reads 256, and the reads behind them (R620). -/
  waiting : List Access := []
  upNum : Nat := 0
  upAcked : Nat := 0
  upHeld : Bool := false
  diag : List DiagReq := []
  diagNum : Nat := 0
  /-- Data of the last completed host read, and the latched high half (R617). -/
  readData : Nat := 0
  latch : Option (Nat × Nat) := none
  -- completions and streams on their way to host memory
  compls : List Compl := []
  streams : Tab (List SEntry) := []
  streamSeq : Tab Nat := []
  -- host DMA
  hdma : Tab Hdma := []
  hdmaErr : Nat := 0
  hdmaErrInfo : Nat := 0
  loadQueue : List Entry := []
  -- mirror
  mirrorCfg : Nat := 0
  mirFBase : Nat := 0
  mirHBase : Nat := 0
  gap : Bool := false
  hGap : Bool := false
  epoch : Nat := 0
  mirFHead : Nat := 0
  mirHHead : Nat := 0
  hdumpCfg : Nat := 0
  hSeq : Nat := 0
  hRing : List HRec := []
  /-- Committed field records on their way to the field mirror ring. -/
  fieldRecs : List HRec := []
  restart : Bool := false
  lastOld : Nat := 0
  hdumps : List (Nat × Nat) := []
  hdumpSeq : Tab Nat := []
  /-- The HBD's copy of device time in ns as last set or corrected, the control time of that in 1/256 ns, whether a TIME
  message
  has set it since host supply-valid, and its last reading (R33, R85). -/
  clock : Nat := 0
  clockAt : Int := 0
  clockSet : Bool := false
  clockRead : Nat := 0
  /-- Slack of the HBD's regions (R68). -/
  slack : Tab Slack := []
  /-- Host memory as the device's posted writes left it. -/
  mem : Mem := []
  deriving DecidableEq, Repr, Inhabited

end Sys2Proof.Machine
end

