-- ==== Sys2Proof/Machine/Types/Loop.lean ====
section
/-!
DEFINITION. The plain data of the Loop region: slots, stages, coefficient sets, the state of the chain, and what the output
maps deliver.
-/

namespace Sys2Proof.Machine

/-- One coefficient set of a stage (Tables 6-3, 6-8, R253): the M24 fields in the order of Table 6-8. -/
structure CoefSet where
  given : Bool := false
  c : List Int := []
  /-- DPV, MODE or SSEL. -/
  flag : Nat := 0
  npts : Nat := 0
  dest : Nat := 0
  index : Nat := 0
  /-- Breakpoints and gains of a gain schedule. -/
  bp : Tab Int := []
  gain : Tab Int := []
  deriving DecidableEq, Repr, Inhabited

/-- One stage (R238): KIND, EXP, LINK and EC belong to the stage. -/
structure Stage where
  kind : Nat := 0
  exp : Int := 0
  link : Nat := 0
  ec : Int := 0
  set0 : CoefSet := {}
  set1 : CoefSet := {}
  deriving DecidableEq, Repr, Inhabited

/-- State of one stage (Table 6-3): the PID's i is in accumulator units. -/
structure StageState where
  x1 : Int := 0
  x2 : Int := 0
  y1 : Int := 0
  y2 : Int := 0
  i : Int := 0
  d : Int := 0
  xd1 : Int := 0
  deriving DecidableEq, Repr, Inhabited

/-- LOOP_SLOT (Table 6-7). -/
structure LoopCfg where
  inUse : Bool := false
  rate : Nat := 0
  failSafe : Bool := false
  phase : Nat := 0
  nstages : Nat := 0
  x0 : Int := 0
  x2 : Int := 0
  x3 : Int := 0
  /-- Source words IN0 to IN3. -/
  src : List Nat := []
  remote : Nat := 0
  loss : Nat := 1
  safe : Int := 0
  oscAction : Nat := 0
  oscEn : Bool := false
  oscN : Nat := 0
  hpMin : Nat := 0
  hpMax : Nat := 0
  oscAmp : Int := 0
  deriving DecidableEq, Repr, Inhabited

/-- The oscillation detector of a slot (R241). -/
structure Osc where
  lastNeg : Bool := false
  tCross : Nat := 0
  nEval : Nat := 0
  peak : Nat := 0
  run : Nat := 0
  lastL : Nat := 0
  lastPeak : Nat := 0
  latch : Bool := false
  deriving DecidableEq, Repr, Inhabited

/-- A change that waits for the slot's boundary (R221). -/
inductive SlotOp where
  | slot (g : LoopCfg) (setpoint : Int)
  | stage (k : Nat) (st : Stage)
  | mode (manual : Bool) (man : Int)
  | set (one : Bool)
  | preset (k : Nat) (i : Int)
  | oscClear
  deriving DecidableEq, Repr

/-- An evaluation latched at a boundary, complete at the next one unless it misses (R220, R239). -/
structure LoopEval where
  out : Int := 0
  e : Int := 0
  sat : Bool := false
  states : Tab StageState := []
  /-- Outputs of the stages. -/
  ys : Tab Int := []
  osc : Osc := {}
  /-- Half-periods counted, and a declaration of this evaluation. -/
  declared : Bool := false
  /-- An input was stale. -/
  stale : Bool := false
  deriving DecidableEq, Repr, Inhabited

/-- One loop slot or servo loop. Log: 6 (DESIGN CHOICE, unsafe). -/
structure Slot where
  cfg : LoopCfg := {}
  stages : Tab Stage := []
  setpoint : Int := 0
  ops : List (Origin × SlotOp) := []
  manual : Bool := false
  man : Int := 0
  set1 : Bool := false
  states : Tab StageState := []
  osc : Osc := {}
  /-- Output in effect. -/
  out : Int := 0
  next : Option LoopEval := none
  missed : Bool := false
  /-- Actions whose effect falls at this boundary: fail action safe, set 1 by action 2. -/
  failNow : Bool := false
  set1Now : Bool := false
  /-- The latch was set by the declaration whose action falls at this boundary (R249). -/
  latchNow : Bool := false
  safeHeld : Bool := false
  /-- The fail action has been invoked and no valid output has come since. -/
  failing : Bool := false
  e : Int := 0
  /-- IN1 at X0 of the last latch (Table 8-1). -/
  pv : Int := 0
  /-- Stage outputs and states of the last evaluation that took effect (Table 8-3). -/
  ys : Tab Int := []
  shown : Tab StageState := []
  stale : Bool := false
  inputStale : Bool := false
  sat : Bool := false
  misses : Nat := 0
  missTotal : Nat := 0
  evals : Nat := 0
  /-- One more than the frame of the last boundary taken. -/
  lastB : Nat := 0
  /-- Consecutive missing cycles of each remote source, by reader: 0 an input, k + 1 the link of stage k (R246). -/
  missing : Tab Nat := []
  /-- Last latched sample of each reader's remote source: mantissa and exponent. -/
  held : Tab (Int × Int) := []
  /-- LOOP_STATUS as of the last boundary at which the slot was evaluated (Table 6-10). -/
  status : Nat := 0
  deriving DecidableEq, Repr, Inhabited

/-- A sample of a remote slot (R244). -/
structure LoopSample where
  m : Int := 0
  e : Int := 0
  frame : Nat := 0
  deriving DecidableEq, Repr, Inhabited

/-- A remote slot as the network delivers it, by node × 1024 + unit. -/
structure RemoteSlot where
  /-- Samples not older than the last one due of their exponent, newest last. -/
  samples : List LoopSample := []
  /-- A sample of the present network cycle, valid but for its exponent. -/
  got : Option Int := none
  deriving DecidableEq, Repr, Inhabited

/-- The Loop region. -/
structure Loops where
  slots : Tab Slot := []
  remote : Tab RemoteSlot := []
  /-- Delivered by output maps (Table 6-4): PWM by output, servo loops by axis, publications by entry, program variables by
  number: mantissa and exponent; the float32 of a variable. -/
  pwm : Tab (Option (Int × Int)) := []
  servoIn : Tab (Int × Int) := []
  pubs : Tab LoopSample := []
  vars : Tab Nat := []
  fSat : Bool := false
  fStale : Bool := false
  fOsc : Bool := false
  fInput : Bool := false
  deriving DecidableEq, Repr, Inhabited

end Sys2Proof.Machine
end

