-- ==== Sys2Proof/Machine/Types/Motion.lean ====
section
/-!
DEFINITION. The plain data of the Motion region and of the FID's axis channels: profiles, queues, stops, links, homing,
step generators and encoders.
-/

namespace Sys2Proof.Machine

/-- One constant-jerk phase with its start state (R154): jerk in 2^-16 counts/s³, position 2^-24 counts, velocity
2^-32 counts/s, acceleration 2^-24 counts/s². -/
structure Phase where
  dur : Nat
  jerk : Int
  p : Int
  v : Int
  a : Int
  deriving DecidableEq, Repr, Inhabited

/-- A planned profile (R152 to R156). -/
structure Profile where
  phases : List Phase := []
  /-- Control time of its start, 1/256 ns. -/
  t0 : Int := 0
  /-- Target, if it ends at one. -/
  target : Option Int := none
  /-- End velocity, Q32.32, signed. -/
  ve : Int := 0
  /-- Profile time in ns at which phase 5 begins (R167). -/
  decel : Nat := 0
  deriving DecidableEq, Repr, Inhabited

/-- A MOVE, or a JOG, in the queue (Table 4-7). -/
structure Move where
  org : Origin := {}
  target : Int := 0
  vel : Int := 0
  acc : Int := 0
  dec : Int := 0
  jerk : Int := 0
  /-- Jerk of slowing transitions: a jog's FOLLOW_JERK (R177). -/
  jerkD : Int := 0
  blend : Nat := 0
  /-- Application frame. -/
  app : Nat := 0
  /-- Past its commit point (R163). -/
  started : Bool := false
  jog : Bool := false
  reversed : Bool := false
  overshoot : Nat := 0
  /-- Joint velocity at its end, binary64 (R165). -/
  joint : Nat := 0
  /-- Where it ends: its target, or the turn point of an opposite-direction joint (R166). -/
  stopAt : Int := 0
  /-- Where it started, and with which speed in its direction, binary64 (R165, R166). -/
  begin_ : Int := 0
  vs : Nat := 0
  /-- It has entered phase 5: its end is fixed (R167). -/
  fixed : Bool := false
  deriving DecidableEq, Repr, Inhabited

/-- What brings an axis to rest. -/
inductive StopKind where
  | ramp
  | quick
  | safety
  | hold
  | pause
  deriving DecidableEq, Repr

/-- A stop in progress with its cause (Table 4-11) and its ramp: deceleration and jerk. -/
structure Stop where
  kind : StopKind
  cause : Nat
  dec : Int
  jerk : Int
  deriving DecidableEq, Repr

/-- A link to a master axis (R178 to R180). -/
structure Follow where
  org : Origin
  /-- Master's Locator. -/
  master : Nat
  num : Int
  den : Nat
  actual : Bool
  lossCycles : Nat
  syncMs : Nat
  /-- Engaged at its tick: master position, own position, control time in 1/256 ns. -/
  engaged : Bool := false
  pm0 : Int := 0
  pf0 : Int := 0
  e0 : Int := 0
  /-- The master's position of the last tick, for its velocity. -/
  pmLast : Int := 0
  /-- Network cycles without a valid sample (R181). -/
  missed : Nat := 0
  deriving DecidableEq, Repr

/-- A command that takes effect at the next servo tick strictly after its application frame (R185). -/
inductive TickCmd where
  | replace (m : Move) (relative : Bool)
  | override (pct : Nat)
  | stop (kind : StopKind) (cause : Nat)
  | follow (f : Follow)
  | jog (m : Move)
  | home
  | resume
  /-- The cap of R502 changed: the running move replans. -/
  | cap
  deriving DecidableEq, Repr

/-- Where a homing stands (R209). -/
inductive HomePhase where
  | start
  | search
  | reverseStop
  | leaveStop
  | leave
  | leaveEnd
  | approach
  | window
  | index
  | failing
  | ending
  deriving DecidableEq, Repr, Inhabited

/-- A qualified edge as captured (R206): timestamp and control time in 1/256 ns, counter, generator position. -/
structure Edge where
  time : Nat := 0
  ctime : Int := 0
  level : Bool := false
  c : Nat := 0
  /-- G in 2^-64 steps. -/
  g : Int := 0
  deriving DecidableEq, Repr, Inhabited

/-- A homing in progress (Tables 5-3 to 5-5). -/
structure Homing where
  org : Origin := {}
  method : Nat := 0
  neg : Bool := false
  chatterCount : Nat := 0
  chatterUs : Nat := 0
  idxMax : Nat := 0
  vSearch : Int := 0
  vApproach : Int := 0
  acc : Int := 0
  jerk : Int := 0
  homePos : Int := 0
  phase : HomePhase := .start
  reversed : Bool := false
  /-- A limit has tripped in this homing (R210). -/
  tripped : Bool := false
  t1 : Option Edge := none
  edges : Nat := 0
  /-- The chatter window has closed and its edges are few enough (R209). -/
  judged : Bool := false
  /-- First qualified index edge after t1. -/
  idx : Option Edge := none
  /-- The home point is defined (R212). -/
  defined : Bool := false
  /-- An ABORT has ended it: its HOME has completed (R10, R212). -/
  aborted : Bool := false
  outcome : Nat := 0
  /-- EDGE_POS and the home edge, once defined. -/
  edgePos : Int := 0
  homeEdge : Edge := {}
  deriving DecidableEq, Repr, Inhabited

/-- AXIS_LIMITS (Table 4-3). -/
structure AxLimits where
  given : Bool := false
  neg : Int := 0
  pos : Int := 0
  vel : Int := 0
  acc : Int := 0
  jerk : Int := 0
  soft : Bool := false
  refReq : Bool := false
  deriving DecidableEq, Repr, Inhabited

/-- AXIS_STOPS (Table 4-4). -/
structure AxStops where
  qsDec : Int
  qsJerk : Int
  folDec : Int
  folJerk : Int
  deriving DecidableEq, Repr

/-- AXIS_IO (Table 5-1), with the values an axis has until it is given (R188). -/
structure AxIo where
  output : Nat := 0
  stepWidth : Nat := 2
  flags : Nat := 0
  idxGate : Nat := 0
  encFilt : Nat := 1
  swPol : Nat := 0
  debounceUs : Nat := 0
  num : Int := 1
  den : Nat := 1
  feLimit : Nat := 0
  feTicks : Nat := 1
  deriving DecidableEq, Repr, Inhabited

/-- One axis of the Motion region. Log: 6 (DESIGN CHOICE, unsafe). -/
structure Axis where
  lim : AxLimits := {}
  stops : Option AxStops := none
  io : AxIo := {}
  p : Int := 0
  v : Int := 0
  a : Int := 0
  ovr : Nat := 10000
  /-- The queue, the running move first. -/
  queue : List Move := []
  prof : Option Profile := none
  stop : Option Stop := none
  follow : Option Follow := none
  homing : Option Homing := none
  tickQ : List (Nat × TickCmd) := []
  held : Bool := false
  faulted : Bool := false
  /-- Consecutive evaluation misses, and whether the coming evaluation has been missed. -/
  misses : Nat := 0
  missNow : Bool := false
  /-- The queue, the override or a limit changed: the lookahead runs again at the next tick (R165). -/
  relook : Bool := false
  /-- Driven or barred by the Safety region: in a safety stop or its group demanded (R499). -/
  barred : Bool := false
  /-- Motion in that direction barred by SDI (R502). -/
  barPos : Bool := false
  barNeg : Bool := false
  -- actual position (R189, R201, R202)
  e : Int := 0
  /-- Counter value latched at the last boundary. -/
  cLast : Nat := 0
  /-- Home offset O, Q40.24. -/
  o : Int := 0
  referenced : Bool := false
  encErrors : Nat := 0
  lostSteps : Nat := 0
  /-- Consecutive ticks over FE_LIMIT; following error of the last tick. -/
  feRun : Nat := 0
  /-- Actual position at the last servo tick (Table 8-1). -/
  shownA : Int := 0
  fe : Int := 0
  /-- The results of AXIS_STATUS and of ENCODER_STATUS as of the last servo tick boundary (R184, R215). -/
  shownStat : Nat := 100 * 2 ^ 120
  shownEnc : Nat := 0
  /-- Qualified index edges delivered to a homing (R205). -/
  index : List Edge := []
  /-- Further qualified index edges of the frame behind the last boundary (R205). -/
  idxMore : Nat := 0
  /-- Safety ramp of SAFETY_AXIS: deceleration and jerk (R499). -/
  safeRamp : Option (Int × Int) := none
  /-- V_SLS while SLS is active (R502). -/
  slsCap : Option Int := none
  /-- The safety home record: HOME_POS, and E and N of the home edge (R497). -/
  safeRef : Option (Int × Int × Int) := none
  /-- Qualified switch edges delivered and not yet judged, in time order. -/
  edges : List (Switch × Edge) := []
  deriving DecidableEq, Repr, Inhabited

/-- One switch input of an axis channel (R206). -/
structure SwitchIn where
  raw : Bool := false
  /-- Debounced level, active = true. -/
  active : Bool := false
  /-- The raw edge that may yet qualify. -/
  cand : Option Edge := none
  deriving DecidableEq, Repr, Inhabited

/-- One FID axis channel: step generator, encoder, edge capture (R190 to R206). Times are in strobes of 20 ns.
Log: 6 (DESIGN CHOICE, unsafe). -/
structure Channel where
  n : Int := 0
  phi : Nat := 0
  neg : Bool := false
  inc : Nat := 0
  stepOn : Bool := false
  /-- Strobes the step ball has held its level, saturating. -/
  stepAge : Nat := 50
  /-- The direction the ball shows: negative. -/
  dirBall : Bool := false
  dirAge : Nat := 50
  /-- Levels of the step and direction balls, STEP_LOW and DIR_INV applied (Table 5-1, R106). -/
  stepPin : Bool := false
  dirPin : Bool := false
  /-- A held carry, with its direction. -/
  held : Option Bool := none
  /-- Carries lost, and encoder errors, since the last boundary. -/
  lost : Nat := 0
  errs : Nat := 0
  /-- Latched at the last boundary. -/
  gN : Int := 0
  gPhi : Nat := 0
  gNeg : Bool := false
  -- encoder
  encA : Bool := false
  encB : Bool := false
  idx : Bool := false
  c : Nat := 0
  /-- First qualified index edge of the frame in progress, and further ones. -/
  cap : Option Edge := none
  capMore : Nat := 0
  limPos : SwitchIn := {}
  limNeg : SwitchIn := {}
  home : SwitchIn := {}
  /-- Switch edges qualified in the frame in progress. -/
  qual : List (Switch × Edge) := []
  deriving DecidableEq, Repr, Inhabited

/-- A STOP awaiting standstill (R172). -/
structure StopCmd where
  org : Origin
  mask : Nat
  app : Nat
  deriving DecidableEq, Repr

/-- An OVERRIDE awaiting its tick (R175). -/
structure OvrCmd where
  org : Origin
  app : Nat
  deriving DecidableEq, Repr

/-- An axis of another node as the network delivers it (R180). -/
structure RemoteAxis where
  /-- It is in the system's axis publication table. -/
  published : Bool := false
  pos : Int := 0
  /-- Its actual position (R426). -/
  act : Int := 0
  vel : Int := 0
  /-- Forard time of the sample's tick, 1/256 ns. -/
  ts : Nat := 0
  /-- A sample has arrived in the present network cycle. -/
  got : Bool := false
  deriving DecidableEq, Repr, Inhabited

/-- The Motion and Axis I/O regions. -/
structure Motion where
  cfg : Word := 0x00000001
  axes : Tab Axis := []
  chans : Tab Channel := []
  /-- Axes of other nodes, by node × 64 + axis. -/
  remote : Tab RemoteAxis := []
  stops : List StopCmd := []
  ovrs : List OvrCmd := []
  missStops : Nat := 0
  stepLost : Bool := false
  encErr : Bool := false
  rateClamp : Bool := false
  /-- MOTION has taken effect since reset (R187). -/
  everOn : Bool := false
  /-- Frame of the last evaluated servo tick. -/
  lastTick : Nat := 0
  deriving DecidableEq, Repr, Inhabited

end Sys2Proof.Machine
end

