-- ==== Sys2Proof/Machine/Types/Net.lean ====
section
/-!
DEFINITION. The plain data of the network: the system configuration, the node's state, what it has sent and received, the two
Piers and their ports, and the cascade master's groups.
-/

namespace Sys2Proof.Machine

/-- NET_SYSTEM (Table 12-9), with its 48 argument bytes as a number for the hash. -/
structure NetSys where
  given : Bool := false
  cycleN : Nat := 0
  staticLen : Nat := 0
  ns : Nat := 0
  nm : Nat := 0
  slotNs : Nat := 0
  miniNs : Nat := 0
  guard : Nat := 0
  depth : Nat := 0
  cable : Nat := 0
  timeMaster : Nat := 0
  casc : Nat := 0
  backup : Nat := 0
  stnLoss : Nat := 0
  nodes : Nat := 0
  raw : Nat := 0
  deriving DecidableEq, Repr, Inhabited

/-- A NET_NODES entry, with its 8 bytes as a number. -/
structure NetNode where
  given : Bool := false
  parent : Nat := 0
  port : Nat := 0
  coldstart : Bool := false
  station : Bool := false
  raw : Nat := 0
  deriving DecidableEq, Repr, Inhabited

/-- A NET_PUBS entry, with its 12 bytes as a number. -/
structure NetPub where
  publisher : Nat := 0
  kind : Nat := 0
  index : Nat := 0
  slot : Nat := 0
  size : Nat := 0
  loc : Nat := 0
  raw : Nat := 0
  deriving DecidableEq, Repr, Inhabited

/-- A NET_SEND frame in the send queues (R447). -/
structure NetSendReq where
  org : Origin := {}
  payload : Bytes := []
  ts : Bool := false
  waitA : Bool := false
  waitB : Bool := false
  id : Option Nat := none
  deriving DecidableEq, Repr, Inhabited

/-- A valid frame that waits for its delivery at the next boundary (R424). -/
structure NetRx where
  chB : Bool := false
  kind : Nat := 0
  source : Nat := 0
  slot : Nat := 0
  id : Nat := 0
  cycle : Nat := 0
  payload : Bytes := []
  /-- Receive timestamp, 1/256 ns. -/
  time : Nat := 0
  deriving DecidableEq, Repr, Inhabited

/-- What a slot has given in the present cycle on each channel (R418): one entry once a valid frame came. -/
structure NetTaken where
  a : Option Bytes := none
  b : Option Bytes := none
  deriving DecidableEq, Repr, Inhabited

/-- A transmission a Pier forwards (R430). Log: 102 (DESIGN CHOICE, safe). -/
structure NetFwd where
  /-- Output ports, bit by port. -/
  outs : Nat := 0
  corr : Nat := 0
  ncorr : Nat := 0
  /-- Where it runs past the end of its slot: the reference time of the cut (R430), 1/256 ns. -/
  cutAt : Option Int := none
  /-- It has been cut: no further code group leaves the Pier. -/
  cut : Bool := false
  deriving DecidableEq, Repr, Inhabited

/-- One port of a Pier. Log: 102 (DESIGN CHOICE, safe). -/
structure NetPort where
  admitted : Bool := false
  /-- The topology's neighbour did not answer here (R435). -/
  mismatch : Bool := false
  isolated : Bool := false
  /-- Consecutive window violations, 0 to 2. -/
  viols : Nat := 0
  /-- Port delay in 1/256 ns, and twice the accepted measurements it is the mean of, newest last. -/
  dp : Nat := 0
  meas : List Int := []
  /-- Departure of the PROBE_REQ that has not been answered, as control time in 1/256 ns; unanswered ones in succession. -/
  req : Option Int := none
  unanswered : Nat := 0
  /-- TURN of the last PROBE_RSP sent, 1/256 ns. -/
  turn : Nat := 0
  /-- Departure of the last PROBE_REQ, and the last probe sent, header to CRC (R434). -/
  lastReq : Option Int := none
  probeTx : Bytes := []
  /-- Transmissions received, quarantine included (R146). -/
  received : Nat := 0
  forwarded : Nat := 0
  violTotal : Nat := 0
  headerErr : Nat := 0
  codeErr : Nat := 0
  fwd : Option NetFwd := none
  deriving DecidableEq, Repr, Inhabited

/-- The COLDSTART lock of a Pier in startup mode (R438): its source, the last arrival as control time in 1/256 ns and
its port, and whether
only its first arrival has come. -/
structure NetLock where
  source : Nat
  time : Int
  port : Nat
  fresh : Bool
  deriving DecidableEq, Repr

/-- One Pier. -/
structure NetPier where
  /-- 0 quarantine, 1 startup, 2 scheduled. -/
  mode : Nat := 0
  ports : Tab NetPort := []
  /-- The external port at which the parent's probes arrive. -/
  uplink : Option Nat := none
  lock : Option NetLock := none
  /-- Occupied minislots of the cycle: first and count. -/
  occ : List (Nat × Nat) := []
  /-- Static slots of the cycle with a start, and with an accepted start, by slot × 16 + port. -/
  starts : List Nat := []
  accepted : List Nat := []
  deriving DecidableEq, Repr, Inhabited

/-- A group status (Table 12-4, KIND 5). -/
structure GroupStatus where
  got : Bool := false
  state : Nat := 0
  step : Nat := 0
  k : Nat := 0
  deriving DecidableEq, Repr, Inhabited

/-- A group decision (Table 12-4, KIND 6). -/
structure GroupDec where
  dec : Nat := 0
  step : Nat := 0
  k : Nat := 0
  deriving DecidableEq, Repr, Inhabited

/-- What the cascade master and its backup keep of a group (R329 to R335). -/
structure GroupCoord where
  k : Option Nat := none
  step : Nat := 0
  count : Nat := 0
  withdrawn : Bool := false
  /-- The decision of the present cycle. -/
  now : GroupDec := {}
  deriving DecidableEq, Repr, Inhabited

/-- The node's network. -/
structure Net where
  sys : NetSys := {}
  nodes : Tab NetNode := []
  /-- One more than the owner of each slot and minislot; 0 none. -/
  slots : Tab Nat := []
  minis : Tab Nat := []
  pubs : List NetPub := []
  rxRing : Nat := 0xFF
  hash : Nat := 0
  /-- Table 12-5. -/
  state : Nat := 0
  reason : Nat := 0
  flags : Nat := 0
  pierA : NetPier := {}
  pierB : NetPier := {}
  /-- NET_PORT_STATUS of every port as of the last cycle boundary (R453), by port and 16 for Pier B. -/
  portsShown : Tab Nat := []
  /-- The Piers change to scheduled mode at the next cycle boundary. -/
  schedDue : Bool := false
  /-- Frames without a valid COLDSTART or IN_SYNC frame in LISTEN (R439). -/
  quiet : Nat := 0
  /-- The node's own COLDSTART, another's, heard in the present cycle; consecutive cycles with and without either. -/
  own : Bool := false
  other : Bool := false
  ownRun : Nat := 0
  lonely : Nat := 0
  /-- The confirmed offer still sends COLDSTART in its first slot (R439). -/
  offering : Bool := false
  /-- Integration: 0 none, 1 its step is due, 2 stepped, 3 in the cycle that measures again (R440). -/
  integ : Nat := 0
  /-- Cycles of INTEGRATING passed. -/
  cycles : Nat := 0
  /-- θ as measured on each channel in the present cycle; the last θ applied by the time service (R427). -/
  thA : Option Int := none
  thB : Option Int := none
  thLast : Int := 0
  /-- The time reference and the acting cascade master, one more than the node; 0 none. -/
  ref : Nat := 0
  acting : Nat := 0
  /-- Nodes with a valid IN_SYNC frame, in the present cycle and in the last one, bit by node. -/
  seen : Nat := 0
  map : Nat := 0
  /-- Stations with a STATIC frame without STARTUP, with a STATIC frame, with a NULL frame in the present cycle, bit by
  node. -/
  good : Nat := 0
  gotStatic : Nat := 0
  gotNull : Nat := 0
  nextId : Nat := 0
  /-- One more than the frame of the last cycle boundary taken. -/
  lastCycle : Nat := 0
  /-- Static slots sent in the present cycle; minislots used, by minislot × 2 + channel. -/
  sent : List Nat := []
  dynSent : List Nat := []
  /-- Payloads formed for the slots of the frame that began at the last boundary; none: NULL. -/
  formed : Tab (Option Bytes) := []
  /-- Slots whose payload missed the deadline of the frame in progress. -/
  missed : List Nat := []
  /-- The last frame the controller sent on each channel, header to CRC. -/
  txA : Bytes := []
  txB : Bytes := []
  sends : List NetSendReq := []
  /-- Minislots the controller knows to be occupied, per channel: first and count. -/
  occA : List (Nat × Nat) := []
  occB : List (Nat × Nat) := []
  rx : List NetRx := []
  taken : Tab NetTaken := []
  /-- Group statuses received in the present cycle, by group × 512 + node. -/
  status : Tab GroupStatus := []
  /-- Decisions received in the present cycle, by group: from the cascade master, from the backup. -/
  decM : Tab GroupDec := []
  decB : Tab GroupDec := []
  coord : Tab GroupCoord := []
  deriving DecidableEq, Repr, Inhabited

end Sys2Proof.Machine
end

