-- ==== Sys2Proof/Machine/Types/Out.lean ====
section
/-!
DEFINITION. The plain data of the tested outputs, the PWM outputs, the trigger inputs and outputs, and of the Safety region.
Instants are lattice points counted from lattice lock.
-/

namespace Sys2Proof.Machine

/-- Test pulses of one output ball (R517 to R521). -/
structure PulseTest where
  /-- End of the last completed test, or the instant outputs went live. -/
  last : Nat := 0
  /-- The output's last state change. -/
  change : Nat := 0
  /-- Start of the test in progress. -/
  run : Option Nat := none
  untested : Bool := false
  deriving DecidableEq, Repr, Inhabited

/-- VALVE_CFG (Table 14-9). -/
structure ValveCfg where
  drive : Nat := 0
  testEn : Bool := false
  rbEn : Bool := false
  periodMs : Nat := 0
  offUs : Nat := 0
  onUs : Nat := 0
  gapUs : Nat := 0
  rbUs : Nat := 0
  deriving DecidableEq, Repr, Inhabited

/-- One valve output. -/
structure Valve where
  cfg : ValveCfg := {}
  /-- State its recipes or its program demand. -/
  cmd : Bool := false
  on : Bool := false
  locked : Bool := false
  test : PulseTest := {}
  deriving DecidableEq, Repr, Inhabited

/-- One PWM output (R523, R524). -/
structure Pwm where
  drive : Nat := 0
  sync : Bool := false
  syncN : Nat := 0
  period : Nat := 0
  /-- High time in effect for the next period, and of the period in progress. -/
  h : Nat := 0
  cur : Nat := 0
  /-- Start of the period in progress. -/
  start : Option Nat := none
  /-- In its high time, and the level of the ball, which stays low while outputs are off (R524). -/
  high : Bool := false
  pin : Bool := false
  deriving DecidableEq, Repr, Inhabited

/-- A qualified edge of a TRIG_IN ball: new level, timestamp and control time in 1/256 ns. -/
structure TrigEdge where
  level : Bool := false
  time : Nat := 0
  deriving DecidableEq, Repr, Inhabited

/-- One TRIG_IN ball (R639). -/
structure TrigIn where
  /-- Accepted level as latched at the last boundary, and as accepted since. -/
  level : Bool := false
  now : Bool := false
  /-- The raw edge that may yet be accepted, and the lattice point at which it is. -/
  cand : Option (Nat × TrigEdge) := none
  /-- Accepted since the last boundary; delivered at the last boundary. -/
  fresh : List TrigEdge := []
  edges : List TrigEdge := []
  deriving DecidableEq, Repr, Inhabited

/-- Discrete outputs and inputs of the FID. Log: 102 (DESIGN CHOICE, safe). -/
structure Discrete where
  valves : Tab Valve := []
  /-- Valve readbacks latched at the last boundary. -/
  readback : Nat := 0
  pwm : Tab Pwm := []
  trigIn : Tab TrigIn := []
  /-- TRIG_OUT demands, and what the balls carry. -/
  trigCmd : Nat := 0
  trigOut : Nat := 0
  /-- Field outputs were live at the last boundary. -/
  live : Bool := false
  deriving DecidableEq, Repr, Inhabited

/-- The safety configuration: the 48 argument bytes of each element as a number, in the order of R514; an element that was
never configured holds 0. -/
abbrev SafeCfg := Tab Nat

/-- A change-log entry (Table 14-4). -/
structure SafeLog where
  seq : Nat := 0
  sec : Nat := 0
  ns : Nat := 0
  operator : Nat := 0
  oldCrc : Nat := 0
  newCrc : Nat := 0
  deriving DecidableEq, Repr, Inhabited

/-- What the HBD keeps of safety in the trust store; it survives every reset (R510). -/
structure SafeStore where
  accepted : Bool := false
  cfg : SafeCfg := []
  /-- SHA-512 digest of the password. -/
  password : Option Nat := none
  /-- Newest first, at most 256. -/
  log : List SafeLog := []
  seq : Nat := 0
  deriving DecidableEq, Repr, Inhabited

/-- An edit session (R511). -/
structure SafeSession where
  operator : Nat := 0
  edit : SafeCfg := []
  /-- Control time of the last safety command, 1/256 ns. -/
  last : Int := 0
  deriving DecidableEq, Repr, Inhabited

/-- One two-channel safety input (R492). Log: 6 (DESIGN CHOICE, unsafe), 73 (DEDUCED, unsafe). -/
structure SafeIn where
  /-- Accepted levels of ball 1 and 2, high; none before the first. -/
  lev1 : Option Bool := none
  lev2 : Option Bool := none
  /-- As latched at the last boundary. -/
  lat1 : Option Bool := none
  lat2 : Option Bool := none
  /-- Lattice point since which the accepted levels disagree. -/
  since : Option Nat := none
  /-- Discrepancy: it has been found, and both balls have since shown the demanded level together. -/
  disc : Bool := false
  discSeen : Bool := false
  /-- Demanded in the last combined verdict. -/
  demanded : Bool := false
  deriving DecidableEq, Repr, Inhabited

/-- What latched a demand (R493, R498, R501, R506). -/
inductive LatchSrc where
  | input (k : Nat)
  | mode
  | limit (a : Nat)
  | pos (a : Nat)
  deriving DecidableEq, Repr

/-- SS1 of a group (R500). -/
structure Ss1 where
  /-- Control time of r, 1/256 ns. -/
  t0 : Int := 0
  /-- Monitored speeds at r, by axis, once formed. -/
  v0 : Option (Tab Int) := none
  /-- Consecutive boundaries at standstill. -/
  still : Nat := 0
  deriving DecidableEq, Repr

/-- One safety output pair with its group. Log: 6 (DESIGN CHOICE, unsafe). -/
structure SafeOut where
  /-- The demands that are latched. -/
  latch : List LatchSrc := []
  ss1 : Option Ss1 := none
  /-- The group is off. -/
  off : Bool := true
  /-- Off, and on again, at the coming boundary. -/
  offNext : Bool := false
  onNext : Bool := false
  lockTest : Bool := false
  lockEdm : Bool := false
  on1 : Bool := false
  on2 : Bool := false
  test1 : PulseTest := {}
  test2 : PulseTest := {}
  /-- Commanded on while its EDM input reads closed (R503). -/
  stuck1 : Bool := false
  stuck2 : Bool := false
  deriving DecidableEq, Repr, Inhabited

/-- An active SLS of an axis: speed at activation and control time of it. -/
structure SlsRun where
  va : Int := 0
  t0 : Int := 0
  deriving DecidableEq, Repr, Inhabited

/-- A source's extremes since SDI became active. -/
structure SdiRun where
  e : Int := 0
  c : Int := 0
  deriving DecidableEq, Repr, Inhabited

/-- One monitored axis (R496 to R502). -/
structure SafeAxis where
  /-- Positions P_e and P_c of the last boundaries, newest first, at most 65. -/
  hist : List (Int × Int) := []
  ve : Int := 0
  vc : Int := 0
  /-- Selected by SAFE_SELECT, and by the inputs of the last verdict: bit 0 SLS, 1 SDI positive, 2 SDI negative. -/
  sel : Nat := 0
  selIn : Nat := 0
  /-- The last condition that failed still fails: bit 0 SLS, 1 SLP, 2 SDI. -/
  bad : Nat := 0
  sls : Option SlsRun := none
  sdiPos : Option SdiRun := none
  sdiNeg : Option SdiRun := none
  /-- Latched violations: bit 0 SLS, 1 SLP, 2 SDI. -/
  viol : Nat := 0
  posDisc : Bool := false
  deriving DecidableEq, Repr, Inhabited

/-- The Safety region, both channels. -/
structure Safety where
  /-- The accepted configuration both channels hold. -/
  cfg : SafeCfg := []
  loaded : Bool := false
  store : SafeStore := {}
  session : Option SafeSession := none
  /-- Consecutive wrong passwords; the lockout of 60 s. -/
  wrong : Nat := 0
  lockout : Option Int := none
  /-- A committed configuration that both channels apply at the next boundary, with its command and old CRC. -/
  commit : Option (Origin × SafeCfg × Nat × Nat) := none
  ins : Tab SafeIn := []
  outs : Tab SafeOut := []
  axes : Tab SafeAxis := []
  /-- EDM inputs latched at the last boundary: released; control time of the last change of each ball's command. -/
  edm : Nat := 65535
  edmSince : Tab Int := []
  /-- The combined verdict of the last boundary has been formed. -/
  judged : Bool := false
  /-- Demands of that verdict: output, source, STO; and a reset input's acknowledgement. -/
  next : List (Nat × LatchSrc × Bool) := []
  ackNext : Bool := false
  /-- A first entry to COMMISSION or RUN since field reset (R138). -/
  begun : Bool := false
  /-- SAFETY_FLAGS (Table 14-12). -/
  flags : Nat := 0
  /-- Safety CRC held by each channel (R514). -/
  crc1 : Nat := 0
  crc2 : Nat := 0
  deriving DecidableEq, Repr, Inhabited

end Sys2Proof.Machine
end

