-- ==== Sys2Proof/Machine/Types/Replay.lean ====
section
/-!
DEFINITION. What each die keeps for a replay and for catching up: the inputs of the last boundaries and the frame journal
(R459, R473).
-/

namespace Sys2Proof.Machine

/-- The inputs received at one frame boundary: the field inputs, the pair messages that are due and the network frames. -/
structure KeptInputs where
  /-- The number the boundary has without a step. -/
  frame : Nat
  field : FieldInputs
  msgs : List Down
  frames : List NetRx
  deriving DecidableEq, Repr

/-- The state of the digested regions. Log: 117 (DESIGN CHOICE, safe). -/
structure RegionState where
  mot : Motion := {}
  loop : Loops := {}
  acq : Acq := {}
  out : Discrete := {}
  prog : Prog := {}
  net : Net := {}
  deriving DecidableEq, Repr, Inhabited

/-- The journal of one frame: the previous contents of what was written in it. Log: 117 (DESIGN CHOICE, safe). -/
structure Journal where
  /-- The boundary that ended the frame. -/
  frame : Nat
  /-- Lines of the Deck with their previous 64 bytes. -/
  lines : List (Nat × Bytes)
  region : RegionState
  deriving DecidableEq, Repr

/-- What both dies keep. -/
structure ReplayMem where
  /-- Newest first. -/
  inputs : List KeptInputs := []
  journals : List Journal := []
  /-- The Deck and the regions as the frame in progress found them. -/
  deck : Mem := []
  region : RegionState := {}
  deriving DecidableEq, Repr, Inhabited

end Sys2Proof.Machine
end

