-- ==== Sys2Proof/Machine/State.lean ====
section
/-!
DEFINITION. The state of the block: everything the spec gives the four dies, as plain data, and the queue of waiting
commands.
-/

namespace Sys2Proof.Machine

/-- The reasons the block stops with a fault: none. Every failure the spec describes is an effect on State.
Log: 103 (DESIGN CHOICE, safe). -/
inductive Fault where
  /-- Never raised: no command of the block faults the model (safe). -/
  | unreachable
  deriving DecidableEq, Repr

/-- The reasons a command is refused by the model. -/
inductive Refusal where
  /-- An arm of `exec` without a meaning (safe). -/
  | notModelled (mnemonic : String)
  /-- TAP_INSTRUCTION with its debug scope open: the spec gives the instruction no effect (safe). -/
  | debugTapOpen
  deriving DecidableEq, Repr

/-- The whole block. Log: 95 (DESIGN CHOICE, safe). -/
structure State where
  /-- Commands that wait, first in, first out. The model's own. -/
  pending : List Instr := []
  /-- Counts the free values taken. The model's own. -/
  free : Nat := 0
  pwr : Power := {}
  tm : Time := {}
  md : ModeSt := {}
  boot : Boot := {}
  chk : Check := {}
  pair : Pair := {}
  log : Recorder := {}
  hbd : Hbd := {}
  trust : Trust := {}
  /-- NODE_ID (Table 12-11). -/
  nodeId : Nat := 0
  mot : Motion := {}
  loop : Loops := {}
  acq : Acq := {}
  out : Discrete := {}
  saf : Safety := {}
  prog : Prog := {}
  net : Net := {}
  /-- Load data received ahead of its command: session, tag, bytes. -/
  staged : List (Nat × Nat × Bytes) := []
  /-- The Deck, 32 MiB, byte addressed. -/
  deck : Mem := []
  /-- What the dies keep for a replay (R459). -/
  rep : ReplayMem := {}
  deriving DecidableEq, Repr

/-- The block before any supply is valid: every register at its reset value. Log: 6 (DESIGN CHOICE, unsafe). -/
def State.reset : State := {}

/-- What every meaning answers. -/
abbrev Answer := Host.Outcome State Fault Refusal

end Sys2Proof.Machine
end

