-- ==== Sys2Proof/Machine/Operands.lean ====
section
/-!
DEFINITION. The operand forms: the fields of a submission entry, its argument area, its Locator, and the well-formedness
tests every command shares (R6, R12, R39 to R43).
-/

namespace Sys2Proof.Machine

/-- Node field of a Locator (Table 1-6). -/
def locNode (l : Nat) : Nat := Bits.field l 31 23

/-- Die field: 0 HBD, 1 CDA, 2 CDB, 3 FID. -/
def locDie (l : Nat) : Nat := Bits.field l 22 21

/-- Region field. -/
def locRegion (l : Nat) : Nat := Bits.field l 20 18

/-- Unit index: cluster and unit read as one number. -/
def locUnit (l : Nat) : Nat := Bits.field l 17 8

/-- Item field. -/
def locItem (l : Nat) : Nat := Bits.field l 7 0

/-- A Locator from its fields (R38). -/
def mkLoc (node die region unit item : Nat) : Nat :=
  Bits.place node 9 23 + Bits.place die 2 21 + Bits.place region 3 18 + Bits.place unit 10 8 + item % 256

/-- An event record's source: Locator bits [22:8] (R44). Log: 42 (DEDUCED, unsafe). -/
def mkSrc (die region unit : Nat) : Nat := Bits.place die 2 13 + Bits.place region 3 10 + unit % 1024

/-- The unit indices Table 1-5 gives a region of a die. -/
def unitDefined (die region unit : Nat) : Bool :=
  if die = 0 then
    match region with
    | 0 => unit = 0
    | 1 => decide (unit ≤ 64)
    | 2 => decide (unit < 16)
    | 3 => unit = 0
    | 4 => decide (unit < 2)
    | 5 => unit = 0
    | _ => false
  else if die = 3 then
    match region with
    | 0 => decide (unit < 64)
    | 1 => decide (unit < 108)
    | 2 => decide (unit < 128)
    | 3 => decide (unit < 40)
    | 4 => decide (unit < 9)
    | 5 => decide (unit < 9)
    | _ => false
  else
    match region with
    | 0 => decide (unit < 256)
    | 1 => decide (unit < 64)
    | 2 => decide (unit < 832)
    | 3 => decide (unit < 128)
    | 4 => decide (unit < 32)
    | 5 => decide (unit < 4)
    | 6 => decide (unit < 40) || (decide (64 ≤ unit) && decide (unit < 128))
    | 7 => decide (unit < 6)
    | _ => false

/-- Whether a Locator names an element that Tables 1-4 and 1-5 and R37 define. -/
def locDefined (l : Nat) : Bool :=
  unitDefined (locDie l) (locRegion l) (locUnit l) &&
    (locItem l = 0 ||
      (decide (locItem l ≤ 8) &&
        ((decide (locDie l = 1) || decide (locDie l = 2)) && decide (locRegion l = 2) ||
          decide (locDie l = 3) && decide (locRegion l = 0))))

/-- The Locator of the pair's unit as CHECK_LOCATOR and refusals give it (R132). -/
def pairLoc (node region unit item : Nat) : Nat := mkLoc node 1 region unit item

namespace Arg

/-- An unsigned argument field at a byte offset of the argument area. -/
def u (c : Cmd) (off len : Nat) : Nat := (c.args.toNat >>> (8 * off)) % 2 ^ (8 * len)

/-- A signed argument field. -/
def s (c : Cmd) (off len : Nat) : Int := Bits.signed (8 * len) (u c off len)

/-- Whether the argument bytes from `off` to 47 are all zero (R6). -/
def zeroFrom (c : Cmd) (off : Nat) : Bool := decide (c.args.toNat >>> (8 * off) = 0)

/-- Whether argument bytes [off, off + len) are zero (R6). -/
def zero (c : Cmd) (off len : Nat) : Bool := decide (u c off len = 0)

/-- The argument bytes as a list. -/
def bytes (c : Cmd) (off len : Nat) : Bytes := Bits.toLe len (u c off len)

end Arg

end Sys2Proof.Machine

namespace Sys2Proof
open Machine

/-- The PAIR flag. -/
def Cmd.isPair (c : Cmd) : Bool := c.flags.toNat.testBit 0

/-- Where a command's completions go. -/
def Cmd.origin (c : Cmd) (opcode : Nat) : Origin :=
  { tag := c.tag.toNat, session := c.session.toNat, sq := c.sq.val, opcode := opcode }

/-- Reserved header fields zero (R6, Table 15-4). -/
def Cmd.headerOk (c : Cmd) : Bool := decide (c.flags.toNat < 2) && decide (c.rsv3 = 0) && decide (c.rsv12 = 0)

/-- The Locator of the entry. -/
def Cmd.locN (c : Cmd) : Nat := c.loc.toNat

/-- Unit index the entry names. -/
def Cmd.unit (c : Cmd) : Nat := locUnit c.locN

/-- Whether the Locator is well formed for a command of node `node` naming a pair element of `region`: defined, this node,
die 1 with the pair flag, or die 1 or 2 without it (R39 to R42), unit accepted by `ok`, item accepted by `item`. -/
def Cmd.namesPair (c : Cmd) (node region : Nat) (ok : Nat → Bool) (item : Nat → Bool := fun i => decide (i = 0)) :
    Bool :=
  let l := c.locN
  locDefined l && decide (locNode l = node) && (decide (locDie l = 1) || (decide (locDie l = 2) && !c.isPair)) &&
    decide (locRegion l = region) && ok (locUnit l) && item (locItem l)

/-- Whether the Locator names an element of another die, without the pair flag. -/
def Cmd.namesDie (c : Cmd) (node die region : Nat) (ok : Nat → Bool) : Bool :=
  let l := c.locN
  locDefined l && decide (locNode l = node) && !c.isPair && decide (locDie l = die) && decide (locRegion l = region) &&
    ok (locUnit l) && decide (locItem l = 0)

end Sys2Proof
end

