-- ==== Sys2Proof/Machine/Ops.lean ====
section
/-!
DEFINITION. The named operations all chapters share: raising event records, completing commands, counting, signalling the
host, and the forms a command's answer takes.
-/

namespace Sys2Proof.Machine

/-- Table 3-1 codes. -/
def Mode.code : Mode → Nat
  | .reset => 0
  | .boot => 1
  | .configure => 2
  | .commission => 3
  | .run => 4
  | .hold => 5
  | .degraded => 6
  | .safeStop => 7

/-- The mode of a code of Table 3-1. -/
def Mode.ofCode : Nat → Mode
  | 1 => .boot
  | 2 => .configure
  | 3 => .commission
  | 4 => .run
  | 5 => .hold
  | 6 => .degraded
  | 7 => .safeStop
  | _ => .reset

/-- Modes in which field outputs are live (Table 3-1). -/
def Mode.live : Mode → Bool
  | .commission => true
  | .run => true
  | .hold => true
  | .degraded => true
  | _ => false

/-- Modes from CONFIGURE on. -/
def Mode.afterBoot : Mode → Bool
  | .reset => false
  | .boot => false
  | _ => true

/-- Table 0-4 codes. -/
def Status.code : Status → Nat
  | .done => 0x00
  | .accepted => 0x01
  | .aborted => 0x02
  | .nothingToAbort => 0x03
  | .refused => 0x10
  | .notReady => 0x11
  | .malformed => 0x12
  | .wrongMode => 0x13
  | .locked => 0x14
  | .chainLimit => 0x15
  | .busError => 0x16
  | .deferred => 0x17

/-- The mode whose permissions hold: in DEGRADED those of the return mode, HOLD after R121 (Table 3-2). -/
def State.permMode (s : State) : Mode := if s.md.mode = .degraded then s.md.ret else s.md.mode

/-- Whether a subsystem's enable bit reads 1 (Table 3-7). -/
def State.enabled (s : State) (b : Nat) : Bool := s.chk.enable.testBit b

/-- Whether CHECK_BUSY reads 1 for a check the field side has taken up: it runs, its result waits for its boundary, or
the TIME
message that clears CHECK_BUSY has not come (R127, R130). -/
def State.checking (s : State) : Bool :=
  s.chk.running.isSome || s.chk.result.isSome || (s.hbd.checkBusy && s.hbd.checkDone.isSome)

/-- Whether a control die executes as the active die does: it is active, or in step (R43, R456). -/
def State.dieUp (s : State) (d : Nat) : Bool := decide (s.pair.st = 1) || decide (s.pair.active = d)

/-- Whether the pair is in step (R456). -/
def State.inStep (s : State) : Bool := s.pair.st = 1

/-- Takes one draw of the free values. Log: 5 (DESIGN CHOICE, safe). -/
def State.draw (s : State) : State := { s with free := s.free + 1 }

/-- Whether a fault drives the balls of an FID unit off (R31). -/
def State.fidDown (s : State) (region unit : Nat) : Bool :=
  s.pair.fidReset.contains region ||
    s.pair.fidMarks.any fun m => decide (m.1 = region) &&
      match m.2.1 with
      | .unit => decide (m.2.2 = unit)
      | .cluster => decide (m.2.2 / 8 = unit / 8)
      | .region => true

/-- One frame in 1/256 ns. -/
def frame256 : Nat := 15625 * 256

/-- One second in 1/256 ns. -/
def sec256 : Nat := 1000000000 * 256

namespace Time

/-- Device time of the boundary in 1/256 ns. -/
def boundary (t : Time) : Nat := t.frame * frame256

/-- Control time of the boundary in 1/256 ns (R88). Log: 19 (DESIGN CHOICE, unsafe). -/
def control (t : Time) : Int := (t.boundary : Int) - t.steps

/-- Lattice points from lattice lock to an instant of the frame in progress. -/
def now (t : Time) (i : Instant) : Nat := t.lp + i.lp

end Time

namespace Ops

/-- Raises an event record at the present boundary (R578).
Log: 15 (DEDUCED, unsafe), 41 (DEDUCED, unsafe), 42 (DEDUCED, unsafe). -/
def raise (code src p0 p1 : Nat) (s : State) : State :=
  { s with log := { s.log with raised := s.log.raised ++
    [{ stamp := s.tm.frame, code := code, src := src, p0 := p0 % 2 ^ 32, p1 := p1 % 2 ^ 32 }] } }

/-- Raises an event record between two boundaries: the next one commits it. Log: 87 (DEDUCED, unsafe). -/
def raiseMid (code src p0 p1 : Nat) (s : State) : State :=
  { s with log := { s.log with raised := s.log.raised ++
    [{ stamp := s.tm.frame, mid := true, code := code, src := src, p0 := p0 % 2 ^ 32, p1 := p1 % 2 ^ 32 }] } }

/-- Raises an event at most once per 64 frames for its source; the happenings since its last event are parameter 0
(R82). -/
def raiseLimited (code src p1 : Nat) (s : State) : State :=
  let key := (code % 0x2000) * 0x8000 + src
  let l := Tab.get s.log.limits key
  if l.last = 0 || decide (l.last + 63 ≤ s.tm.frame) then
    raise code src (l.since + 1) p1
      { s with log := { s.log with limits := Tab.set s.log.limits key { last := s.tm.frame + 1, since := 0 } } }
  else { s with log := { s.log with limits := Tab.set s.log.limits key { l with since := l.since + 1 } } }

/-- As `raiseLimited`, for `n` happenings at one boundary. -/
def raiseLimitedBy (n code src p1 : Nat) (s : State) : State :=
  let key := (code % 0x2000) * 0x8000 + src
  raiseLimited code src p1 { s with log := { s.log with
    limits := Tab.modify s.log.limits key fun l => { l with since := l.since + (n - 1) } } }

/-- As `raiseLimited`, between two boundaries. -/
def raiseLimitedMid (code src p1 : Nat) (s : State) : State :=
  let key := (code % 0x2000) * 0x8000 + src
  let l := Tab.get s.log.limits key
  if l.last = 0 || decide (l.last + 63 ≤ s.tm.frame) then
    raiseMid code src (l.since + 1) p1
      { s with log := { s.log with limits := Tab.set s.log.limits key { last := s.tm.frame + 1, since := 0 } } }
  else { s with log := { s.log with limits := Tab.set s.log.limits key { l with since := l.since + 1 } } }

/-- As `raiseLimited`, with parameters of its own. -/
def raiseLimitedWith (code src p0 p1 : Nat) (s : State) : State :=
  let key := (code % 0x2000) * 0x8000 + src
  let l := Tab.get s.log.limits key
  if l.last = 0 || decide (l.last + 63 ≤ s.tm.frame) then
    raise code src p0 p1
      { s with log := { s.log with limits := Tab.set s.log.limits key { last := s.tm.frame + 1, since := 0 } } }
  else { s with log := { s.log with limits := Tab.set s.log.limits key { l with since := l.since + 1 } } }

/-- As `raiseLimitedWith`, between two boundaries. -/
def raiseLimitedWithMid (code src p0 p1 : Nat) (s : State) : State :=
  let key := (code % 0x2000) * 0x8000 + src
  let l := Tab.get s.log.limits key
  if l.last = 0 || decide (l.last + 63 ≤ s.tm.frame) then
    raiseMid code src p0 p1
      { s with log := { s.log with limits := Tab.set s.log.limits key { last := s.tm.frame + 1, since := 0 } } }
  else { s with log := { s.log with limits := Tab.set s.log.limits key { l with since := l.since + 1 } } }

/-- Adds `n` to every event counter of a region that selects `sel`; 48 bits, wrapping with OVF (R590, R591). -/
def countIn (k : Counters) (sel n : Nat) : Counters :=
  (List.range 8).foldl (fun k j =>
    if k.sel.getD j 0 = sel && decide (sel ≠ 0) then
      let v := k.cnt.getD j 0 + n
      let cnt := (List.range 8).map fun i => if i = j then v % 2 ^ 48 else k.cnt.getD i 0
      { k with cnt := cnt, ovf := if 2 ^ 48 ≤ v then k.ovf ||| 2 ^ j else k.ovf }
    else k) k

/-- The reset of one region of one die: its slack registers and its counters begin anew, and no other region's do (R28, R68,
R591). -/
def regionReset (die region : Nat) (s : State) : State :=
  let keys := if die = 3 then [24 + region, 40 + region, 48 + region] else if die = 0 then [] else [die * 16 + region]
  { s with
    tm.slack := s.tm.slack.filter fun q => !keys.contains q.1
    tm.floorWait := s.tm.floorWait.filter fun q => !keys.contains q.1
    hbd.slack := if die = 0 then s.hbd.slack.filter fun q => decide (q.1 ≠ region) else s.hbd.slack
    log.counters := Tab.mapVals s.log.counters fun k c =>
      if k = die * 8 + region then { c with busy := 0, cnt := [], ovf := 0 } else c }

/-- Counts an event of a region of one die. -/
def countDie (die region sel n : Nat) (s : State) : State :=
  if n = 0 then s
  else { s with log := { s.log with
    counters := Tab.modify s.log.counters (die * 8 + region) fun k => countIn k sel n } }

/-- Counts an event that both control dies of the pair count alike. -/
def count (region sel n : Nat) (s : State) : State :=
  if s.pair.st = 1 then countDie 2 region sel n (countDie 1 region sel n s)
  else countDie s.pair.active region sel n s

/-- Sets the source's IRQ_SOURCE bit and sends its message if it is routed (R532). Log: 93 (DESIGN CHOICE, safe). -/
def fire (k : Nat) (s : State) : State :=
  let r := Tab.get s.hbd.route k
  let h := { s.hbd with irqSource := if s.hbd.irqSource.testBit k then s.hbd.irqSource else s.hbd.irqSource + 2 ^ k }
  { s with hbd := if r.testBit 7 then { h with msix := Tab.modify h.msix (r % 64) (· + 1) } else h }

/-- The record a full internal ring of the HBD discards: its oldest that is no MIRROR_GAP (R584). -/
def hLost (ring : List HRec) : Option HRec :=
  if ring.length < 1024 then none else ring.find? fun x => x.code != Event.mirrorGap

/-- Appends to the HBD's internal ring of 1,024 records (R584). -/
def hAppend (r : HRec) (ring : List HRec) : List HRec :=
  match hLost ring with
  | some x => ring.erase x ++ [r]
  | none => ring ++ [r]

/-- A new record of the HBD series; the first that a full ring discards since H_GAP was last cleared is named by a MIRROR_GAP
(R584). -/
def hPush (r : HRec) (s : State) : State :=
  let ring := hAppend r s.hbd.hRing
  match hLost s.hbd.hRing with
  | some lost =>
    if s.hbd.hGap then { s with hbd := { s.hbd with hRing := ring } }
    else
      let seq := s.hbd.hSeq % (2 ^ 32 - 1) + 1
      let g : HRec := { r with seq := seq, code := Event.mirrorGap, src := mkSrc 0 5 0, p0 := lost.seq, p1 := 1 }
      { s with hbd := { s.hbd with hRing := hAppend g ring, hGap := true, hSeq := seq } }
  | none => { s with hbd := { s.hbd with hRing := ring } }

/-- What the HBD's copy of device time reads at the last frame boundary, in ns, by its own rate alone (R85).
Log: 25 (DESIGN CHOICE, unsafe). -/
def hbdBoundary (s : State) : Int := s.hbd.clock + (s.tm.control - s.hbd.clockAt) / 256

/-- What the HBD's copy of device time reads now, in ns: after its first setting what it read at the boundary and the part of
the frame that has passed; before that, and while no lattice runs, it runs free from its last reading. The part that has
passed is a free value (R33, R49, R85). Log: 25 (DESIGN CHOICE, unsafe). -/
def hbdNow (s : State) : Nat :=
  if s.hbd.clockSet && s.tm.lock then max s.hbd.clockRead ((hbdBoundary s).toNat + Config.hbdClock s.free % 15625)
  else max s.hbd.clockRead s.hbd.clock + Config.hbdClock s.free

/-- Records an event of the HBD series, stamped with the HBD's own clock (R578, R583). -/
def hRaise (code src p0 p1 : Nat) (s : State) : State :=
  let t := hbdNow s
  let seq := s.hbd.hSeq % (2 ^ 32 - 1) + 1
  countDie 0 (Bits.field src 12 10) 7 1 <|
    hPush { seq := seq, sec := t / 1000000000, ns := t % 1000000000, code := code, src := src, p0 := p0 % 2 ^ 32,
            p1 := p1 % 2 ^ 32 }
      { s.draw with hbd := { s.hbd with hSeq := seq, clockRead := t } }

/-- The HBD takes up the time of a TIME message: one that differs from its own copy by more than 1 µs at once, as the first
after host supply-valid; any other by rate, which leaves it within ±100 ns, by a free value (R33, R85).
Log: 25 (DESIGN CHOICE, unsafe). -/
def hbdTime (s : State) : State :=
  let t := s.tm.boundary / 256
  let far := decide (1000 < (hbdBoundary s - t).natAbs)
  if !s.hbd.clockSet || far then
    { s with hbd := { s.hbd with clock := t, clockAt := s.tm.control, clockSet := true, clockRead := t } }
  else
    { s.draw with hbd := { s.hbd with
      clock := ((t : Int) + (Config.hbdClock s.free % 201 : Nat) - 100).toNat, clockAt := s.tm.control } }

/-- A completion enters the way to its ring. An interim one that finds only the reserve of final completions left is
discarded with COMPLETION_DROP (R544). What a recipe's own action would complete has no ring (origin ring 32). -/
def pushCompl (k : Compl) (s : State) : State :=
  if 32 ≤ k.org.sq then s else
  let cq := Bits.field (Tab.get s.hbd.rings k.org.sq).size 12 8
  let mine := s.hbd.compls.filter fun x => Bits.field (Tab.get s.hbd.rings x.org.sq).size 12 8 = cq
  if k.interim && decide (61440 ≤ mine.length) then
    hRaise Event.completionDrop (mkSrc 0 1 (32 + cq)) cq k.org.tag { s with acq.drop := true }
  else { s with hbd := { s.hbd with compls := s.hbd.compls ++ [k] } }

/-- A final completion: the command no longer awaits one (R9, R543). -/
def complete (o : Origin) (st : Status) (reason result : Nat) (s : State) : State :=
  pushCompl { org := o, status := st, reason := reason, result := result } s

/-- An interim completion (Table 15-5). -/
def interim (o : Origin) (st : Status) (result : Nat) (s : State) : State :=
  pushCompl { org := o, status := st, result := result, interim := true } s

/-- A final completion the HBD makes itself. -/
def completeHbd (o : Origin) (st : Status) (reason result : Nat) (s : State) : State :=
  pushCompl { org := o, status := st, reason := reason, result := result, atHbd := true } s

/-- The accepted configuration gives each field region its work length, which is no published figure: a free value (R66).
Log: 105 (DESIGN CHOICE, safe). -/
def giveWork (s : State) : State :=
  { s.draw with tm.work := (List.range 14).foldl (fun t r => Tab.set t r (Config.workLength s.free r)) s.tm.work }

end Ops

/-- How a command ends when it is applied. -/
inductive Reply where
  | malformed
  | notReady
  | wrongMode
  | locked
  /-- Reason code and result bytes. -/
  | refused (reason : Nat) (result : Nat)
  /-- Completes DONE in the state it gives. -/
  | done (s : State) (result : Nat)
  /-- Changes the configuration of a subsystem: checked under R136 when its bit is 1, else DONE. -/
  | config (sub : Nat) (s : State)
  /-- As `config`, but `would` is the configuration to check and `t` the state that keeps the command until it is copied in
  (R221). -/
  | configLater (sub : Nat) (would : State) (t : State)
  /-- ACCEPTED; the operation completes later. -/
  | accepted (s : State)
  /-- Completes with another final status. -/
  | ends (s : State) (st : Status) (result : Nat)
  /-- The state it gives already carries its completions, or completes later without an interim one. -/
  | quiet (s : State)

/-- REFUSED with a reason and no result. -/
def Reply.refuse (reason : Nat) : Reply := .refused reason 0

/-- REFUSED by a check under R136: reason in result bytes 0–3, Locator in bytes 4–7. -/
def Reply.refuseAt (reason loc : Nat) : Reply := .refused reason (reason + loc * 2 ^ 32)

/-- Enters a command's completion (R8, R11). `check` is the check of R133 on the configuration that would result: a
reason and a Locator when it refuses. Log: 16 (DEDUCED, unsafe). -/
def Ops.finish (check : State → Option (Nat × Nat)) (o : Origin) (s : State) : Reply → State
  | .malformed => Ops.complete o .malformed 0 0 s
  | .notReady => Ops.complete o .notReady 0 0 s
  | .wrongMode => Ops.complete o .wrongMode 0 0 s
  | .locked => Ops.complete o .locked 0 0 s
  | .refused r x => Ops.complete o .refused r x s
  | .done t x => Ops.complete o .done 0 x t
  | .config sub t =>
    if !s.enabled sub then Ops.complete o .done 0 0 t
    else if s.checking then Ops.complete o .refused 0x78 0 s
    else
      match check t with
      | some (r, l) => Ops.complete o .refused r (r + l * 2 ^ 32) s
      | none => Ops.complete o .done 0 0 (Ops.giveWork t)
  | .configLater sub would t =>
    if !s.enabled sub then t
    else if s.checking then Ops.complete o .refused 0x78 0 s
    else
      match check would with
      | some (r, l) => Ops.complete o .refused r (r + l * 2 ^ 32) s
      | none => Ops.giveWork t
  | .accepted t => Ops.interim o .accepted 0 t
  | .ends t st x => Ops.complete o st 0 x t
  | .quiet t => t

/-- The tests of R12 in their order: header and Locator, the command's own format, BOOT ended, the mode and the pair flag.
`named` is the Locator test, `fmt` the format test, `read` whether the command only reads, `ok` the permitted modes. A
reading
command that names one control die is answered from that die alone, and not at all by one that does not execute (R43, R569).
Log: 16 (DEDUCED, unsafe). -/
def Ops.pre (c : Cmd) (named fmt : Bool) (read : Bool) (ok : Mode → Bool) (s : State) (body : Reply) : Reply :=
  if !c.headerOk || !named || !fmt then .malformed
  else if !s.md.mode.afterBoot then .notReady
  else if read && !c.isPair && decide (locDie c.locN ≠ 3) && !s.dieUp (locDie c.locN) then .notReady
  else if !ok s.md.mode || (!c.isPair && !read) then .wrongMode
  else body

end Sys2Proof.Machine
end

