-- ==== Sys2Proof/Machine/TimeNet.lean ====
section
/-!
DEFINITION. The time lattice, slack, the supply governor and network time (R55 to R104): the time arithmetic all
chapters use, and the commands of that chapter that act on time alone.
-/

namespace Sys2Proof.Machine

namespace Time

/-- Whether one of the frame numbers `a` to `b` is a boundary of an activity of period `p` and phase `φ` (R63). -/
def hits (a b p φ : Nat) : Bool :=
  decide (p ≠ 0) && decide (a ≤ b - (b + p - φ % p) % p) && decide ((b + p - φ % p) % p ≤ b)

/-- Whether a periodic activity has a boundary here: one of the frame numbers that this boundary carries or skipped, once
(R63, R89). Log: 3 (DESIGN CHOICE, safe), 18 (DEDUCED, unsafe). -/
def due (t : Time) (p φ : Nat) : Bool :=
  hits t.first t.frame p φ && !(decide (t.first < t.late) && hits t.first (t.late - 1) p φ)

/-- The greatest boundary of an activity at or before this boundary. Log: 18 (DEDUCED, unsafe). -/
def lastOf (t : Time) (p φ : Nat) : Nat := t.frame - (t.frame + p - φ % p) % p

/-- Lattice steps of 2.5 ns since the boundary that an instant's last lattice point shows (R83, R97). -/
def lattice (t : Time) (lp : Nat) : Nat := (((t.rem + lp * 2 ^ 40 : Nat) + (lp : Int) * t.rate) / 2 ^ 40).toNat

/-- Device time of an edge in 1/256 ns, as R97 stamps it. -/
def edge (t : Time) (i : Instant) : Nat := t.frame * frame256 + lattice t i.lp * 640 + i.ph.val * 80

/-- The control time of an instant of the present frame, 1/256 ns, which no step moves (R88). -/
def controlAt (t : Time) (i : Instant) : Int := (edge t i : Int) - t.steps

/-- The multiple of 20 ns that control time has reached at the lattice point `lp` behind the boundary (R57, R88). -/
def strobeAt (t : Time) (lp : Int) : Int :=
  (t.control * 2 ^ 40 + 640 * ((t.rem : Int) + lp * (2 ^ 40 + t.rate))) / (5120 * 2 ^ 40)

/-- Seconds of a time in 1/256 ns. -/
def secs (x : Nat) : Nat := x / sec256

/-- Nanoseconds of a time in 1/256 ns. -/
def nanos (x : Nat) : Nat := x % sec256 / 256

/-- The 12-byte form as a number (Table 1-7). -/
def form12 (x : Nat) : Nat := secs x + nanos x * 2 ^ 64

/-- The 16-byte form as a number (Table 1-7). -/
def form16 (x : Nat) : Nat := form12 x + (x % 256) * 2 ^ 96

/-- Lattice points of the frame that begins at this boundary (R83). -/
def frameLen (t : Time) : Nat :=
  let adv : Int := 2 ^ 40 + t.rate
  let need : Int := 6250 * 2 ^ 40 - t.rem
  ((need + adv - 1) / adv).toNat

/-- The next boundary, one frame number on (R62, R83, R84). Log: 19 (DESIGN CHOICE, unsafe). -/
def advance (t : Time) : Time :=
  let n := t.frameLen
  { t with
    first := t.frame + 1, frame := t.frame + 1, lp := t.lp + n, lpPrev := n
    rem := ((t.rem : Int) + n * (2 ^ 40 + t.rate) - 6250 * 2 ^ 40).toNat
    rate := t.nextRate.getD t.rate, nextRate := none, gov := { t.gov with bus := [] } }

/-- The frame that ends at the boundary is lengthened by `d` in 1/256 ns: the boundary lies at the first lattice point
at which
the counter has gained as much (R83, R87). -/
def lengthen (t : Time) (d : Nat) : Time :=
  let adv : Int := 2 ^ 40 + t.rate
  let need : Int := (d * 2 ^ 40 / 640 : Nat)
  let n := ((need - t.rem + adv - 1) / adv).toNat
  { t with lp := t.lp + n, lpPrev := t.lpPrev + n, rem := ((t.rem : Int) + n * adv - need).toNat }

end Time

namespace Ops

/-- The update of the rate word from θ (R84): applied from the next boundary. -/
def rateUpdate (theta : Int) (tCyc : Nat) (s : State) : State :=
  let e := Bits.roundDiv (theta * 2 ^ 40) (256 * tCyc)
  let ki := Bits.field s.tm.timeCfg.toNat 23 20
  let kp := Bits.field s.tm.timeCfg.toNat 19 16
  let integ := Bits.clamp (-219902325) 219902325 (s.tm.integ + e / 2 ^ ki)
  let r := Bits.clamp (-219902325) 219902325 (integ + e / 2 ^ kp)
  { s with tm.theta := Bits.sat 32 theta, tm.integ := integ, tm.nextRate := some r }

/-- A 32-bit parameter from a signed value, saturated at the limits (R87). -/
def p32 (z : Int) : Nat := Bits.unsigned 32 (Bits.sat 32 z)

/-- Relabels the present boundary: the frame numbers between are skipped, or repeated; `change` is what device time gains
over control time (R87, R88, R101). Log: 20 (DEDUCED, unsafe). -/
def relabel (label : Nat) (change : Int) (s : State) : State :=
  { s with tm.frame := label, tm.steps := s.tm.steps + change,
           tm.first := if s.tm.frame ≤ label then s.tm.first else label }

/-- The label of the boundary that a step by θ gives: the master's boundary at or after the natural one (R87). -/
def stepLabel (theta : Int) (s : State) : Nat := (((s.tm.boundary : Int) + theta + frame256 - 1) / frame256).toNat

/-- The single step of R87 at the present boundary, by θ in 1/256 ns; parameter 0 is θ in whole ns, rounded toward minus
infinity. Log: 20 (DEDUCED, unsafe), 104 (DESIGN CHOICE, unsafe). -/
def stepBy (theta : Int) (s : State) : State :=
  let label := stepLabel theta s
  let n := label - s.tm.frame
  let longer := ((label * frame256 : Nat) - ((s.tm.boundary : Int) + theta)).toNat
  raise Event.timeStep (mkSrc 1 5 3) (p32 (theta / 256)) (min n (2 ^ 32 - 1))
    (relabel label theta { s with tm := s.tm.lengthen longer })

/-- Reported slack in ns of a region with work length `w`: the lesser of projected and measured slack, rounded toward minus
infinity and saturated (R66, R67). -/
def slackOf (w : Nat) (m : SlackMeas) : Int :=
  let projected : Int := 14425 * 16 - (w * m.canary * 5 : Nat)
  let least := match m.done with
    | some d => min projected ((5850 * 8 - (d : Int)) * 5)
    | none => projected
  Bits.sat 16 (least / 16)

/-- The work length of a field region: 0 to 7 of the control dies, 8 to 13 of the FID; 1 before a configuration has been
accepted (R66). -/
def workOf (s : State) (r : Nat) : Nat := 1 + Tab.get s.tm.work r

/-- A region's slack registers with a newly reported slack (R68). -/
def slackTake (x : Int) (r : Slack) : Slack := { last := x, min := min r.min x }

/-- Takes up a region's reported slack (R68). -/
def slackReport (key : Nat) (x : Int) (s : State) : State :=
  { s with tm.slack := Tab.modify s.tm.slack key (slackTake x) }

/-- SLACK_FLOOR: recorded below FLOOR_NS, and again only after 64 consecutive frames at or above it (R69).
Log: 23 (DEDUCED, unsafe). -/
def slackFloor (key src : Nat) (x : Int) (s : State) : State :=
  let w := Tab.get s.tm.floorWait key
  if x < (Bits.field s.tm.slackTarget.toNat 31 16 : Nat) then
    let s1 := { s with tm.floorWait := Tab.set s.tm.floorWait key 64 }
    if w = 0 then raiseMid Event.slackFloor src (p32 x) 0 s1 else s1
  else { s with tm.floorWait := Tab.set s.tm.floorWait key (w - 1) }

/-- A frame of the HBD's own time: from HBD_READY each of its six regions measures its canary chains and reports projected
slack, and the latest health report grows older (Table 13-9); the work lengths its firmware fixes and the delays are
free values (R68). Log: 105 (DESIGN CHOICE, safe). -/
def hbdFrame (s0 : State) : State :=
  let s := { s0 with hbd.healthAge := min 1632000 (s0.hbd.healthAge + 1) }
  if !s.pwr.hbdReady then s
  else
    let report (t : Tab Slack) (r : Nat) : Tab Slack :=
      Tab.modify t r (slackTake (slackOf (Config.hbdWork r) { canary := Config.hbdCanary s.free r, done := none }))
    { s.draw with hbd.slack := (List.range 6).foldl report s.hbd.slack }

/-- Whether the governor may write (R74). -/
def govOn (s : State) : Bool := s.tm.gov.enabled && !s.tm.gov.fault

/-- The VOUT_COMMAND value for a voltage (R72). -/
def voutCommand (mv : Nat) (expo : Int) : Int := Bits.roundDiv ((mv : Int) * 2 ^ (-expo).toNat) 1000

/-- A transaction of the active die's governor on the PMBus (R70, Table 2-3). -/
def pmbus (cmd : Nat) (write : Bool) (data : Nat) (s : State) : State :=
  let c := s.tm.govCfg.toNat
  { s with tm.gov := { s.tm.gov with
    bus := s.tm.gov.bus ++ [{ addr := c % 128, cmd := cmd, write := write, data := data, pec := c.testBit 7 }] } }

/-- Sends VOUT_COMMAND with the last commanded voltage, at a lattice point since lock; the reading that is to confirm it
counts
from there (R72, R74). -/
def govSend (lp : Nat) (s : State) : State :=
  pmbus 0x21 true (Bits.unsigned 16 (voutCommand s.tm.gov.out s.tm.gov.expo))
    { s with tm.gov := { s.tm.gov with settling := true, wroteAt := lp, readAt := lp } }

/-- Sends the target as VOUT_COMMAND if it differs from the last command and none is settling (R72, R74).
Log: 106 (DESIGN CHOICE, unsafe). -/
def govWrite (lp : Nat) (s : State) : State :=
  if govOn s && !s.tm.gov.settling && decide (s.tm.gov.v ≠ s.tm.gov.out) then
    govSend lp { s with tm.gov := { s.tm.gov with out := s.tm.gov.v, retries := 0 } }
  else s

/-- Repeats the transaction that failed: the VOUT_COMMAND write while one settles, else the last one made. -/
def govRepeat (lp : Nat) (s : State) : State :=
  if s.tm.gov.settling then govSend lp s
  else
    match s.tm.gov.bus.getLast? with
    | some x => { s with tm.gov := { s.tm.gov with bus := s.tm.gov.bus ++ [x] } }
    | none => s

/-- A governor transaction failed: up to three retries, then GOV_PMBUS_FAULT (R74). -/
def govRetry (lp : Nat) (s : State) : State :=
  if !govOn s then s
  else if s.tm.gov.retries < 3 then govRepeat lp { s with tm.gov := { s.tm.gov with retries := s.tm.gov.retries + 1 } }
  else
    raiseMid Event.govPmbusFault (mkSrc s.pair.active 7 4) 0 0
      { s with tm.gov := { s.tm.gov with fault := true, settling := false } }

/-- Raises the target by one step, to 950 mV at most (R73). -/
def govUp (s : State) : State :=
  { s with tm.gov := { s.tm.gov with v := min (s.tm.gov.v + Bits.field s.tm.govCfg.toNat 11 8) 950 } }

/-- The interval's decision (R73, R76). -/
def govDecide (s : State) : State :=
  let g := s.tm.gov
  let target : Int := Bits.field s.tm.slackTarget.toNat 15 0
  let hyst : Int := 10 * (Bits.field s.tm.govCfg.toNat 23 16 : Nat)
  let m := g.minSlack
  let run := if decide (g.out = 950) && decide (m < target - hyst) then g.atMaxRun + 1 else 0
  let s1 : State :=
    if m < target - hyst then govUp s
    else if target + hyst < m then
      if Bits.field s.tm.govCfg.toNat 27 24 < g.quiet + 1 then
        { s with tm.gov := { g with v := max (g.v - Bits.field s.tm.govCfg.toNat 11 8) 760, quiet := 0 } }
      else { s with tm.gov := { g with quiet := g.quiet + 1 } }
    else { s with tm.gov := { g with quiet := 0 } }
  let s2 := { s1 with tm.gov := { s1.tm.gov with minSlack := 32767, atMaxRun := min run 16, atMax := decide (16 ≤ run) } }
  let s3 := if decide (run = 16) then raise Event.govAtLimit (mkSrc 1 7 4) 0 0 s2 else s2
  govWrite s.tm.lp s3

/-- The nearest whole second to a time, in 1/256 ns (R95). Log: 22 (DEDUCED, unsafe). -/
def nearestSec (x : Nat) : Nat := (x + sec256 / 2) / sec256 * sec256

/-- An accepted PPS_IN edge at control time `c`. Log: 22 (DEDUCED, unsafe). -/
def ppsTake (c : Int) (s : State) : State := { s with tm.ppsLocked := true, tm.ppsLast := some c }

/-- Queues a transmit timestamp for the next boundary (R98, R99). -/
def txStamp (chB : Bool) (time id : Nat) (s : State) : State :=
  { s with tm.txNew := s.tm.txNew ++ [(chB, { time := time, id := id })] }

/-- Appends one timestamp to its queue; a full queue discards it (R100). -/
def txAppend (s : State) (x : Bool × TxTs) : State :=
  let full := if x.1 then decide (16 ≤ s.tm.txB.length) else decide (16 ≤ s.tm.txA.length)
  if full then
    let s1 := if x.1 then { s with tm.ovfB := true } else { s with tm.ovfA := true }
    raise Event.txtsOverflow (mkSrc 1 5 3) (Bits.b2n x.1) x.2.id s1
  else if x.1 then { s with tm.txB := s.tm.txB ++ [x.2] }
  else { s with tm.txA := s.tm.txA ++ [x.2] }

/-- Appends the timestamps of the frame that has just ended, in transmit order (R99). -/
def txAppendAll (s : State) : State := s.tm.txNew.foldl txAppend { s with tm.txNew := [] }

end Ops

/-- REF_LOST (R59). -/
def refLost (i : Instant) (s : State) : State :=
  if s.tm.lock && !s.tm.holdover then
    Ops.raiseMid Event.refLost (mkSrc 1 7 0) 0 0
      { s with tm := { s.tm with holdover := true, lostAt := s.tm.now i, expired := false } }
  else s

/-- REF_RESTORED: the reference has been present for 1 ms; it is accepted within ±100 ppm of the holdover frequency (R60). -/
def refRestored (devPpb : Int) (i : Instant) (s : State) : State :=
  if s.tm.holdover && decide (devPpb.natAbs ≤ 100000) && decide (s.tm.lostAt + 400000 ≤ s.tm.now i) then
    Ops.raiseMid Event.refRestored (mkSrc 1 7 0) 0 0 { s with tm := { s.tm with holdover := false, expired := false } }
  else s

/-- HOLDOVER_EXPIRED: HOLDOVER_MS have passed since the loss; SAFE_STOP follows at the next boundary with cause 6 (R61). -/
def holdoverExpired (i : Instant) (s : State) : State :=
  let limit := Bits.field s.tm.latticeCfg.toNat 27 16 * 400000
  if s.tm.holdover && !s.tm.expired && decide (s.tm.lostAt + limit ≤ s.tm.now i) then
    Ops.raiseMid Event.holdoverExpired (mkSrc 1 7 0) 0 0
      { s with tm.expired := true, md.stopCauses := s.md.stopCauses ++ [6] }
  else s

/-- SLACK_CLEAR (R68): every SLACK_MIN_NS to 0x7FFF. -/
def slackClear (value : Nat) (s : State) : State :=
  if value.testBit 0 then
    { s with tm.slack := Tab.mapVals s.tm.slack fun _ r => { r with min := 32767 }
             hbd.slack := Tab.mapVals s.hbd.slack fun _ r => { r with min := 32767 } }
  else s

/-- GOVERNOR_INTERVAL: the decision of an interval, once at its end (R73). -/
def governorInterval (s : State) : State :=
  if Ops.govOn s && s.tm.due (2 ^ (Bits.field s.tm.govCfg.toNat 15 12 + 4)) 0 && decide (s.tm.gov.decided ≠ s.tm.frame + 1) then
    Ops.govDecide { s with tm.gov := { s.tm.gov with decided := s.tm.frame + 1 } }
  else s

/-- READ_VOUT_POLL: a reading every 200 µs after a write, until one lies within ±10 mV of the command (R74). -/
def readVoutPoll (mv : Nat) (i : Instant) (s : State) : State :=
  let lp := s.tm.now i
  if Ops.govOn s && s.tm.gov.settling && decide (s.tm.gov.readAt + 80000 ≤ lp) then
    let s1 := Ops.pmbus 0x8B false (Bits.unsigned 16 (Ops.voutCommand mv s.tm.gov.expo))
      { s with tm.gov := { s.tm.gov with readAt := lp } }
    if ((mv : Int) - s.tm.gov.out).natAbs ≤ 10 then
      Ops.govWrite lp { s1 with tm.gov := { s1.tm.gov with settling := false, retries := 0 } }
    else s1
  else s

/-- VOUT_SETTLE_TIMEOUT: a write has not settled within 1 ms (R74). -/
def voutSettleTimeout (i : Instant) (s : State) : State :=
  let lp := s.tm.now i
  if s.tm.gov.settling && decide (s.tm.gov.wroteAt + 400000 ≤ lp) then Ops.govRetry lp s else s

/-- PMBUS_NACK: the regulator does not acknowledge, or a packet error check fails (R74). -/
def pmbusNack (i : Instant) (s : State) : State := Ops.govRetry (s.tm.now i) s

/-- GOV_REG_ALERT: STATUS_WORD is read and CLEAR_FAULTS sent (R75); a disabled governor makes no transaction (R77). -/
def govRegAlert (status : Nat) (s : State) : State :=
  if s.tm.gov.enabled then
    Ops.pmbus 0x03 true 0
      (Ops.raiseMid Event.govRegAlert (mkSrc s.pair.active 7 4) status 0 (Ops.pmbus 0x79 false status s))
  else s

/-- PPS_LOST: no edge has been accepted for 1.5 s (R94). -/
def ppsLost (i : Instant) (s : State) : State :=
  match s.tm.ppsLast with
  | some c =>
    if s.tm.ppsLocked && decide (c + 3 * (sec256 / 2 : Nat) ≤ (s.tm.edge i : Int) - s.tm.steps) then
      Ops.raiseMid Event.ppsLost (mkSrc 1 5 3) 0 0 { s with tm.ppsLocked := false }
    else s
  | none => s

/-- Adds a second to the ranges of seconds that have given a pulse. -/
def pulsed (sec : Nat) : List (Nat × Nat) → List (Nat × Nat)
  | [] => [(sec, sec)]
  | (a, b) :: t => if sec = b + 1 then (a, sec) :: t else (a, b) :: pulsed sec t

/-- PPS_OUT (R96): at a whole second the counter reaches, once for each second; the pulse lasts PPS_OUT_WIDTH ms.
Log: 118 (DESIGN CHOICE, unsafe). -/
def ppsOut (s : State) : State :=
  let sec := s.tm.frame / 64000
  if s.enabled 11 && s.tm.latticeCfg.toNat.testBit 3 && decide (s.tm.frame % 64000 = 0) &&
      !s.tm.ppsDone.any fun r => decide (r.1 ≤ sec) && decide (sec ≤ r.2) then
    { s with tm := { s.tm with
      ppsOut := true, ppsDone := pulsed sec s.tm.ppsDone
      ppsEnd := s.tm.lp + Bits.field s.tm.latticeCfg.toNat 15 8 * 400000 } }
  else s

/-- PPS_OUT_WIDTH_END: the pulse has lasted PPS_OUT_WIDTH ms (R96). -/
def ppsOutWidthEnd (i : Instant) (s : State) : State :=
  if s.tm.ppsEnd ≤ s.tm.now i then { s with tm.ppsOut := false } else s

/-- TXTS_READ (R102): removes the oldest entry. -/
def txtsRead (c : Cmd) (s : State) : Reply :=
  let ch := Arg.u c 0 1
  let q := if ch = 0 then s.tm.txA else s.tm.txB
  match q with
  | [] => .done s (0xFF * 2 ^ 120)
  | x :: rest =>
    let r := Time.form12 x.time + x.id % 2 ^ 16 * 2 ^ 96 + ch * 2 ^ 112 + rest.length * 2 ^ 120
    .done (if ch = 0 then { s with tm.txA := rest } else { s with tm.txB := rest }) r

end Sys2Proof.Machine
end

