-- ==== Sys2Proof/Machine/HostRing.lean ====
section
/-!
DEFINITION. Rings in host memory, interrupts and the upstream messages that fill them (R530 to R553, R585 to R588): how
completions, stream entries and event records reach the host, sessions' closing, and the setup writes of these rings.
-/

namespace Sys2Proof.Machine

/-- Entries of ring unit `n`: 2^LOG2, 0 when not in use (R537). -/
def Hbd.entries (h : Hbd) (n : Nat) : Nat :=
  let l := (Tab.get h.rings n).size % 32
  if l = 0 then 0 else 2 ^ l

/-- KIND of completion or stream ring `c`. -/
def Hbd.kind (h : Hbd) (c : Nat) : Nat := Bits.field (Tab.get h.rings (32 + c)).size 17 16

/-- The completion ring of submission ring `q`. -/
def Hbd.cqOf (h : Hbd) (q : Nat) : Nat := Bits.field (Tab.get h.rings q).size 12 8

/-- Whether ring `c` is a configured stream ring. -/
def Hbd.isStream (h : Hbd) (c : Nat) : Bool := decide (h.kind c = 2) && decide (h.entries (32 + c) ≠ 0)

/-- Whether the engine may write host memory: session OPEN and polling enabled (R536, R550). -/
def Hbd.mayWrite (h : Hbd) : Bool := decide (h.sess = 1) && h.pollEn

/-- Free entries of ring `c` as the last CQ_HEAD shows (R544). -/
def Hbd.room (h : Hbd) (c : Nat) : Nat :=
  h.entries (32 + c) - (Tab.get h.cqTail c + 2 ^ 32 - Tab.get h.cqHead c) % 2 ^ 32

/-- Whether the field side is reachable: some Barrier Link up (R144). -/
def State.linkUp (s : State) : Bool := s.pair.linkA || s.pair.linkB

/-- Whether upstream messages pass: a link is up and the HBD has not told the dies to hold them (R544, Table 15-11).
Log: 82 (DEDUCED, unsafe). -/
def State.upFlows (s : State) : Bool := s.linkUp && !s.hbd.upHeld

namespace Ops

/-- Writes a 4-byte field of the doorbell page's device half. -/
def pageWrite (off v : Nat) (s : State) : State :=
  { s with hbd.mem := Mem.writeLe s.hbd.mem (s.hbd.dbBase + off) 4 v }

/-- Counts a written entry toward the ring's source (R533). -/
def ringSignal (c : Nat) (s : State) : State :=
  let n := Tab.get s.hbd.unsignalled c + 1
  let th := (Tab.get s.hbd.rings (32 + c)).threshold
  if decide (th ≠ 0) && decide (th ≤ n) then fire c { s with hbd.unsignalled := Tab.set s.hbd.unsignalled c 0 }
  else { s with hbd.unsignalled := Tab.set s.hbd.unsignalled c n }

/-- Writes one 32-byte entry into ring `c` and then CQ_TAIL (R535, R537). -/
def ringWrite (c bytes : Nat) (s : State) : State :=
  let k := Tab.get s.hbd.cqTail c
  let a := (Tab.get s.hbd.rings (32 + c)).base + k % s.hbd.entries (32 + c) * 32
  let k' := (k + 1) % 2 ^ 32
  ringSignal c (pageWrite (0x8C0 + 4 * c) k'
    { s with hbd.mem := Mem.writeLe s.hbd.mem a 32 bytes, hbd.cqTail := Tab.set s.hbd.cqTail c k' })

/-- The 32 bytes of a completion record (Table 15-5). -/
def complBytes (k : Compl) (carried : Bool) (seq : Nat) : Nat :=
  k.org.tag + k.org.opcode * 2 ^ 32 + k.status.code * 2 ^ 48 + k.reason * 2 ^ 56 + k.result % 2 ^ 128 * 2 ^ 64 +
    k.org.session * 2 ^ 192 + k.org.sq * 2 ^ 208 + (Bits.b2n k.interim + 2 * Bits.b2n carried) * 2 ^ 216 +
    seq % 2 ^ 32 * 2 ^ 224

/-- Whether the completion ring of a completion can take it now. -/
def complFits (s : State) (k : Compl) : Bool :=
  let c := s.hbd.cqOf k.org.sq
  decide (s.hbd.kind c = 1) && decide (s.hbd.room c ≠ 0) && (k.atHbd || s.upFlows)

/-- The read of a command a completion belongs to. -/
def findOut (s : State) (o : Origin) : Option Outstanding :=
  s.hbd.outstanding.find? fun x => x.org.tag = o.tag && x.org.session = o.session && x.org.sq = o.sq

/-- Ends a command's wait for its final completion. -/
def dropOut (s : State) (o : Origin) : State :=
  match findOut s o with
  | some x => { s with hbd.outstanding := s.hbd.outstanding.erase x }
  | none => s

/-- Writes the oldest completion that fits into its ring (R542, R552). -/
def writeCompl (s : State) : State :=
  if !s.hbd.mayWrite then s
  else
    match s.hbd.compls.find? (complFits s) with
    | none => s
    | some k =>
      let c := s.hbd.cqOf k.org.sq
      let carried := match if k.dup then none else findOut s k.org with
        | some x => decide (x.period ≠ s.hbd.period)
        | none => decide (k.org.session ≠ s.hbd.sessNum)
      let s1 := ringWrite c (complBytes k carried (Tab.get s.hbd.cqTail c)) <| countDie 0 1 18 1
        { s with hbd.compls := s.hbd.compls.erase k, hbd.upNum := (s.hbd.upNum + Bits.b2n (!k.atHbd)) % 2 ^ 32 }
      if k.interim || k.dup then s1 else dropOut s1 k.org

/-- A stream entry joins its ring's backlog of 65,536 and takes its SEQ; a full backlog discards it, and its SEQ with it
(R300, R301). `body` holds bytes 0 to 27. -/
def streamPush (ring body : Nat) (s : State) : State :=
  let seq := Tab.get s.hbd.streamSeq ring
  let s1 := { s with hbd.streamSeq := Tab.set s.hbd.streamSeq ring ((seq + 1) % 2 ^ 32) }
  let q := Tab.get s.hbd.streams ring
  if decide (65536 ≤ q.length) then
    -- parameter 0 is the ring; the ring's own source tells the limits apart
    let key := (Event.acqStreamDrop % 0x2000) * 0x8000 + ring
    let l := Tab.get s.log.limits key
    let s2 := { s1 with acq.drop := true }
    if l.last = 0 || decide (l.last + 63 ≤ s.tm.frame) then
      raise Event.acqStreamDrop (mkSrc 1 3 0) ring (l.since + 1)
        { s2 with log.limits := Tab.set s.log.limits key { last := s.tm.frame + 1, since := 0 } }
    else { s2 with log.limits := Tab.set s.log.limits key { l with since := l.since + 1 } }
  else { s1 with hbd.streams := Tab.set s1.hbd.streams ring (q ++ [⟨body % 2 ^ 224 + seq * 2 ^ 224⟩]) }

/-- Writes stream entries of a ring, oldest first, while it has room: at most `n`. -/
def writeStream (c n : Nat) (s : State) : State :=
  match n with
  | 0 => s
  | n + 1 =>
    match Tab.get s.hbd.streams c with
    | [] => s
    | e :: rest =>
      if s.hbd.room c = 0 then s
      else writeStream c n (ringWrite c e.bytes { s with hbd.streams := Tab.set s.hbd.streams c rest })

/-- One STREAM message: one to 32 entries for one ring (Table 15-11). -/
def streamMsg (c : Nat) (s : State) : State :=
  if s.hbd.mayWrite && s.upFlows && s.hbd.isStream c && !(Tab.get s.hbd.streams c).isEmpty then
    writeStream c 32 { s with hbd.upNum := (s.hbd.upNum + 1) % 2 ^ 32 }
  else s

/-- The 32 bytes of an event record (Table 16-1). -/
def recBytes (r : HRec) : Nat :=
  r.seq + r.sec * 2 ^ 32 + r.ns * 2 ^ 96 + r.code * 2 ^ 128 + r.src * 2 ^ 144 + r.p0 * 2 ^ 160 + r.p1 * 2 ^ 192 +
    (r.seq ^^^ 0x5A5A5A5A) * 2 ^ 224

/-- Whether the recorder mirror may write the ring of size field `log2` (R584, R585). -/
def mirrorOn (s : State) (log2 : Nat) : Bool :=
  s.hbd.mirrorCfg.testBit 16 && decide (log2 ≠ 0) && s.hbd.mayWrite

/-- Writes a record into a mirror ring: the head word, then the record (R577, R585), and its source fires (R588). -/
def mirrorWrite (base log2 : Nat) (r : HRec) (s : State) : State :=
  let m := Mem.writeLe s.hbd.mem base 4 r.seq
  fire (64 + Event.severity r.code) <| countDie 0 5 16 1
    { s with hbd.mem := Mem.writeLe m (base + 64 + 32 * (r.seq % 2 ^ log2)) 32 (recBytes r) }

/-- Writes every waiting record of the HBD series (R584, R585). -/
def drainH (s : State) : State :=
  let l := Bits.field s.hbd.mirrorCfg 12 8
  if mirrorOn s l then
    s.hbd.hRing.foldl (fun s r => { mirrorWrite s.hbd.mirHBase l r s with hbd.mirHHead := r.seq } )
      { s with hbd.hRing := [] }
  else s

/-- Writes field records of one EVENT message, at most `n` (Table 15-11). -/
def drainF (n : Nat) (s : State) : State :=
  match n with
  | 0 => s
  | n + 1 =>
    match s.hbd.fieldRecs with
    | [] => s
    | r :: rest =>
      let l := s.hbd.mirrorCfg % 32
      drainF n { mirrorWrite s.hbd.mirFBase l r { s with hbd.fieldRecs := rest } with
        hbd.mirFHead := r.seq, hbd.lastOld := r.seq }

/-- A committed record joins the mirror backlog of 8,192; beyond that it is lost to the mirror (R586). -/
def mirrorPush (r : HRec) (s : State) : State :=
  if s.hbd.fieldRecs.length < 8192 then { s with hbd.fieldRecs := s.hbd.fieldRecs ++ [r] }
  else if s.hbd.gap then s
  else hRaise Event.mirrorGap (mkSrc 0 5 0) r.seq 0 { s with hbd.gap := true }

/-- Logs an access in VIOL_ADDR and VIOL_INFO and fires source 51; its one event is the caller's (R567). -/
def violLog (offset kind : Nat) (write : Bool) (be : Nat) (s : State) : State :=
  fire 51 { s with hbd.violAddr := offset % 2 ^ 16, hbd.violKind := kind, hbd.violWrite := write, hbd.violBe := be,
                   hbd.violMode := s.hbd.modeReg % 8, hbd.violCount := Bits.satInc 8 s.hbd.violCount }

/-- VIOL_INFO (Table 15-15). -/
def violInfo (s : State) : Nat :=
  s.hbd.violKind + Bits.b2n s.hbd.violWrite * 2 ^ 3 + s.hbd.violBe * 2 ^ 4 + s.hbd.violMode * 2 ^ 8 +
    s.hbd.violCount * 2 ^ 16

/-- Logs an access and records VIOLATION with offset and VIOL_INFO (R567). -/
def violation (offset kind : Nat) (write : Bool) (be : Nat) (s : State) : State :=
  let s1 := violLog offset kind write be s
  hRaise Event.violation (mkSrc 0 0 0) offset (violInfo s1) s1

/-- An access that finds the field side not ready or unreachable (R144). -/
def notReadyAccess (offset : Nat) (write : Bool) (s : State) : State :=
  let s1 := violLog offset 3 write 15
    { s with hbd.lastStatus := 0x11, hbd.nrCount := Bits.satInc 8 s.hbd.nrCount }
  hRaise Event.fieldNotReady (mkSrc 0 4 0) offset 0 s1

/-- Whether a channel has data on the way: a read of data outstanding, or data sent to the Decks (R560). -/
def hdmaBusy (w : Chain) : Bool := w.toDeck && (decide (w.len ≠ 0) || decide (w.inFlight ≠ 0))

/-- A running channel stops fetching: PAUSING while data is on the way, else PAUSED (R560). -/
def hdmaPauseOne (h : Nat) (s : State) : State :=
  let d := Tab.get s.hbd.hdma h
  match d.work with
  | none => s
  | some w =>
    if d.st ≠ 1 then s
    else if hdmaBusy w then countDie 0 2 18 1 { s with hbd.hdma := Tab.set s.hbd.hdma h { d with st := 2 } }
    else fire (32 + h) (countDie 0 2 18 1 { s with hbd.hdma := Tab.set s.hbd.hdma h { d with st := 3 } })

/-- Every host DMA chain stops as for a pause (R550, Table 15-9). -/
def hdmaHold (s : State) : State := (List.range 16).foldl (fun s h => hdmaPauseOne h s) s

/-- A close begins: CLOSING, with accesses in flight allowed to end (R550). -/
def closeBegin (s : State) : State :=
  if s.hbd.sess = 1 then fire 50 (hdmaHold { s with hbd.sess := 2, hbd.upHeld := true }) else s

/-- The close ends: CLOSED, SESSION_ACK 0, HOST_SESSION_CLOSED (R550, R551). -/
def closeEnd (hard : Bool) (s : State) : State :=
  let s1 := hRaise Event.hostSessionClosed (mkSrc 0 1 64) s.hbd.sessNum (Bits.b2n hard)
    { s with hbd.sess := 0, hbd.sessNum := 0, hbd.upHeld := true }
  fire 50 (if hard then s1 else pageWrite 0x800 0 s1)

/-- Host DMA chains end without a completion (R551). -/
def hdmaKill (s : State) : State :=
  { s with hbd.hdma := [], hbd.loadQueue := [] }

end Ops

/-- COMPLETION (R542). Log: 82 (DEDUCED, unsafe). -/
def completion (s : State) : State := Ops.writeCompl s

/-- STREAM (R300). Log: 82 (DEDUCED, unsafe). -/
def stream (ring : Nat) (s : State) : State := Ops.streamMsg ring s

/-- EVENT (R585): one message of field records, and the HBD records that wait. Log: 82 (DEDUCED, unsafe). -/
def event (s : State) : State :=
  let s1 := Ops.drainH s
  if Ops.mirrorOn s1 (s1.hbd.mirrorCfg % 32) && s1.upFlows && !s1.hbd.restart && !s1.hbd.fieldRecs.isEmpty then
    Ops.drainF 32 { s1 with hbd.upNum := (s1.hbd.upNum + 1) % 2 ^ 32 }
  else s1

/-- FIELD_RECORDER_RESTART (R587). Log: 88 (DEDUCED, unsafe). -/
def fieldRecorderRestart (s : State) : State :=
  if s.hbd.restart && Ops.mirrorOn s (s.hbd.mirrorCfg % 32) then
    let e := (s.hbd.epoch + 1) % 256
    Ops.hRaise Event.fieldRecorderRestart (mkSrc 0 5 0) s.hbd.lastOld e
      { s with hbd.restart := false, hbd.epoch := e, hbd.lastOld := 0
               hbd.mem := Mem.writeLe s.hbd.mem (s.hbd.mirFBase + 4) 4 e }
  else s

/-- Writes the HBD's dump entries that wait (R592). -/
def Ops.writeHdumps (s : State) : State :=
  let ring := s.hbd.hdumpCfg % 32
  s.hbd.hdumps.foldl (fun s x =>
    if s.hbd.room ring = 0 then { s with hbd.hdumps := s.hbd.hdumps ++ [x] }
    else Ops.countDie 0 5 17 1 (Ops.ringWrite ring (x.1 % 2 ^ 224 + x.2 * 2 ^ 224) s)) { s with hbd.hdumps := [] }

/-- ACK (R479): everything written is acknowledged. -/
def ack (s : State) : State := { s with hbd.upAcked := s.hbd.upNum }

/-- RING_IRQ_DELAY (R533): `us` µs have passed since the first entry that no signal covers.
Log: 94 (DESIGN CHOICE, safe). -/
def ringIrqDelay (c us : Nat) (s : State) : State :=
  let r := Tab.get s.hbd.rings (32 + c)
  if decide (r.threshold ≠ 0) && decide (r.delayUs ≠ 0) && decide (r.delayUs ≤ us) &&
      decide (Tab.get s.hbd.unsignalled c ≠ 0) then
    Ops.fire c { s with hbd.unsignalled := Tab.set s.hbd.unsignalled c 0 }
  else s

/-- DOORBELL_BUS_ERROR (R538). -/
def doorbellBusError (s : State) : State :=
  if s.hbd.pollEn then
    Ops.closeBegin (Ops.fire 49 (Ops.hRaise Event.doorbellBusError (mkSrc 0 1 64) (s.hbd.dbBase % 2 ^ 32) 0
      { s with hbd.pollEn := false, hbd.dbErr := true }))
  else s

/-- Stops a submission ring (R541, R658). -/
def Ops.ringStop (q p1 : Nat) (s : State) : State :=
  Ops.fire 57 (Ops.hRaise Event.ringError (mkSrc 0 1 q) q p1 { s with hbd.ringErr := Bits.setBit s.hbd.ringErr q true })

/-- SUBMISSION_READ_FAIL (R658): at the entry SQ_HEAD names. -/
def submissionReadFail (q : Nat) (s : State) : State :=
  if s.hbd.mayWrite && decide (s.hbd.entries q ≠ 0) && !s.hbd.ringErr.testBit q then
    Ops.ringStop q ((Tab.get s.hbd.rings q).base + Tab.get s.hbd.sqHead q % s.hbd.entries q * 64) s
  else s

/-- RING_ERR_CLEAR (R541): the ring resumes at SQ_HEAD. -/
def ringErrClear (v : Nat) (s : State) : State := { s with hbd.ringErr := Bits.w1c s.hbd.ringErr v 32 }

/-- SESSION_CTRL_CLOSE (R549), with the W1C bit of DB_ERR. -/
def sessionCtrlClose (v : Nat) (s : State) : State :=
  let s1 := if v.testBit 3 then { s with hbd.dbErr := false } else s
  if v.testBit 2 then Ops.closeBegin s1 else s1

/-- Whether a read of host memory is in flight: a channel that pauses still awaits its data (R550). -/
def Hbd.reads (h : Hbd) : Bool :=
  h.hdma.any fun q => decide (q.2.st = 2) && match q.2.work with
    | some w => w.toDeck && decide (w.len ≠ 0)
    | none => false

/-- HOST_SESSION_CLOSED (R550): the accesses in flight have completed. -/
def hostSessionClosed (s : State) : State :=
  if decide (s.hbd.sess = 2) && !s.hbd.reads then Ops.closeEnd false s else s

/-- READY_STATUS_CLR (R147). -/
def readyStatusClr (v : Nat) (s : State) : State :=
  if v.testBit 2 then { s with hbd.lastStatus := 0, hbd.nrCount := 0 } else s

/-- VIOL_INFO_CLR (R567). -/
def violInfoClr (v : Nat) (s : State) : State := if v.testBit 31 then { s with hbd.violCount := 0 } else s

/-- DB_POLL (R534, R538): an interval out of range is discarded and logged with KIND 2. -/
def dbPoll (v : Nat) (s : State) : State :=
  let us := v % 128
  if decide (1 ≤ us) && decide (us ≤ 64) then
    { s with hbd.pollUs := us, hbd.pollEn := v.testBit 8, hbd.polled := s.hbd.polled && s.hbd.pollEn && v.testBit 8 }
  else Ops.violation 0x0038 2 true 15 s

/-- Whether two host ranges overlap. -/
def overlap (a n b m : Nat) : Bool := decide (a < b + m) && decide (b < a + n) && decide (n ≠ 0) && decide (m ≠ 0)

/-- Host ranges in use at a session open: the page, the rings, the mirror rings (R546, R585). -/
def Hbd.ranges (h : Hbd) : List (Nat × Nat) :=
  (h.dbBase, 4096) ::
    ((List.range 64).filterMap fun n =>
      if decide (h.entries n = 0) || (decide (32 ≤ n) && decide (h.kind (n - 32) = 0)) then none
      else some ((Tab.get h.rings n).base, h.entries n * (if n < 32 then 64 else 32))) ++
    (if h.mirrorCfg.testBit 16 && decide (h.mirrorCfg % 32 ≠ 0) then [(h.mirFBase, 64 + 32 * 2 ^ (h.mirrorCfg % 32))]
      else []) ++
    (if h.mirrorCfg.testBit 16 && decide (Bits.field h.mirrorCfg 12 8 ≠ 0) then
      [(h.mirHBase, 64 + 32 * 2 ^ Bits.field h.mirrorCfg 12 8)] else [])

/-- Whether no two ranges of a list overlap. -/
def disjointAll : List (Nat × Nat) → Bool
  | [] => true
  | a :: t => t.all (fun b => !overlap a.1 a.2 b.1 b.2) && disjointAll t

/-- The ring configuration check of a session open (R546 step 1). -/
def Hbd.openOk (h : Hbd) : Bool :=
  ((List.range 32).all fun q => decide (h.entries q = 0) ||
    (decide (h.kind (h.cqOf q) = 1) && decide (h.entries (32 + h.cqOf q) ≠ 0))) && disjointAll h.ranges

end Sys2Proof.Machine
end

