-- ==== Sys2Proof/Machine/SoftFloat.lean ====
section
/-!
DEFINITION. IEEE 754 binary32 and binary64 with round to nearest, ties to even, as R153, R293 and R395 use them: exact
arithmetic on integers and one rounding. A float is its bit pattern (a Nat); every produced NaN is the canonical quiet
NaN (R395).
-/

namespace Sys2Proof.Machine

/-- A binary interchange format: exponent width and fraction width. -/
structure Fmt where
  eb : Nat
  mb : Nat
  deriving DecidableEq, Repr

/-- binary32. -/
def f32 : Fmt := ⟨8, 23⟩

/-- binary64. -/
def f64 : Fmt := ⟨11, 52⟩

/-- A decoded float; a finite one is (-1)^neg * m * 2^e. -/
inductive Flt where
  | nan
  | inf (neg : Bool)
  | fin (neg : Bool) (m : Nat) (e : Int)
  deriving DecidableEq, Repr

namespace Fmt

/-- The width of the format in bits. -/
def width (f : Fmt) : Nat := 1 + f.eb + f.mb

/-- The largest exponent field. -/
def maxE (f : Fmt) : Nat := 2 ^ f.eb - 1

/-- The exponent bias. -/
def bias (f : Fmt) : Nat := 2 ^ (f.eb - 1) - 1

/-- The sign bit's pattern. -/
def signBit (f : Fmt) (neg : Bool) : Nat := if neg then 2 ^ (f.eb + f.mb) else 0

/-- The canonical quiet NaN (R395). -/
def qnan (f : Fmt) : Nat := f.maxE * 2 ^ f.mb + 2 ^ (f.mb - 1)

/-- Infinity. -/
def infBits (f : Fmt) (neg : Bool) : Nat := f.signBit neg + f.maxE * 2 ^ f.mb

/-- Reads a bit pattern. -/
def dec (f : Fmt) (w : Nat) : Flt :=
  let neg := w.testBit (f.eb + f.mb)
  let e := (w >>> f.mb) % 2 ^ f.eb
  let m := w % 2 ^ f.mb
  if e = f.maxE then (if m = 0 then .inf neg else .nan)
  else if e = 0 then .fin neg m (1 - (f.bias : Int) - f.mb)
  else .fin neg (m + 2 ^ f.mb) ((e : Int) - f.bias - f.mb)

/-- Rounds (-1)^neg * m * 2^e to the format, half to even; `m`'s lowest bit may be sticky when `m` has at least three
bits more than the format's precision. -/
def enc (f : Fmt) (neg : Bool) (m : Nat) (e : Int) : Nat :=
  if m = 0 then f.signBit neg
  else
    let emin : Int := 1 - (f.bias : Int) - f.mb
    -- the weight of the last kept place
    let top : Int := (m.log2 : Int) + e
    let lsb : Int := if top - f.mb < emin then emin else top - f.mb
    let sh : Int := lsb - e
    let q : Nat := if 0 < sh then (Bits.roundShift (m : Int) sh.toNat).toNat else m * 2 ^ (-sh).toNat
    -- q < 2^(mb+1)+1; a carry out moves the exponent by itself in the packed form
    if q = 0 then f.signBit neg
    else if q < 2 ^ f.mb then f.signBit neg + q
    else
      let ef : Int := lsb - emin + 1
      let packed : Int := ef * 2 ^ f.mb + ((q : Int) - 2 ^ f.mb)
      if (f.maxE : Int) * 2 ^ f.mb ≤ packed then f.infBits neg else f.signBit neg + packed.toNat

/-- Rounds a signed integer times a power of two; a zero is +0. -/
def ofScaled (f : Fmt) (z : Int) (e : Int) : Nat := f.enc (decide (z < 0)) z.natAbs e

/-- Rounds a signed integer (R153, R396). -/
def ofInt (f : Fmt) (z : Int) : Nat := f.ofScaled z 0

/-- Inverts the sign bit (R395: no NaN is made canonical here). -/
def neg (f : Fmt) (w : Nat) : Nat := if w.testBit (f.eb + f.mb) then w - f.signBit true else w + f.signBit true

/-- Clears the sign bit. -/
def abs (f : Fmt) (w : Nat) : Nat := if w.testBit (f.eb + f.mb) then w - f.signBit true else w

/-- The signed mantissa. -/
def sm (neg : Bool) (m : Nat) : Int := if neg then -(m : Int) else m

/-- Addition. Log: 100 (PRESUMED, unsafe). -/
def add (f : Fmt) (x y : Nat) : Nat :=
  match f.dec x, f.dec y with
  | .nan, _ => f.qnan
  | _, .nan => f.qnan
  | .inf a, .inf b => if a = b then f.infBits a else f.qnan
  | .inf a, _ => f.infBits a
  | _, .inf b => f.infBits b
  | .fin a m e, .fin b n k =>
    let lo := min e k
    let z := sm a m * 2 ^ (e - lo).toNat + sm b n * 2 ^ (k - lo).toNat
    if z = 0 then f.signBit (a && b) else f.ofScaled z lo

/-- Subtraction. -/
def sub (f : Fmt) (x y : Nat) : Nat :=
  match f.dec y with
  | .nan => f.qnan
  | _ => f.add x (f.neg y)

/-- Multiplication. -/
def mul (f : Fmt) (x y : Nat) : Nat :=
  match f.dec x, f.dec y with
  | .nan, _ => f.qnan
  | _, .nan => f.qnan
  | .inf a, .inf b => f.infBits (a != b)
  | .inf a, .fin b n _ => if n = 0 then f.qnan else f.infBits (a != b)
  | .fin a m _, .inf b => if m = 0 then f.qnan else f.infBits (a != b)
  | .fin a m e, .fin b n k => f.enc (a != b) (m * n) (e + k)

/-- Division. -/
def div (f : Fmt) (x y : Nat) : Nat :=
  match f.dec x, f.dec y with
  | .nan, _ => f.qnan
  | _, .nan => f.qnan
  | .inf _, .inf _ => f.qnan
  | .inf a, .fin b _ _ => f.infBits (a != b)
  | .fin a _ _, .inf b => f.signBit (a != b)
  | .fin a m e, .fin b n k =>
    if n = 0 then (if m = 0 then f.qnan else f.infBits (a != b))
    else if m = 0 then f.signBit (a != b)
    else
      -- at least mb + 4 quotient bits and a sticky bit
      let sh := 2 * f.mb + 6
      let q := (m * 2 ^ sh) / n
      let st := if (m * 2 ^ sh) % n = 0 then 0 else 1
      f.enc (a != b) (2 * q + st) (e - k - sh - 1)

/-- Square root. -/
def sqrt (f : Fmt) (x : Nat) : Nat :=
  match f.dec x with
  | .nan => f.qnan
  | .inf a => if a then f.qnan else f.infBits false
  | .fin a m e =>
    if m = 0 then f.signBit a
    else if a then f.qnan
    else
      -- an even exponent, and a root of at least mb + 4 bits
      let sh := 2 * f.mb + 8 + (if (e - (2 * f.mb + 8 : Nat)) % 2 = 0 then 0 else 1)
      let n := m * 2 ^ sh
      let r := Bits.isqrt n
      let st := if r * r = n then 0 else 1
      f.enc false (2 * r + st) ((e - sh) / 2 - 1)

/-- Whether a pattern is a NaN. -/
def isNan (f : Fmt) (x : Nat) : Bool := match f.dec x with | .nan => true | _ => false

/-- Whether a pattern is infinite. -/
def isInf (f : Fmt) (x : Nat) : Bool := match f.dec x with | .inf _ => true | _ => false

/-- A key that orders the finite and infinite floats, −0 equal to +0. -/
def key (f : Fmt) (x : Nat) : Int :=
  let m := x % 2 ^ (f.eb + f.mb)
  if x.testBit (f.eb + f.mb) then -(m : Int) else m

/-- Less than; false with a NaN (R397). -/
def lt (f : Fmt) (x y : Nat) : Bool := !f.isNan x && !f.isNan y && decide (f.key x < f.key y)

/-- Less than or equal; false with a NaN. -/
def le (f : Fmt) (x y : Nat) : Bool := !f.isNan x && !f.isNan y && decide (f.key x ≤ f.key y)

/-- Equal; false with a NaN, −0 equal to +0. -/
def eq (f : Fmt) (x y : Nat) : Bool := !f.isNan x && !f.isNan y && decide (f.key x = f.key y)

/-- Truncates toward zero to an integer; an infinity becomes `big` with its sign, a NaN 0 (R396). -/
def trunc (f : Fmt) (x : Nat) (big : Int) : Int :=
  match f.dec x with
  | .nan => 0
  | .inf a => if a then -big else big
  | .fin a m e =>
    let u : Nat := if 0 ≤ e then m * 2 ^ e.toNat else m / 2 ^ (-e).toNat
    sm a u

/-- A finite float times an integer, exact and rounded once to an integer, half to even (R154). -/
def mulRound (f : Fmt) (x : Nat) (k : Int) : Int :=
  match f.dec x with
  | .fin a m e => Bits.scale2 (sm a m * k) e
  | _ => 0

/-- Rounds to an integral value, ties to even (R395). -/
def rint (f : Fmt) (x : Nat) : Nat :=
  match f.dec x with
  | .nan => f.qnan
  | .inf a => f.infBits a
  | .fin a m e => f.enc a (Bits.scale2 (m : Int) e).toNat 0

/-- Converts between formats (R396). -/
def conv (f g : Fmt) (x : Nat) : Nat :=
  match f.dec x with
  | .nan => g.qnan
  | .inf a => g.infBits a
  | .fin a m e => if m = 0 then g.signBit a else g.enc a m e

end Fmt

end Sys2Proof.Machine
end

