-- ==== Sys2Proof/Machine/Plan.lean ====
section
/-!
DEFINITION. Profile arithmetic (R151 to R158, R165, R166): velocity transitions and the planner in binary64, phase
durations in whole nanoseconds, exact evaluation, stopping distance and lookahead.
-/

namespace Sys2Proof.Machine.Plan

/-- binary64 addition. -/
def add (x y : Nat) : Nat := f64.add x y
/-- binary64 subtraction. -/
def sub (x y : Nat) : Nat := f64.sub x y
/-- binary64 multiplication. -/
def mul (x y : Nat) : Nat := f64.mul x y
/-- binary64 division. -/
def div (x y : Nat) : Nat := f64.div x y
/-- binary64 zero. -/
def zero : Nat := 0
/-- binary64 two. -/
def two : Nat := f64.ofInt 2

/-- A fixed-point value with `k` fraction bits, rounded to binary64 (R153). -/
def toF (q : Int) (k : Nat) : Nat := f64.ofScaled q (-(k : Int))

/-- The greater. -/
def fmax (x y : Nat) : Nat := if f64.lt x y then y else x
/-- The lesser. -/
def fmin (x y : Nat) : Nat := if f64.lt y x then y else x

/-- A velocity transition (R152): t1, t2 and distance. -/
def trans (u w a j : Nat) : Nat × Nat × Nat :=
  let dv := f64.abs (sub w u)
  if f64.eq dv zero then (zero, zero, zero)
  else
    let (t1, t2) : Nat × Nat :=
      if f64.le (div (mul a a) j) dv then (div a j, sub (div dv a) (div a j)) else (f64.sqrt (div dv j), zero)
    (t1, t2, mul (div (add u w) two) (add (mul two t1) t2))

/-- The limits a transition uses, as binary64: acceleration, deceleration, jerk, jerk when slowing (R152, R177). -/
structure Lim where
  acc : Nat
  dec : Nat
  j : Nat
  jd : Nat

/-- A transition under those limits. -/
def Lim.trans (l : Lim) (u w : Nat) : Nat × Nat × Nat :=
  if f64.lt u w then Plan.trans u w l.acc l.j else Plan.trans u w l.dec l.jd

/-- The distance a profile over peak `v` needs (R153). Log: 45 (DEDUCED, unsafe). -/
def need (l : Lim) (vs ve v : Nat) : Nat := add (l.trans vs v).2.2 (l.trans v ve).2.2

/-- `n` bisection steps for the greatest speed that `ok` accepts (R153, R165). Log: 45 (DEDUCED, unsafe). -/
def bisect (ok : Nat → Bool) (n lo hi : Nat) : Nat :=
  match n with
  | 0 => lo
  | n + 1 =>
    let mid := div (add lo hi) two
    if ok mid then bisect ok n mid hi else bisect ok n lo mid

/-- The peak velocity of a move (R153). -/
def peak (l : Lim) (dist vs ve vlim : Nat) : Nat :=
  if f64.le (need l vs ve vlim) dist then vlim
  else if f64.lt vlim vs then vs
  else bisect (fun v => f64.le (need l vs ve v) dist) 64 (fmax vs ve) vlim

/-- The cruise time (R153). -/
def cruise (l : Lim) (dist vs ve vp : Nat) : Nat :=
  if f64.lt zero vp then div (sub dist (need l vs ve vp)) vp else zero

/-- A duration in whole nanoseconds (R154). -/
def ns (t : Nat) : Nat := (f64.mulRound t 1000000000).toNat

/-- State after `n` ns of a phase, each quantity exact and rounded once (R155).
Log: 14 (DESIGN CHOICE, safe), 45 (DEDUCED, unsafe). -/
def eval (ph : Phase) (n : Nat) : Int × Int × Int :=
  let n : Int := n
  let dp : Nat := 6 * 10 ^ 27 * 2 ^ 8
  let p := Bits.roundDiv (ph.p * dp + ph.v * n * (6 * 10 ^ 18) + ph.a * (n * n) * (3 * 10 ^ 9 * 2 ^ 8) +
    ph.jerk * (n * n * n) * 2 ^ 16) dp
  let v := Bits.roundDiv (ph.v * (2 * 10 ^ 18) + ph.a * n * (2 ^ 9 * 10 ^ 9) + ph.jerk * (n * n) * 2 ^ 16) (2 * 10 ^ 18)
  let a := Bits.roundDiv (ph.a * 10 ^ 9 + ph.jerk * n * 2 ^ 8) (10 ^ 9)
  (Bits.fit 64 p, Bits.fit 64 v, Bits.fit 64 a)

/-- Chains phases given as (duration, jerk) from a start state (R154). -/
def chain (s : Int × Int × Int) : List (Nat × Int) → List Phase
  | [] => []
  | (d, j) :: rest =>
    let ph : Phase := { dur := d, jerk := j, p := s.1, v := s.2.1, a := s.2.2 }
    ph :: chain (eval ph d) rest

/-- The state at the exact end of a chain. -/
def endState (s : Int × Int × Int) : List Phase → Int × Int × Int
  | [] => s
  | ph :: rest => endState (eval ph ph.dur) rest

/-- The state `n` ns into a chain. -/
def at' (s : Int × Int × Int) (n : Nat) : List Phase → Int × Int × Int
  | [] => s
  | ph :: rest => if n < ph.dur then eval ph n else at' (eval ph ph.dur) (n - ph.dur) rest

/-- Total duration in ns. -/
def total (l : List Phase) : Nat := (l.map (·.dur)).sum

/-- Whether no phase is longer than 2^48 − 1 ns (R157). -/
def fits (l : List Phase) : Bool := l.all fun ph => decide (ph.dur < 2 ^ 48)

/-- The unwind segment of a state with acceleration `a` (R158). -/
def unwind (a jerk : Int) : List (Nat × Int) :=
  if a = 0 then []
  else
    -- |a| / J seconds: 2^-24 over 2^-16
    let d := (Bits.roundDiv ((a.natAbs : Int) * 1000000000) (jerk.natAbs * 2 ^ 8)).toNat
    [(d, if 0 < a then -jerk else jerk)]

/-- The three phases of a transition in direction `d` (Table 4-2). -/
def phases3 (l : Lim) (u w : Nat) (d jerk jerkD : Int) : List (Nat × Int) :=
  let (t1, t2, _) := l.trans u w
  let j := if f64.lt u w then d * jerk else -d * jerkD
  [(ns t1, j), (ns t2, 0), (ns t1, -j)]

/-- The limits of a move. -/
def limOf (m : Move) : Lim :=
  { acc := toF m.acc 24, dec := toF m.dec 24, j := toF m.jerk 16, jd := toF m.jerkD 16 }

/-- A stop along `dec` and `jerk` (R158, R171): unwind, then to rest. -/
def stopPhases (s : Int × Int × Int) (dec jerk : Int) : List Phase :=
  let u := chain s (unwind s.2.2 jerk)
  let r := endState s u
  if r.2.1 = 0 then u
  else
    let l : Lim := { acc := toF dec 24, dec := toF dec 24, j := toF jerk 16, jd := toF jerk 16 }
    u ++ chain r (phases3 l (toF (r.2.1.natAbs : Int) 32) zero (if 0 < r.2.1 then 1 else -1) jerk jerk)

/-- A stop as a profile. -/
def stopProfile (s : Int × Int × Int) (t0 dec jerk : Int) : Profile :=
  let ph := stopPhases s dec jerk
  { phases := ph, t0 := t0, ve := 0 }

/-- The distance from a state to the end of a profile it runs along, in 2^-24 counts. Log: 45 (DEDUCED, unsafe). -/
def distLeft (pr : Profile) (s : Int × Int × Int) : Nat := ((endState s pr.phases).1 - s.1).natAbs

/-- The direction of motion of a state. -/
def dirOf (s : Int × Int × Int) : Int := if 0 < s.2.1 then 1 else if s.2.1 < 0 then -1 else if s.2.2 < 0 then -1 else 1

/-- The stopping distance of a state along its direction of motion, binary64: its unwind segment and the transition to rest
(R158). Log: 45 (DEDUCED, unsafe). -/
def stopDist (s : Int × Int × Int) (dec jerk : Int) : Nat :=
  let d := dirOf s
  let r := endState s (chain s (unwind s.2.2 jerk))
  let w := (trans (toF r.2.1.natAbs 32) zero (toF dec 24) (toF jerk 16)).2.2
  let u := toF (d * (r.1 - s.1)) 24
  if d * r.2.1 < 0 then sub u w else add u w

/-- Where a state comes to rest along a ramp, by its stopping distance. -/
def stopPoint (s : Int × Int × Int) (dec jerk : Int) : Int :=
  s.1 + dirOf s * f64.mulRound (stopDist s dec jerk) (2 ^ 24)

/-- Whether a state can stop along a ramp within the distance to a target, measured along its direction of motion (R153,
R168). -/
def canStop (s : Int × Int × Int) (dec jerk target : Int) : Bool :=
  f64.le (stopDist s dec jerk) (toF (dirOf s * (target - s.1)) 24)

/-- The plan of R153 from a state to a target with end speed `ve` and limit `vlim`, both binary64; `none` when its cruise
time is negative, or when the state after its unwind segment moves away from the target or lies beyond it. -/
def direct (s : Int × Int × Int) (m : Move) (target : Int) (ve vlim : Nat) : Option (List Phase × Nat × Int) :=
  let l := limOf m
  let u := chain s (unwind s.2.2 m.jerk)
  let r := endState s u
  let d : Int := if s.1 < target then 1 else if target < s.1 then -1 else if r.2.1 < 0 then -1 else 1
  let dist := toF (d * (target - r.1)) 24
  let vs := if 0 < d * r.2.1 then toF (d * r.2.1) 32 else zero
  let vp := peak l dist vs ve vlim
  let t4 := cruise l dist vs ve vp
  if d * r.2.1 < 0 ∨ d * (target - r.1) < 0 ∨ f64.lt t4 zero then none
  else
    let up := phases3 l vs vp d m.jerk m.jerkD
    let body := up ++ [(ns t4, 0)] ++ phases3 l vp ve d m.jerk m.jerkD
    let first := chain r (up ++ [(ns t4, 0)])
    some (u ++ chain r body, total u + total first, d * f64.mulRound ve (2 ^ 32))

/-- A planned move: its profile, and the overshoot in whole counts if it reverses (R153, R168, R169). -/
structure Planned where
  prof : Profile
  reversed : Bool
  overshoot : Nat
  ve : Nat

/-- Comes to rest, then a fresh profile from rest to the target (R153, R168). -/
def turnAround (s : Int × Int × Int) (t0 : Int) (m : Move) (target : Int) (vlim : Nat) : Planned :=
  let st := stopPhases s m.dec m.jerkD
  let r := endState s st
  let beyond := ((r.1 - s.1).natAbs + 2 ^ 24 - 1) / 2 ^ 24
  let back := (direct (r.1, 0, 0) m target zero vlim).getD ([], 0, 0)
  let bp := chain (r.1, 0, 0) (back.1.map fun ph => (ph.dur, ph.jerk))
  { prof := { phases := st ++ bp, t0 := t0, target := some target, ve := 0, decel := total st + back.2.1 }
    reversed := true, overshoot := beyond, ve := zero }

/-- The plan of a move from a state: blended to `ve`, else at rest, else with a reversal (R153). -/
def move (s : Int × Int × Int) (t0 : Int) (m : Move) (target : Int) (ve vlim : Nat) : Planned :=
  match direct s m target ve vlim with
  | some (ph, dc, v) =>
    { prof := { phases := ph, t0 := t0, target := some target, ve := v, decel := dc }, reversed := false, overshoot := 0
      ve := ve }
  | none =>
    match (if canStop s m.dec m.jerkD target then direct s m target zero vlim else none) with
    | some (ph, dc, v) =>
      { prof := { phases := ph, t0 := t0, target := some target, ve := v, decel := dc }, reversed := false
        overshoot := 0, ve := zero }
    | none => turnAround s t0 m target vlim

/-- A replacing move (R168): direct when the axis is at rest or can stop short of the target, else with a reversal. -/
def replace (s : Int × Int × Int) (t0 : Int) (m : Move) (target : Int) (ve vlim : Nat) : Planned :=
  if (s.2.1 = 0 && s.2.2 = 0) || canStop s m.dec m.jerkD target then
    move s t0 m target ve vlim
  else turnAround s t0 m target vlim

/-- Whole nanoseconds of control time since a profile's start (R155). -/
def elapsed (pr : Profile) (control : Int) : Nat := ((control - pr.t0) / 256).toNat

/-- Whether the profile time has reached its end. -/
def ended (pr : Profile) (control : Int) : Bool := decide (total pr.phases ≤ elapsed pr control)

/-- The commanded state of a profile at a control time (R155, R156). -/
def sample (pr : Profile) (control : Int) (s0 : Int × Int × Int) : Int × Int × Int :=
  let n := elapsed pr control
  if total pr.phases ≤ n then
    ((match pr.target with | some t => t | none => (endState s0 pr.phases).1), pr.ve, 0)
  else at' s0 n pr.phases

/-- The closing residue in 2^-24 counts (R156). -/
def residue (pr : Profile) (s0 : Int × Int × Int) : Int :=
  match pr.target with
  | some t => t - (endState s0 pr.phases).1
  | none => 0

/-- What the lookahead knows of a move (R165): signed length, limits, Veff, blend, room to the software limit. -/
structure Look where
  dist : Int
  lim : Lim
  veff : Nat
  blend : Nat
  /-- Distance from its target to the limit in its direction, binary64; `none` without SOFT_LIMIT_EN. -/
  room : Option Nat

/-- The greatest speed at most `cap` from which `ve` is reached within a length. -/
def maxEntry (l : Lim) (len ve cap : Nat) : Nat :=
  if f64.le cap ve || f64.le (trans cap ve l.dec l.jd).2.2 len then cap
  else bisect (fun v => f64.le (trans v ve l.dec l.jd).2.2 len) 64 ve cap

/-- The greatest speed at most `cap` reached from `vs` within a length. -/
def maxReach (l : Lim) (len vs cap : Nat) : Nat :=
  if f64.le cap vs || f64.le (trans vs cap l.acc l.j).2.2 len then cap
  else bisect (fun v => f64.le (trans vs v l.acc l.j).2.2 len) 64 vs cap

/-- The backward pass: joint velocities of every move, the last 0. -/
def backward : List Look → List Nat
  | [] => []
  | [_] => [zero]
  | m :: n :: rest =>
    let tail := backward (n :: rest)
    let vNext := tail.headD zero
    let same := decide (0 < m.dist) == decide (0 < n.dist) && decide (m.dist ≠ 0) && decide (n.dist ≠ 0)
    let v :=
      if decide (m.blend = 0) || !same then zero
      else
        let cap := fmin m.veff n.veff
        let a := maxEntry n.lim (toF n.dist.natAbs 24) vNext cap
        let b := match m.room with
          | none => cap
          | some r => maxEntry m.lim r zero cap
        fmin cap (fmin a b)
    v :: tail

/-- The forward pass from a start speed. -/
def forward (vs : Nat) : List Look → List Nat → List Nat
  | m :: ms, v :: vs' =>
    let v' := fmin v (maxReach m.lim (toF m.dist.natAbs 24) vs v)
    v' :: forward v' ms vs'
  | _, _ => []

/-- The joint velocities of a queue (R165). -/
def lookahead (vs : Nat) (ms : List Look) : List Nat :=
  let b := backward ms
  (forward vs ms b).dropLast ++ [zero]

end Sys2Proof.Machine.Plan
end

