-- ==== Sys2Proof/Machine/Motion.lean ====
section
/-!
DEFINITION. The Motion region (R149 to R187, R656, R657): the commands of the motion chapter, the move queue, replanning,
stops, links, and one axis's part of a servo tick.
-/

namespace Sys2Proof.Machine

/-- One axis. -/
def State.axis (s : State) (a : Nat) : Axis := Tab.get s.mot.axes a

/-- Replaces one axis. -/
def State.setAxis (s : State) (a : Nat) (x : Axis) : State := { s with mot.axes := Tab.set s.mot.axes a x }

/-- The FID channel of an axis. -/
def State.chan (s : State) (a : Nat) : Channel := Tab.get s.mot.chans a

/-- Replaces one channel. -/
def State.setChan (s : State) (a : Nat) (x : Channel) : State := { s with mot.chans := Tab.set s.mot.chans a x }

/-- Servo tick length in frames (R149). -/
def State.tickFrames (s : State) : Nat := 2 ^ (s.mot.cfg.toNat % 4)

namespace Axis

/-- Commanded state. -/
def st (x : Axis) : Int × Int × Int := (x.p, x.v, x.a)

/-- At standstill: no profile in progress and no velocity or acceleration. -/
def standstill (x : Axis) : Bool := x.prof.isNone && decide (x.v = 0) && decide (x.a = 0)

/-- The running move: the head of the queue past its commit point. -/
def running (x : Axis) : Option Move :=
  match x.queue with
  | m :: _ => if m.started then some m else none
  | [] => none

/-- In a stop, or with one waiting for its tick, that refuses MOVE, JOG and FOLLOW (Table 4-5). -/
def stopping (x : Axis) : Bool :=
  (match x.stop with
    | some s => s.kind != .hold && s.kind != .pause
    | none => false) ||
  x.tickQ.any fun q => match q.2 with
    | .stop k _ => k != .hold && k != .pause
    | _ => false

/-- Follows, or will from its tick. -/
def follower (x : Axis) : Bool :=
  x.follow.isSome || x.tickQ.any fun q => match q.2 with | .follow _ => true | _ => false

/-- Homes, or will from its tick. -/
def isHoming (x : Axis) : Bool := x.homing.isSome

/-- Quick-stop and follower ramps in force (R159). -/
def stopsOf (x : Axis) : AxStops :=
  x.stops.getD { qsDec := x.lim.acc, qsJerk := x.lim.jerk, folDec := x.lim.acc, folJerk := x.lim.jerk }

/-- Deceleration and jerk of a stop kind (R171, R173): the running move's, or the follower's ramp. After a blended end
the move
that was to follow gives them. Log: 45 (DEDUCED, unsafe). -/
def ramp (x : Axis) (k : StopKind) : Int × Int :=
  let f := x.stopsOf
  match k with
  | .quick => (f.qsDec, f.qsJerk)
  | .safety => x.safeRamp.getD (f.qsDec, f.qsJerk)
  | _ =>
    match x.queue with
    | m :: _ => if m.jog then (f.folDec, f.folJerk) else (m.dec, m.jerk)
    | [] => (f.folDec, f.folJerk)

/-- STATE of AXIS_STATUS (Table 4-12). -/
def code (x : Axis) (now : Int) : Nat :=
  if x.faulted && !(x.homing.any fun h => h.phase != .start) then 9
  else if x.homing.any fun h => h.phase != .start then 8
  else
    match x.stop with
    | some s => if s.kind == .pause then 1 else 2
    | none =>
      match x.follow with
      | some f => if !f.engaged then 0 else
          if now - f.e0 < 7 * 256 * (Bits.roundDiv ((f.syncMs : Int) * 1000000) 7) then 3 else 4
      | none =>
        match x.running with
        | some m =>
          if m.jog then 7
          else if x.held && x.prof.isNone then 5
          else if x.prof.isNone && decide (x.ovr = 0) then 6
          else 1
        | none => if x.held && !x.queue.isEmpty then 5 else 0

end Axis

/-- A move's Veff under the override, capped at V_SLS while SLS is active (R175, R502). -/
def veffOf (x : Axis) (m : Move) : Int :=
  let v := if m.jog then m.vel else min (Bits.roundDiv (m.vel * x.ovr) 10000) x.lim.vel
  match x.slsCap with
  | some c => min v c
  | none => v

/-- Actual position of an axis, Q40.24 (R202). Log: 14 (DESIGN CHOICE, safe). -/
def actualPos (x : Axis) (ch : Channel) : Int :=
  Bits.fit 64 (
    if x.io.flags.testBit 2 then x.o + Bits.roundDiv (x.e * x.io.num * 2 ^ 24) x.io.den
    else
      let g : Int := ch.gN * 2 ^ 64 + (if ch.gNeg then -(ch.gPhi : Int) else ch.gPhi)
      Bits.roundShift g 40)

/-- The generator position latched at the last boundary, in 2^-64 steps (R190). -/
def Channel.g (ch : Channel) : Int := ch.gN * 2 ^ 64 + (if ch.gNeg then -(ch.gPhi : Int) else ch.gPhi)

/-- Whole counts of a Q40.24 value, rounded half to even (R203). -/
def wholeCounts (q : Int) : Int := Bits.roundShift q 24

/-- The result of Table 4-10. Log: 115 (DESIGN CHOICE, unsafe). -/
def moveResult (p : Int) (overshoot flags cause : Nat) (residue : Int) : Nat :=
  Bits.unsigned 64 p + Bits.fitU 32 overshoot * 2 ^ 64 + flags * 2 ^ 96 + cause * 2 ^ 104 +
    Bits.unsigned 16 (Bits.sat 16 (Bits.roundShift residue 16)) * 2 ^ 112

namespace Mot

/-- Completes the running move or jog DONE with a result (R183). -/
def finishMove (x : Axis) (m : Move) (flags cause : Nat) (residue : Int) (s : State) : State :=
  Ops.complete m.org .done 0
    (moveResult x.p (if m.reversed then m.overshoot else 0) (flags + Bits.b2n m.reversed) cause residue) s

/-- Completes every given move ABORTED. -/
def abortMoves (ms : List Move) (s : State) : State :=
  ms.foldl (fun s m => Ops.complete m.org .aborted 0 0 s) s

/-- Ends a link: FOLLOW completes DONE with flags and cause (R181, R182). -/
def unfollow (a : Nat) (flags cause : Nat) (s : State) : State :=
  let x := s.axis a
  match x.follow with
  | none => s
  | some f =>
    Ops.complete f.org .done 0 (moveResult x.p 0 flags cause 0) (s.setAxis a { x with follow := none })

/-- The queue's look at itself from a start position (R165, R166): with each move its length and its end point. -/
def looks (x : Axis) (start : Int) : List Move → List (Plan.Look × Int)
  | [] => []
  | m :: rest =>
    let dist := m.target - start
    let d : Int := if 0 < dist then 1 else -1
    let opp := match rest with
      | [] => false
      | n :: _ => decide (m.blend ≠ 0) && decide (d * (n.target - m.target) < 0) && decide (dist ≠ 0)
    let endAt := if opp then m.target - d * min ((m.blend : Int) * 2 ^ 24) ((dist.natAbs / 2 : Nat) : Int) else m.target
    let room := if x.lim.soft then
        some (Plan.toF (max 0 (if 0 < d then x.lim.pos - m.target else m.target - x.lim.neg)) 24)
      else none
    ({ dist := endAt - start, lim := Plan.limOf m, veff := Plan.toF (veffOf x m) 32
       blend := m.blend, room := room }, endAt) :: looks x endAt rest

/-- The lookahead's outcome for moves from a start position and speed. -/
def joined (x : Axis) (start : Int) (vs : Nat) (ms : List Move) : List Move :=
  let ls := looks x start ms
  (List.zip ms (List.zip ls (Plan.lookahead vs (ls.map (·.1))))).map fun z => { z.1 with joint := z.2.2, stopAt := z.2.1.2 }

/-- Runs the lookahead over the queue and gives each move its joint velocity and end point; a running move counts from its
own start, and one that has entered phase 5 keeps its end (R165 to R167). Log: 45 (DEDUCED, unsafe). -/
def lookahead (x : Axis) : Axis :=
  match x.queue with
  | [] => { x with relook := false }
  | m :: rest =>
    let q := if m.fixed then m :: joined x m.stopAt m.joint rest
      else if m.started then joined x m.begin_ m.vs (m :: rest)
      else joined x x.p Plan.zero (m :: rest)
    { x with queue := q, relook := false }

/-- Marks the running move as fixed once its plan has entered phase 5 (R167). -/
def enterPhase5 (now : Int) (x : Axis) : Axis :=
  match x.queue, x.prof with
  | m :: rest, some pr =>
    if m.started && x.stop.isNone && decide (pr.decel ≤ Plan.elapsed pr now) then { x with queue := { m with fixed := true } :: rest }
    else x
  | _, _ => x

/-- The head of the queue starts, or starts again from rest, at the present state. -/
def begun (x : Axis) : Axis :=
  match x.queue with
  | [] => x
  | m :: rest =>
    let d : Int := if x.p < m.target then 1 else -1
    let vs := if 0 < d * x.v then Plan.toF (d * x.v) 32 else Plan.zero
    { x with queue := { m with started := true, begin_ := x.p, vs := vs, fixed := false } :: rest }

/-- Plans the head of the queue from the present state (R153, R158). -/
def planHead (x : Axis) (now : Int) : Axis :=
  match x.queue with
  | [] => x
  | m :: rest =>
    let r := Plan.move x.st now m m.stopAt m.joint (Plan.toF (veffOf x m) 32)
    let m' := { m with reversed := m.reversed || r.reversed, joint := r.ve
                       overshoot := if r.reversed then r.overshoot else m.overshoot }
    { x with queue := m' :: rest, prof := some r.prof }

/-- A stop that takes effect before the home point is defined ends a homing HOME_STOPPED (R214). -/
def homeStopped (x : Axis) : Axis :=
  match x.homing with
  | none => x
  | some h =>
    if h.phase == .start || h.phase == .ending then x
    else { x with homing := some { h with outcome := 4, phase := .ending } }

/-- Starts a stop of an axis from its present state (R171, R173, Table 4-5). -/
def beginStop (a : Nat) (k : StopKind) (cause : Nat) (now : Int) (s0 : State) : State :=
  let keep := k == .hold || k == .pause
  let x0 := s0.axis a
  let (dec, jerk) := x0.ramp k
  -- a link ends with any stop, HOLD included
  let s1 := if k == .pause then s0 else unfollow a 2 cause s0
  let x1 := homeStopped (s1.axis a)
  -- queued moves are flushed
  let flush := if keep then [] else x1.queue.filter fun m => !m.started
  let x2 := if keep then x1 else { x1 with queue := x1.queue.filter fun m => m.started }
  let s2 := abortMoves flush (s1.setAxis a x2)
  if x2.standstill then
    match x2.queue with
    | m :: rest =>
      if keep then s2 else finishMove x2 m 2 cause 0 (s2.setAxis a { x2 with queue := rest, stop := none })
    | [] => s2
  else
    let new := Plan.stopProfile x2.st now dec jerk
    let keepOld := match x2.stop with
      | some old =>
        if old.kind == StopKind.safety then true
        else if k == StopKind.safety then false
        else (x2.prof.map fun pr => decide (Plan.distLeft pr x2.st ≤ Plan.distLeft new x2.st)).getD false
      | none => false
    match keepOld, x2.stop with
    | true, some old =>
      let held := old.kind == StopKind.hold || old.kind == StopKind.pause
      s2.setAxis a { x2 with stop := some (
        if held && !keep then { old with kind := k, cause := cause }
        else if cause = 5 then { old with cause := 5 } else old) }
    | _, _ => s2.setAxis a { x2 with prof := some new, stop := some ⟨k, cause, dec, jerk⟩ }

/-- Why a MOVE's or JOG's parameters are refused (R151, R160, R164, R175 to R177, R207); `start` is where the motion
starts. Log: 72 (DEDUCED, unsafe). -/
def moveReason (x : Axis) (m : Move) (start target : Int) (limPos limNeg : Bool) : Option Nat :=
  if decide (m.vel ≤ 0) || decide (m.acc ≤ 0) || decide (m.dec ≤ 0) || decide (m.jerk ≤ 0) then some 0x11
  else if decide (x.lim.vel < m.vel) || decide (x.lim.acc < m.acc) || decide (x.lim.acc < m.dec) ||
      decide (x.lim.jerk < m.jerk) then some 0x11
  else if !Bits.inS 64 target then some 0x11
  else if x.lim.soft && !m.jog && (decide (target < x.lim.neg) || decide (x.lim.pos < target)) then some 0x12
  else if (limPos && decide (start < target)) || (limNeg && decide (target < start)) then some 0x1E
  else if (x.barPos && decide (start < target)) || (x.barNeg && decide (target < start)) then some 0x19
  else none

/-- Whether a move from a state would need a phase longer than 2^48 − 1 ns (R157). -/
def tooLong (x : Axis) (st : Int × Int × Int) (m : Move) (target : Int) : Bool :=
  let v := veffOf x m
  if v = 0 then false
  else !Plan.fits (Plan.move st 0 m target Plan.zero (Plan.toF v 32)).prof.phases

/-- The same for a queue: the running move from the present state, every other from rest where the move before it ends
(R175). -/
def anyTooLong (x : Axis) (st : Int × Int × Int) : List Move → Bool
  | [] => false
  | m :: rest => (!m.jog && tooLong x st m m.stopAt) || anyTooLong x (m.stopAt, 0, 0) rest

/-- What the target of a relative move is added to (R164). -/
def relBase (x : Axis) : Int :=
  match x.queue.getLast? with
  | some m => m.target
  | none => x.p

/-- Whether a limit switch blocks motion (R207). -/
def limBlock (x : Axis) (ch : Channel) : Bool × Bool :=
  if x.io.flags.testBit 6 then (ch.limPos.active, ch.limNeg.active) else (false, false)

/-- The move in the arguments of MOVE (Table 4-7). -/
def moveOf (org : Origin) (c : Cmd) (app : Nat) : Move :=
  { org := org, target := Arg.s c 0 8, vel := Arg.s c 8 8, acc := Arg.s c 16 8, dec := Arg.s c 24 8
    jerk := Arg.s c 32 8, jerkD := Arg.s c 32 8, blend := Arg.u c 40 4, app := app, stopAt := Arg.s c 0 8 }

/-- Why any motion command naming an axis is refused before its parameters are judged. -/
def busyReason (s : State) (x : Axis) : Option Nat :=
  if !s.enabled 0 then some 0x10
  else if x.isHoming then some 0x1F
  else if x.faulted || x.barred then some 0x19
  else if x.stopping then some 0x15
  else none

/-- MOVE (R160 to R164, R168 to R170, R174); a recipe's move has an origin of its own. -/
def moveWith (org : Origin) (c : Cmd) (s : State) : Reply :=
  let a := c.unit
  let x := s.axis a
  let f := Arg.u c 44 2
  let m := moveOf org c s.tm.frame
  let relative := f.testBit 0
  let replace := f.testBit 1 && !x.queue.isEmpty
  match busyReason s x with
  | some r => .refuse r
  | none =>
    if x.follower then .refuse 0x14
    else if x.lim.refReq && !x.referenced then .refuse 0x18
    else
      let t := if relative then relBase x + m.target else m.target
      let (lp, ln) := limBlock x (s.chan a)
      let later (m : Move) := s.setAxis a { x with tickQ := x.tickQ ++ [(s.tm.frame, .replace m relative)] }
      if replace && relative then
        -- the target is formed at the tick (R164)
        match moveReason { x with barPos := false, barNeg := false } m x.p x.p false false with
        | some r => if r = 0x12 then .quiet (later m) else .refuse r
        | none => .quiet (later m)
      else if replace then
        match moveReason x m x.p t lp ln with
        | some r => .refuse r
        | none => .quiet (later { m with target := t, stopAt := t })
      else
        match moveReason x m (relBase x) t lp ln with
        | some r => .refuse r
        | none =>
          if tooLong x (relBase x, 0, 0) m t then .refuse 0x11
          else if decide (64 ≤ x.queue.length) then .refuse 0x13
          else
            .accepted (s.setAxis a { x with queue := x.queue ++ [{ m with target := t, stopAt := t }], relook := true })

/-- The MOVE command. -/
def move (c : Cmd) (s : State) : Reply := moveWith (c.origin 0x0201) c s

/-- STOP (R171, R172). Log: 43 (DEDUCED, unsafe). -/
def stop (c : Cmd) (s : State) : Reply :=
  if !s.enabled 0 then .refuse 0x10
  else
    let mask := Arg.u c 0 8
    let k : StopKind := if Arg.u c 8 1 = 0 then .ramp else .quick
    let cause := if Arg.u c 8 1 = 0 then 1 else 2
    let s1 := (Bits.bitsOf mask 64).foldl (fun s a =>
      let x := s.axis a
      s.setAxis a { x with tickQ := x.tickQ ++ [(s.tm.frame, .stop k cause)] }) s
    .accepted { s1 with mot.stops := s1.mot.stops ++ [{ org := c.origin 0x0202, mask := mask, app := s.tm.frame }] }

/-- OVERRIDE (R175): judged for phase lengths at its application frame, taken up at the next tick.
Log: 43 (DEDUCED, unsafe). -/
def override (c : Cmd) (s : State) : Reply :=
  let mask := Arg.u c 0 8
  let pct := Arg.u c 8 2
  if !s.enabled 0 then .refuse 0x10
  else if decide (20000 < pct) then .refuse 0x11
  else
    let long := (Bits.bitsOf mask 64).any fun a =>
      let x := { s.axis a with ovr := pct }
      anyTooLong x (if x.running.isSome then x.st else (x.p, 0, 0)) x.queue
    if long then .refuse 0x11
    else
      let s1 := (Bits.bitsOf mask 64).foldl (fun s a =>
        let x := s.axis a
        s.setAxis a { x with tickQ := x.tickQ ++ [(s.tm.frame, .override pct)] }) s
      .quiet { s1 with mot.ovrs := s1.mot.ovrs ++ [{ org := c.origin 0x0203, app := s.tm.frame }] }

/-- The link an axis has, or will have from its next tick. -/
def linkOf (x : Axis) : Option Follow :=
  (x.tickQ.foldl (fun l q => match q.2 with
    | .follow f => some f
    | _ => l) none).or x.follow

/-- Whether following `master` from axis `a` of node `node` forms a loop or a chain longer than 4 axes (R178). -/
def chainBad (s : State) (a : Nat) (fuel : Nat) (master : Nat) : Bool :=
  if locNode master ≠ s.nodeId then false
  else if locUnit master = a then true
  else
    match linkOf (s.axis (locUnit master)) with
    | none => false
    | some f =>
      match fuel with
      | 0 => true
      | n + 1 => chainBad s a n f.master

/-- How many axes follow one another behind `a`, `a` included (R178). -/
def depthBelow (s : State) (fuel a : Nat) : Nat :=
  match fuel with
  | 0 => 1
  | n + 1 =>
    1 + ((List.range 64).filter fun b => match linkOf (s.axis b) with
      | some f => decide (locNode f.master = s.nodeId) && decide (locUnit f.master = a)
      | none => false).foldl (fun d b => max d (depthBelow s n b)) 0

/-- How many axes stand above a follower of `master`, the master included, by the links that `link` gives. -/
def depthAbove (link : Axis → Option Follow) (s : State) (fuel master : Nat) : Nat :=
  match fuel with
  | 0 => 1
  | n + 1 =>
    if locNode master ≠ s.nodeId then 1
    else
      match link (s.axis (locUnit master)) with
      | none => 1
      | some f => 1 + depthAbove link s n f.master

/-- FOLLOW (R178, R182). Log: 43 (DEDUCED, unsafe), 113 (DESIGN CHOICE, unsafe). -/
def follow (c : Cmd) (s : State) : Reply :=
  let a := c.unit
  let x := s.axis a
  let master := Arg.u c 0 4
  let f : Follow :=
    { org := c.origin 0x0204, master := master, num := Arg.s c 4 4, den := Arg.u c 8 4, actual := decide (Arg.u c 12 1 = 1)
      lossCycles := Arg.u c 13 1, syncMs := Arg.u c 14 2 }
  match busyReason s x with
  | some r => .refuse r
  | none =>
    if x.lim.refReq && !x.referenced then .refuse 0x18
    else if !x.queue.isEmpty || (!x.standstill && x.follow.isNone) then .refuse 0x79
    else
      let local' := decide (locNode master = s.nodeId)
      let absent := if local' then !(s.axis (locUnit master)).lim.given
        else !(Tab.get s.mot.remote (locNode master * 64 + locUnit master)).published
      if decide (f.num = 0) || decide (f.den = 0) || decide (2 ^ 31 < f.den) || decide (f.lossCycles = 0) ||
          decide (8 < f.lossCycles) || decide (f.syncMs = 0) || decide (60000 < f.syncMs) then .refuse 0x17
      else if absent || chainBad s a 4 master || decide (4 < depthBelow s 4 a + depthAbove linkOf s 4 master) then .refuse 0x17
      else .quiet (s.setAxis a { x with tickQ := x.tickQ ++ [(s.tm.frame, .follow f)] })

/-- Whether some other axis is not at standstill (R177). -/
def otherMoves (s : State) (a : Nat) : Bool := s.mot.axes.any fun q => decide (q.1 ≠ a) && !q.2.standstill

/-- Whether a jog decelerates at its target (R177). -/
def jogEnds (x : Axis) (now : Int) : Bool :=
  match x.running, x.prof with
  | some m, some pr => m.jog && decide (pr.decel ≤ Plan.elapsed pr now)
  | _, _ => false

/-- JOG (R177). Log: 112 (DESIGN CHOICE, unsafe). -/
def jog (c : Cmd) (s : State) : Reply :=
  let a := c.unit
  let x := s.axis a
  let v := Arg.s c 0 8
  let f := x.stopsOf
  let m : Move :=
    { org := c.origin 0x0205, vel := v.natAbs, acc := Arg.s c 8 8, dec := f.folDec, jerk := Arg.s c 16 8
      jerkD := f.folJerk, app := s.tm.frame, jog := true }
  let t := if x.lim.soft then (if 0 < v then x.lim.pos else x.lim.neg)
    else if 0 < v then x.p + 2 ^ 62 else x.p - 2 ^ 62
  match busyReason s x with
  | some r => .refuse r
  | none =>
    if x.follower then .refuse 0x14
    else if !x.standstill then .refuse (if jogEnds x s.tm.control then 0x15 else 0x79)
    else if otherMoves s a then .refuse 0x16
    else
      let (lp, ln) := limBlock x (s.chan a)
      match moveReason x { m with dec := min m.dec x.lim.acc } x.p t lp ln with
      | some r => .refuse r
      | none =>
        if tooLong x (x.p, 0, 0) m t then .refuse 0x11
        else .quiet (s.setAxis a { x with tickQ := x.tickQ ++ [(s.tm.frame, .jog { m with target := t, stopAt := t })] })

/-- The limits in the arguments of AXIS_LIMITS, when every field is in range (Table 4-3). -/
def limitsOf (c : Cmd) : Option AxLimits :=
  let l : AxLimits :=
    { given := true, neg := Arg.s c 0 8, pos := Arg.s c 8 8, vel := Arg.s c 16 8, acc := Arg.s c 24 8, jerk := Arg.s c 32 8
      soft := (Arg.u c 40 2).testBit 0, refReq := (Arg.u c 40 2).testBit 1 }
  if l.neg < l.pos ∧ 0 < l.vel ∧ 0 < l.acc ∧ 0 < l.jerk then some l else none

/-- Whether stops lie within the bounds of limits (Table 4-4). -/
def stopsOk (l : AxLimits) (f : AxStops) : Bool :=
  decide (0 < f.qsDec) && decide (0 < f.qsJerk) && decide (0 < f.folDec) && decide (0 < f.folJerk) &&
    decide (f.qsDec ≤ 4 * l.acc) && decide (f.qsJerk ≤ 4 * l.jerk) && decide (f.folDec ≤ l.acc) && decide (f.folJerk ≤ l.jerk)

/-- Outside CONFIGURE an axis configuration needs standstill (R159). -/
def cfgReason (s : State) (x : Axis) : Option Nat :=
  if s.md.mode ≠ .configure ∧ !x.standstill then some 0x79 else none

/-- AXIS_LIMITS (R159). -/
def axisLimits (c : Cmd) (s : State) : Reply :=
  let a := c.unit
  let x := s.axis a
  match cfgReason s x with
  | some r => .refuse r
  | none =>
    match limitsOf c with
    | none => .refuse 0x1A
    | some l =>
      match x.stops with
      | some f => if stopsOk l f then .config 0 (s.setAxis a { x with lim := l }) else .refuse 0x1A
      | none => .config 0 (s.setAxis a { x with lim := l })

/-- AXIS_STOPS (R159). -/
def axisStops (c : Cmd) (s : State) : Reply :=
  let a := c.unit
  let x := s.axis a
  let f : AxStops := { qsDec := Arg.s c 0 8, qsJerk := Arg.s c 8 8, folDec := Arg.s c 16 8, folJerk := Arg.s c 24 8 }
  match cfgReason s x with
  | some r => .refuse r
  | none => if x.lim.given && stopsOk x.lim f then .config 0 (s.setAxis a { x with stops := some f }) else .refuse 0x1A

/-- Bytes 0 to 14 of AXIS_STATUS as the axis stands (Table 4-12). -/
def statusOf (x : Axis) (now : Int) : Nat :=
  Bits.unsigned 64 x.p + Bits.unsigned 32 (Bits.sat 32 (Int.tdiv x.v (2 ^ 32))) * 2 ^ 64 + x.queue.length * 2 ^ 96 +
    x.code now * 2 ^ 104 + (Bits.b2n x.referenced + 2 * Bits.b2n x.lim.soft) * 2 ^ 112 + x.ovr / 100 % 256 * 2 ^ 120

/-- AXIS_STATUS (R184), as of the last servo tick boundary, or as it stands while MOTION is not enabled; before MOTION first
takes effect, state, position, counts and flags are 0 (R187). Log: 38 (DEDUCED, unsafe). -/
def axisStatus (c : Cmd) (s : State) : Reply :=
  let x := s.axis c.unit
  .done s (if !s.mot.everOn then x.ovr / 100 % 256 * 2 ^ 120
    else if s.enabled 0 then x.shownStat
    else statusOf x s.tm.control)

/-- The weight of R179 and its first derivative over time: numerators over 48 T³ and 48 T³ per ns. -/
def weight (t : Nat) (τ : Nat) : Int × Int × Nat :=
  let t := max t 1
  let i := τ / t
  let x : Int := (τ % t : Nat)
  let tt : Int := t
  let den := 48 * t * t * t
  if 7 ≤ i then ((den : Nat), 0, den)
  else
    let cs : List Int := [0, 1, 7, 18, 30, 41, 47]
    let vs : List Int := [0, 1, 3, 4, 4, 3, 1]
    let as' : List Int := [0, 1, 1, 0, 0, -1, -1]
    let js : List Int := [1, 0, -1, 0, -1, 0, 1]
    let c := cs.getD i 0
    let v := 3 * vs.getD i 0
    let a := 3 * as'.getD i 0
    let j := js.getD i 0
    (c * tt ^ 3 + v * tt ^ 2 * x + a * tt * x ^ 2 + j * x ^ 3, v * tt ^ 2 + 2 * a * tt * x + 3 * j * x ^ 2, den)

/-- The weight's second derivative numerator, over 48 T³ per ns². -/
def weight2 (t τ : Nat) : Int :=
  let t := max t 1
  let i := τ / t
  let x : Int := (τ % t : Nat)
  if 7 ≤ i then 0
  else
    let as' : List Int := [0, 1, 1, 0, 0, -1, -1]
    let js : List Int := [1, 0, -1, 0, -1, 0, 1]
    6 * as'.getD i 0 * t + 6 * js.getD i 0 * x

/-- The master's position, velocity and acceleration at a tick (R179, R180). Log: 114 (DESIGN CHOICE, unsafe). -/
def masterState (s : State) (f : Follow) : Int × Int × Int :=
  if locNode f.master = s.nodeId then
    let m := s.axis (locUnit f.master)
    if f.actual then
      let p := actualPos m (s.chan (locUnit f.master))
      let t := s.tickFrames * 15625
      (p, Bits.roundDiv ((p - f.pmLast) * 2 ^ 8 * 1000000000) t, 0)
    else (m.p, m.v, m.a)
  else
    let r := Tab.get s.mot.remote (locNode f.master * 64 + locUnit f.master)
    let dt : Int := (s.tm.boundary : Int) - r.ts
    -- Q32.32 per s times 1/256 ns: 2^-8 of a count unit, over 256e9
    (Bits.fit 64 (Bits.roundDiv ((if f.actual then r.act else r.pos) * (256 * 10 ^ 9 * 2 ^ 8) + r.vel * dt)
      (256 * 10 ^ 9 * 2 ^ 8)), r.vel, 0)

/-- The follower's commanded state at a tick (R179): position exact and rounded; velocity and acceleration are those of
the same law. -/
def followState (f : Follow) (now : Int) (m : Int × Int × Int) : Int × Int × Int :=
  let t := (Bits.roundDiv ((f.syncMs : Int) * 1000000) 7).toNat
  let τ := ((now - f.e0) / 256).toNat
  let (w0, w1, den) := weight t τ
  let w2 := weight2 t τ
  let g := Bits.roundDiv (f.num * (m.1 - f.pm0)) f.den
  let p := f.pf0 + Bits.roundDiv (w0 * g) den
  -- velocity in Q32.32: master velocity through the ratio and the weight, plus the weight's slope
  let v := Bits.roundDiv (w0 * f.num * m.2.1 + w1 * g * f.den * 2 ^ 8 * 1000000000) (den * f.den)
  let a := Bits.roundDiv (w0 * f.num * m.2.2 * 2 ^ 8 + 2 * w1 * f.num * m.2.1 * 1000000000 +
    w2 * g * f.den * 2 ^ 8 * 10 ^ 18) (den * f.den * 2 ^ 8)
  (Bits.fit 64 p, Bits.fit 64 v, Bits.fit 64 a)

/-- Ends a profile at its tick: the move completes, a stop ends, a hold or pause keeps its move (R156, R172, R176).
Log: 111 (DESIGN CHOICE, unsafe). -/
def endProfile (a : Nat) (pr : Profile) (s0 : State) : State :=
  let x0 := s0.axis a
  let (p, v, acc) := Plan.sample pr (pr.t0 + 256 * (Plan.total pr.phases : Int)) x0.st
  let x := { x0 with p := p, v := v, a := acc, prof := none, stop := none }
  match x0.stop with
  | some k =>
    if k.kind == .hold || k.kind == .pause then s0.setAxis a x
    else
      match x.running with
      | some m => finishMove x m 2 k.cause 0 (s0.setAxis a { x with queue := x.queue.tail })
      | none => s0.setAxis a x
  | none =>
    match x.running with
    | none => s0.setAxis a x
    | some m =>
      let res := Plan.residue pr x0.st
      let rest := x.queue.tail
      let s1 := finishMove x m (if decide (v = 0) then 0 else 4) 0 res (s0.setAxis a { x with queue := rest })
      if decide (v ≠ 0) && rest.isEmpty then
        let y := s1.axis a
        s1.setAxis a { y with prof := some (Plan.stopProfile y.st (pr.t0 + 256 * (Plan.total pr.phases : Int)) m.dec m.jerk)
                              stop := some ⟨.ramp, 0, m.dec, m.jerk⟩ }
      else s1

/-- A move or jog that ends where it starts completes at that tick (R157). -/
def zeroMove (x : Axis) (m : Move) : Bool := decide (m.stopAt = x.p) && decide (x.v = 0) && decide (x.a = 0)

/-- The running move takes up a new Veff: it decelerates to rest at 0, else it is replanned and the lookahead runs again
(R175,
R176, R502). Log: 45 (DEDUCED, unsafe). -/
def newVeff (a : Nat) (now : Int) (s : State) : State :=
  let x := s.axis a
  match x.running with
  | none => s.setAxis a { x with relook := true }
  | some m =>
    if x.homing.isSome || x.stopping || x.held then s
    else if m.jog then
      s.setAxis a { x with prof := some (Plan.move x.st now m m.target Plan.zero (Plan.toF (veffOf x m) 32)).prof }
    else if x.ovr = 0 then beginStop a .pause 0 now s
    else
      let y := if x.standstill then begun { x with stop := none } else enterPhase5 now { x with stop := none }
      s.setAxis a (planHead (lookahead y) now)

/-- A REPLACE takes effect: the running move ends REPLACED, the queue behind it ABORTED, and the new move is planned from the
present state (R168, R169, R174, R176). -/
def replaceWith (a : Nat) (now : Int) (m0 : Move) (s : State) : State :=
  let x := s.axis a
  let m := { m0 with joint := Plan.zero }
  let r := Plan.replace x.st now m m.target Plan.zero (Plan.toF (veffOf x m) 32)
  let turns := !(decide (x.v = 0) && decide (x.a = 0)) && !Plan.canStop x.st m.dec m.jerkD m.target
  if !x.held && decide (x.ovr ≠ 0) && !Plan.fits r.prof.phases then Ops.complete m.org .refused 0x11 0 s
  else
    let s1 := abortMoves (x.queue.filter fun y => !y.started) s
    let s2 := match x.running with
      | some o => finishMove x o 8 0 0 s1
      | none => s1
    let put (m : Move) (y : Axis) (t : State) : State :=
      Ops.interim m.org .accepted (moveResult x.p (if m.reversed then m.overshoot else 0) (Bits.b2n m.reversed) 0 0)
        (t.setAxis a { y with queue := [m] })
    if x.held then put m x s2
    else
      let y := { begun { x with queue := [m] } with stop := none }
      let m1 := (y.queue.head?).getD m
      if zeroMove x m then finishMove y m1 0 0 0 ((put m1 y s2).setAxis a { y with queue := [], prof := none })
      else if x.ovr = 0 then
        let m2 := { m1 with
          reversed := turns
          overshoot := ((Plan.endState x.st (Plan.stopPhases x.st m.dec m.jerkD)).1 - x.p).natAbs + 2 ^ 24 - 1 |>.div (2 ^ 24) }
        beginStop a .pause 0 now (put m2 y s2)
      else put { m1 with reversed := r.reversed, overshoot := r.overshoot } { y with prof := some r.prof } s2

/-- Carries one command that takes effect at this tick (R185). -/
def tickCmd (a : Nat) (now : Int) (s : State) (q : Nat × TickCmd) : State :=
  let x := s.axis a
  match q.2 with
  | .override pct =>
    let s1 := s.setAxis a { x with ovr := pct, relook := true }
    if x.running.any (·.jog) then s1 else newVeff a now s1
  | .stop k cause =>
    -- a STOP of a homing axis runs along its follower ramp (R214)
    let homes := x.homing.any fun h => h.phase != .start && !h.defined
    let k1 := if homes && k == .quick && decide (cause = 2) then .ramp else k
    beginStop a k1 cause now (if k == .hold then s.setAxis a { x with held := true } else s)
  | .replace m relative =>
    if x.stopping then Ops.complete m.org .refused 0x15 0 s
    else
      let t := if relative then x.p + m.target else m.target
      let (lp, ln) := limBlock x (s.chan a)
      match moveReason x m x.p t lp ln with
      | some r => Ops.complete m.org .refused r 0 s
      | none => replaceWith a now { m with target := t, stopAt := t } s
  | .follow f =>
    if x.stopping then Ops.complete f.org .refused 0x15 0 s
    else
      let s1 := unfollow a 8 0 s
      let x1 := s1.axis a
      let last := if locNode f.master = s1.nodeId then
          actualPos (s1.axis (locUnit f.master)) (s1.chan (locUnit f.master))
        else 0
      let m := masterState s1 { f with pmLast := last }
      let f1 := { f with engaged := true, pm0 := m.1, pf0 := x1.p, e0 := now, pmLast := m.1, missed := 0 }
      Ops.interim f.org .accepted 0 (s1.setAxis a { x1 with follow := some f1 })
  | .jog m =>
    if x.stopping then Ops.complete m.org .refused 0x15 0 s
    else if !x.standstill || !x.queue.isEmpty then Ops.complete m.org .refused 0x79 0 s
    else if x.homing.any fun h => h.phase != .start then Ops.complete m.org .refused 0x1F 0 s
    else
      let s1 := Ops.interim m.org .accepted 0 s
      let y := begun { x with queue := [m] }
      let m1 := (y.queue.head?).getD m
      if zeroMove x m then finishMove x m1 0 0 0 s1
      else
        let r := Plan.move x.st now m1 m1.target Plan.zero (Plan.toF (veffOf x m1) 32)
        s1.setAxis a { y with prof := some r.prof }
  | .home => s
  | .cap => newVeff a now s
  | .resume =>
    -- a held move that still decelerates is replanned from rest (R173)
    if x.prof.isSome && x.stop.any fun k => k.kind == .hold then s.setAxis a { x with tickQ := x.tickQ ++ [q] }
    else
      let x1 := { x with held := false, relook := true }
      match x1.running with
      | some m =>
        if zeroMove x1 m then finishMove x1 m 0 0 0 (s.setAxis a { x1 with queue := x1.queue.tail, stop := none })
        else if x1.ovr = 0 then s.setAxis a x1
        else s.setAxis a (planHead (lookahead (begun { x1 with stop := none })) now)
      | none => s.setAxis a x1

/-- Whether the head of the queue may start at this boundary (R163, R174). -/
def mayStart (x : Axis) (frame : Nat) : Bool :=
  match x.queue with
  | m :: _ => !m.started && decide (m.app < frame) && x.prof.isNone && x.stop.isNone && !x.held && x.homing.isNone &&
      x.follow.isNone && !x.faulted && !x.barred
  | [] => false

/-- Starts the head of the queue: its commit point (R163). A zero distance completes at once (R157); with feed override 0 the
axis comes to rest and stays paused (R176). -/
def startHead (a : Nat) (now : Int) (s : State) : State :=
  let x := s.axis a
  let x1 := lookahead (begun x)
  let s1 := Ops.count 1 20 1 (s.setAxis a x1)
  match x1.queue with
  | [] => s
  | m :: rest =>
    if decide (m.target = x.p) && decide (x.v = 0) && decide (x.a = 0) then
      finishMove x1 m 0 0 0 (s1.setAxis a { x1 with queue := rest })
    else if x.ovr = 0 then beginStop a .pause 0 now s1
    else s1.setAxis a (planHead x1 now)

/-- Starts heads of the queue until one keeps the axis: a move that completes where it starts makes way at once (R157,
R163). -/
def startHeads (a : Nat) (now : Int) : Nat → State → State
  | 0, s => s
  | n + 1, s => if mayStart (s.axis a) s.tm.frame then startHeads a now n (startHead a now s) else s

/-- Replans the running move when the lookahead has changed its joint before phase 5 (R165, R167). -/
def reraise (a : Nat) (now : Int) (s : State) : State :=
  let x := s.axis a
  if !x.relook then s
  else
    match x.running, x.prof with
    | some m, some _ =>
      if m.jog || x.stop.isSome then s.setAxis a { x with relook := false }
      else
        let y := lookahead (enterPhase5 now x)
        match y.running with
        | some m' =>
          if decide (m'.joint = m.joint) && decide (m'.stopAt = m.stopAt) then s.setAxis a y
          else Ops.count 1 17 1 (s.setAxis a (planHead y now))
        | none => s.setAxis a y
    | _, _ => s.setAxis a (lookahead x)

/-- One axis's evaluation at a servo tick, links apart (R150, R155, R172). -/
def evalAxis (a : Nat) (now : Int) (s : State) : State :=
  let x := s.axis a
  match x.prof with
  | none => s
  | some pr =>
    if Plan.ended pr now then endProfile a pr s
    else
      let (p, v, acc) := Plan.sample pr now x.st
      s.setAxis a { x with p := p, v := v, a := acc }

/-- Commands that wait for this tick, in barrier order, and the queue's next start; the move behind a blended end starts at
the boundary at which that move ends, before them (R163, R185). `home` starts a homing. -/
def tickCommands (home : Nat → Int → State → State) (a : Nat) (now : Int) (s0 : State) : State :=
  let s1 := if (s0.axis a).v ≠ 0 ∧ mayStart (s0.axis a) s0.tm.frame then startHead a now s0 else s0
  let x := s1.axis a
  let ready := x.tickQ.filter fun q => decide (q.1 < s1.tm.frame)
  let s2 := s1.setAxis a { x with tickQ := x.tickQ.filter fun q => !decide (q.1 < s1.tm.frame) }
  let s3 := ready.foldl (fun s q => if q.2 == .home then home a now s else tickCmd a now s q) s2
  reraise a now (startHeads a now ((s3.axis a).queue.length) s3)

/-- Whether a follower has lost its master: LOSS_CYCLES network cycles have passed without a valid sample (R181). -/
def masterLost (f : Follow) : Bool := f.engaged && decide (f.lossCycles ≤ f.missed)

/-- A follower's evaluation at a tick (R179 to R181, R207, R502). -/
def tickFollower (a : Nat) (now : Int) (s : State) : State :=
  let x := s.axis a
  match x.follow with
  | none => s
  | some f =>
    if !f.engaged then s
    else
      let m := masterState s f
      let (p, v, acc) := followState f now m
      let x1 := { x with p := p, v := v, a := acc, follow := some { f with pmLast := m.1 } }
      let (lp, ln) := limBlock x (s.chan a)
      let qs := x.stopsOf
      let s1 := s.setAxis a x1
      let far := Plan.stopPoint (p, v, acc) qs.qsDec qs.qsJerk
      if masterLost f then
        beginStop a .quick 7 now (Ops.raise Event.followMasterLost (mkSrc 1 1 a) 0 0 s1)
      else if decide (x.lim.vel < v.natAbs) || decide (x.lim.acc < acc.natAbs) then
        beginStop a .quick 6 now (Ops.raise Event.followLimit (mkSrc 1 1 a) 0 0 s1)
      else if (lp && decide (0 < v)) || (ln && decide (v < 0)) then beginStop a .quick 10 now s1
      else if (x.barPos && decide (0 < v)) || (x.barNeg && decide (v < 0)) then beginStop a .quick 5 now s1
      else if x.lim.soft && (decide (x.lim.pos < far) || decide (far < x.lim.neg)) then beginStop a .quick 8 now s1
      else s1

/-- An axis fault: ramp stop with cause 10 at the next tick (R173, R203). -/
def axisFault (a : Nat) (s : State) : State :=
  let x := s.axis a
  s.setAxis a { x with faulted := true, tickQ := x.tickQ ++ [(s.tm.frame, .stop .ramp 10)] }

/-- Entry to HOLD for every axis (R121, R173). -/
def enterHold (s : State) : State :=
  (List.range 64).foldl (fun s a =>
    let x := s.axis a
    if decide (x = default) then s
    else s.setAxis a { x with held := true, tickQ := (x.tickQ.filter fun q => q.2 != .resume) ++ [(s.tm.frame, .stop .hold 4)] }) s

/-- Return from HOLD to RUN: held axes go on at the first tick strictly after (R173, R174). -/
def leaveHold (s : State) : State :=
  { s with mot.axes := Tab.mapVals s.mot.axes fun _ x => { x with tickQ := x.tickQ ++ [(s.tm.frame, .resume)] } }

/-- Entry to SAFE_STOP: axes the Safety region does not drive quick-stop (R173). `driven` tells which it drives. -/
def enterSafeStop (driven : Nat → Bool) (s : State) : State :=
  { s with mot.axes := Tab.mapVals s.mot.axes fun a x =>
      if driven a then x else { x with held := false, tickQ := x.tickQ ++ [(s.tm.frame, .stop .quick 5)] } }

/-- A change to CONFIGURE disables the axes (R657). -/
def enterConfigure (s : State) : State :=
  let s1 := (List.range 64).foldl (fun s a =>
    let x := s.axis a
    if decide (x = default) then s
    else
      let s := unfollow a 2 9 s
      let s := x.queue.foldl (fun s m =>
        if m.started then finishMove x m 2 9 0 s else Ops.complete m.org .aborted 0 0 s) s
      let s := x.tickQ.foldl (fun s q => match q.2 with
        | .replace m _ => Ops.complete m.org .aborted 0 0 s
        | .jog m => Ops.complete m.org .aborted 0 0 s
        | .follow f => Ops.complete f.org .done 0 (moveResult (s.axis a).p 0 2 9 0) s
        | _ => s) s
      let y := s.axis a
      s.setAxis a { y with queue := [], tickQ := [], prof := none, stop := none, held := false }) s
  let s2 := s1.mot.stops.foldl (fun s k => Ops.complete k.org .done 0 s.tm.frame s) s1
  let s3 := s2.mot.ovrs.foldl (fun s k => Ops.complete k.org .done 0 0 s) s2
  { s3 with mot.stops := [], mot.ovrs := [] }

/-- Axes not at standstill. -/
def moving (s : State) : Nat := (s.mot.axes.filter fun q => !q.2.standstill).length

/-- Whether every axis is at standstill. -/
def allStill (s : State) : Bool := s.mot.axes.all fun q => q.2.standstill

/-- MOTION takes effect (R175, R187, R189, R203). -/
def enable (s : State) : State :=
  let s1 := (List.range 64).foldl (fun s a =>
    let x := s.axis a
    let ch := s.chan a
    let e := Bits.signed 32 ch.c
    let x1 := { x with ovr := 10000, o := 0, e := e, cLast := ch.c, referenced := false, faulted := false
                       encErrors := 0, lostSteps := 0, v := 0, a := 0, feRun := 0, misses := 0, missNow := false }
    let p := actualPos x1 ch
    s.setAxis a { x1 with p := p }) s
  { s1 with mot.everOn := true }

/-- MOTION_STATUS (Table 4-15). -/
def status (s : State) : Nat :=
  let ax := s.mot.axes.map (·.2)
  moving s + (ax.filter fun x => x.stop.any fun k => k.kind != .pause).length * 2 ^ 8 + (ax.filter fun x => x.follow.isSome).length * 2 ^ 16 +
    s.mot.missStops * 2 ^ 24

/-- The MOTION check of one axis: R197 (0x1B), R198 (0x1F). `servoOk` tells whether servo loop 768 + a takes the axis
setpoint. -/
def checkAxis (servoOk : Nat → Bool) (s : State) (a : Nat) : Option (Nat × Nat) :=
  let x := s.axis a
  let l := pairLoc s.nodeId 1 a 0
  if decide (x.io.output = 1) && decide (10000000 * 2 ^ 32 < x.lim.vel) then some (0x1B, l)
  else if decide (x.io.output = 1) && decide (0 < x.lim.vel) &&
      decide ((10 ^ 9 * 2 ^ 32 : Int) / x.lim.vel < x.io.stepWidth * 20 + 40) then some (0x1B, l)
  else if decide (x.io.output = 2) && !servoOk a then some (0x1F, l)
  else none

end Mot

end Sys2Proof.Machine
end

