-- ==== Sys2Proof/Machine/Taps.lean ====
section
/-!
DEFINITION. Signal taps (R287 to R290): every tap's sample at the last boundary, and its real value as a loop reads it.
-/

namespace Sys2Proof.Machine

/-- One loop unit. -/
def State.slot (s : State) (u : Nat) : Slot := Tab.get s.loop.slots u

/-- Replaces one loop unit. -/
def State.setSlot (s : State) (u : Nat) (x : Slot) : State := { s with loop.slots := Tab.set s.loop.slots u x }

/-- One stage of a slot. -/
def Slot.stage (x : Slot) (k : Nat) : Stage := Tab.get x.stages k

/-- Exponent of the slot's output: that of its last stage (R234). -/
def Slot.outExp (x : Slot) : Int := (x.stage (x.cfg.nstages - 1)).exp

namespace Taps

/-- State STATE of a stage in Table 6-3 order (Table 8-3): whether it is the PID integrator, and its value. -/
def stageState (kind k : Nat) (st : StageState) : Bool × Int :=
  match kind, k with
  | 0, 0 => (true, st.i)
  | 0, 1 => (false, st.d)
  | 0, 2 => (false, st.xd1)
  | 1, 0 => (false, st.x1)
  | 1, 1 => (false, st.x2)
  | 1, 2 => (false, st.y1)
  | 1, 3 => (false, st.y2)
  | 2, 0 => (false, st.x1)
  | 2, 1 => (false, st.y1)
  | 5, 0 => (false, st.y1)
  | _, _ => (false, 0)

/-- How many states a kind of stage has (Table 6-3). -/
def stateCount (kind : Nat) : Nat :=
  match kind with
  | 0 => 3
  | 1 => 4
  | 2 => 2
  | 5 => 1
  | _ => 0

/-- Exponent of a state of a stage: delayed inputs are held at the input exponent (R225). -/
def stateExp (x : Slot) (k st : Nat) : Int :=
  let ein := if k = 0 then x.cfg.x0 else (x.stage (k - 1)).exp
  match (x.stage k).kind, st with
  | 0, 2 => ein
  | 1, 0 => ein
  | 1, 1 => ein
  | 2, 0 => ein
  | _, _ => (x.stage k).exp

/-- A tap of a loop unit (Table 8-1). -/
def loopTap (s : State) (u q : Nat) : TapVal :=
  let x := s.slot u
  if !x.cfg.inUse then { fmt := 3, v := 0, e := 0 }
  else
    match q with
    | 0 => { fmt := 3, v := x.setpoint, e := x.cfg.x0 }
    | 1 => { fmt := 3, v := x.pv, e := x.cfg.x0 }
    | 2 => { fmt := 3, v := x.e, e := x.cfg.x0 }
    | _ => { fmt := 3, v := x.out, e := x.outExp }

/-- An assignable tap (Table 8-3). -/
def assigned (s : State) (t : Nat) : TapVal :=
  let a := Tab.get s.acq.assign t
  let x := s.slot (locUnit a.loc)
  let k := locItem a.loc - 1
  match a.src with
  | 1 => { fmt := 3, v := (Tab.get x.ys k), e := (x.stage k).exp }
  | 2 =>
    let r := stageState (x.stage k).kind a.state (Tab.get x.shown k)
    if r.1 then { fmt := 6, v := r.2 } else { fmt := 3, v := r.2, e := stateExp x k a.state }
  | 3 => Tab.get s.acq.recVals a.recno
  | _ => {}

/-- A tap's sample at the last boundary (Table 8-1). -/
def tap (s : State) (t : Nat) : TapVal :=
  if t < 128 then { fmt := 0, v := ((Tab.get s.acq.inputs t : Nat) : Int) }
  else if t < 192 then { fmt := 1, v := (s.axis (t - 128)).p }
  else if t < 256 then { fmt := 1, v := (s.axis (t - 192)).shownA }
  else if t < 320 then { fmt := 2, v := (s.axis (t - 256)).v }
  else if t < 384 then { fmt := 1, v := (s.axis (t - 320)).fe }
  else if t < 448 then { fmt := 4, v := Tab.get s.acq.taps.ve (t - 384) }
  else if t < 462 then { fmt := 4, v := s.acq.taps.slack.getD (t - 448) 32767 }
  else if t = 462 then { fmt := 4, v := s.acq.taps.vout }
  else if t = 463 then { fmt := 4, v := s.acq.taps.theta }
  else if t < 512 then {}
  else if t < 3840 then loopTap s ((t - 512) / 4) (t % 4)
  else assigned s t

/-- The boundary's latching of the taps whose sources change within the frame: the safety speeds as computed for the boundary
before, the active die's slack of the frame that has ended, VOUT_MV and θ (Table 8-1). -/
def latch (s : State) : State :=
  { s with acq.taps := {
      ve := s.saf.axes.foldl (fun t q => Tab.set t q.1 q.2.ve) []
      slack := (List.range 14).map fun i => (Tab.get s.tm.slack (s.pair.active * 16 + i)).last
      vout := s.tm.gov.out, theta := s.tm.theta } }

/-- Whether a format is a float format (R288). -/
def isFloat (fmt : Nat) : Bool := fmt = 7 || fmt = 8

/-- Bytes of a sample in records (Table 8-2). -/
def width (fmt : Nat) : Nat := if fmt = 1 || fmt = 2 || fmt = 6 || fmt = 8 then 8 else 4

/-- The real value of a sample as a dyadic number m × 2^e; false for a NaN or an infinity (R288). -/
def real (x : TapVal) : Int × Int × Bool :=
  match x.fmt with
  | 1 => (x.v, -24, true)
  | 2 => (x.v, -32, true)
  | 3 => (x.v, x.e - 23, true)
  | 7 =>
    let b : Nat := x.v.toNat % 2 ^ 32
    let ex : Nat := b / 2 ^ 23 % 256
    let fr : Nat := b % 2 ^ 23
    if ex = 255 then (0, 0, false)
    else
      let m : Int := if ex = 0 then (fr : Int) else ((fr + 2 ^ 23 : Nat) : Int)
      (if b < 2 ^ 31 then m else -m, ((max ex 1 : Nat) : Int) - 150, true)
  | 8 =>
    let b : Nat := x.v.toNat % 2 ^ 64
    let ex : Nat := b / 2 ^ 52 % 2048
    let fr : Nat := b % 2 ^ 52
    if ex = 2047 then (0, 0, false)
    else
      let m : Int := if ex = 0 then (fr : Int) else ((fr + 2 ^ 52 : Nat) : Int)
      (if b < 2 ^ 63 then m else -m, ((max ex 1 : Nat) : Int) - 1075, true)
  | _ => (x.v, 0, true)

end Taps

end Sys2Proof.Machine
end

