-- ==== Sys2Proof/Machine/Adc.lean ====
section
/-!
DEFINITION. Analog conversion (R258 to R286): triggers, slots, the cross-check, result records and their buffers.
-/

namespace Sys2Proof.Machine

/-- One converter. -/
def State.conv (s : State) (c : Nat) : Converter := Tab.get s.acq.conv c

/-- Replaces one converter. -/
def State.setConv (s : State) (c : Nat) (x : Converter) : State := { s with acq.conv := Tab.set s.acq.conv c x }

/-- The lattice point of an instant of the present frame, counted from lattice lock. -/
def Time.point (t : Time) (i : Instant) : Nat := t.lp + i.lp

namespace Adc

/-- The code of a sample: the nearest of 0 to 4095 to 4096 times the difference over 2.5 V (R259). -/
def codeOf (x : AnalogIn) : Nat := (min 4095 ((2 * 4096 * (x.ain - x.ainn) + 2500000000000) / 5000000000000)).toNat

/-- Discards a regular trigger (R266). -/
def dropReg (c : Nat) (s : State) : State :=
  let x := s.conv c
  let s1 := s.setConv c { x with regOvr := Bits.satInc 16 x.regOvr }
  Ops.raiseLimitedMid Event.adcTrigOvr (mkSrc 1 3 c) 0 { s1 with acq.regOvr := Bits.setBit s1.acq.regOvr c true }

/-- Discards an injected trigger (R268). -/
def dropInj (c : Nat) (s : State) : State :=
  let x := s.conv c
  let s1 := s.setConv c { x with injOvr := Bits.satInc 16 x.injOvr }
  Ops.raiseLimitedMid Event.adcTrigOvr (mkSrc 1 3 c) 1 { s1 with acq.injOvr := Bits.setBit s1.acq.injOvr c true }

/-- Starts an entry's first slot at a lattice point. -/
def beginEntry (inj : Bool) (entry p : Nat) (x : Converter) : Converter :=
  let es := if inj then x.injRun else x.regRun
  let e := match es with
    | some r => r.entries.getD entry {}
    | none => {}
  { x with cur := some { inj := inj, entry := entry, cfg := e, start := p }, freeAt := none }

/-- Starts the regular sequence (R264). -/
def startReg (p : Nat) (x : Converter) : Converter :=
  beginEntry false 0 p { x with regRun := some { entries := x.cfg.regSeq, next := 1 } }

/-- Starts the injected sequence (R265). -/
def startInj (p : Nat) (x : Converter) : Converter :=
  beginEntry true 0 p { x with injRun := some { entries := x.cfg.injSeq, next := 1 } }

/-- Whether the entry in progress ends at a lattice point. -/
def entryEnds (p : Nat) (x : Converter) : Bool :=
  x.cur.any fun k => decide (k.start + 400 = p) && decide (k.taken + 1 = k.cfg.avg)

/-- Whether the converter becomes free at a lattice point (R269). -/
def frees (p : Nat) (x : Converter) : Bool :=
  decide (x.freeAt = some p) || entryEnds p x || x.test.any fun k => decide (k.start + 64 * 400 = p)

/-- Whether a sequence is running at a lattice point: one that ends there is idle (R261, R269). -/
def regRuns (p : Nat) (x : Converter) : Bool :=
  x.regRun.any fun r => !(entryEnds p x && x.cur.any fun k => !k.inj && decide (r.entries.length ≤ k.entry + 1))

/-- The same for the injected sequence. -/
def injRuns (p : Nat) (x : Converter) : Bool :=
  x.injRun.any fun r => !(entryEnds p x && x.cur.any fun k => k.inj && decide (r.entries.length ≤ k.entry + 1))

/-- Whether a converter test holds the converter at a lattice point. -/
def testRuns (p : Nat) (x : Converter) : Bool := x.test.any fun k => decide (k.start + 64 * 400 ≠ p)

/-- ADC_REGULAR_TRIGGER (R263, R264, R266, R267): acts at a trigger instant of the converter's source. One that arrives
as the
converter becomes free is taken by CONVERTER_FREE (R269). -/
def regularTrigger (c : Nat) (t : Instant) (s : State) : State :=
  let x := s.conv c
  let p := s.tm.point t
  if !s.enabled 2 || !x.regDue.contains p || x.cfg.regSeq.isEmpty then s
  else
    let x1 := { x with regDue := x.regDue.filter fun q => decide (p < q) }
    let s1 := s.setConv c x1
    if testRuns p x || regRuns p x then dropReg c s1
    else if frees p x then s.setConv c { x1 with regArr := true }
    else if x.cur.isSome then (if x.regHeld then dropReg c s1 else s.setConv c { x1 with regHeld := true })
    else s.setConv c (startReg p x1)

/-- ADC_INJECTED_TRIGGER (R263, R265, R268): a regular sequence that started at this very lattice point waits (R269). -/
def injectedTrigger (c : Nat) (t : Instant) (s : State) : State :=
  let x := s.conv c
  let p := s.tm.point t
  if !s.enabled 2 || !x.injDue.contains p || x.cfg.injSeq.isEmpty then s
  else
    let x1 := { x with injDue := x.injDue.filter fun q => decide (p < q) }
    let s1 := s.setConv c x1
    if testRuns p x then dropInj c s1
    else if frees p x && !injRuns p x then s.setConv c { x1 with injArr := true }
    else
      match x.cur with
      | none => s.setConv c (startInj p x1)
      | some k =>
        if !k.inj && decide (k.start = p) && decide (k.taken = 0) then
          -- the regular entry that started at this lattice point waits (R269)
          s.setConv c (startInj p (if k.entry = 0 then { x1 with regRun := none, regHeld := true }
            else { x1 with regRun := x1.regRun.map fun r => { r with next := k.entry } }))
        else if x.injHeld then dropInj c s1
        else s.setConv c { x1 with injHeld := true }

/-- CONVERTER_FREE (R269): the work at this lattice point, in order; an injected sequence that a test interrupted goes
on first
(R274). -/
def converterFree (c : Nat) (t : Instant) (s : State) : State :=
  let x := s.conv c
  let p := s.tm.point t
  if x.freeAt ≠ some p then s
  else if x.injRun.isSome then
    let next := match x.injRun with
      | some r => r.next
      | none => 0
    let y := beginEntry true next p { x with regArr := false, injArr := false, regHeld := x.regHeld || (x.regArr && x.regRun.isNone)
                                             injHeld := x.injHeld || x.injArr }
    let s1 := s.setConv c y
    let s2 := if x.regArr && (x.regHeld || x.regRun.isSome) then dropReg c s1 else s1
    if x.injArr && x.injHeld then dropInj c s2 else s2
  else if x.injHeld then
    let y := startInj p { x with injHeld := x.injArr, injArr := false, regArr := false }
    if x.regArr then (if x.regHeld then dropReg c (s.setConv c y) else s.setConv c { y with regHeld := true })
    else s.setConv c y
  else if x.injArr then
    let y := startInj p { x with injArr := false, regArr := false }
    if x.regArr then (if x.regHeld then dropReg c (s.setConv c y) else s.setConv c { y with regHeld := true })
    else s.setConv c y
  else
    match x.regRun with
    | some r => s.setConv c (beginEntry false r.next p { x with regRun := some { r with next := r.next + 1 } })
    | none =>
      if x.regHeld then
        let y := startReg p { x with regHeld := false, regArr := false }
        if x.regArr then dropReg c (s.setConv c y) else s.setConv c y
      else if x.regArr then s.setConv c (startReg p { x with regArr := false })
      else s.setConv c { x with freeAt := none }

/-- The 8-byte record of a result (Table 7-2). -/
def recordOf (c : Nat) (k : Conversion) (value : Nat) : Nat :=
  value % 2 ^ 20 + k.cfg.input * 2 ^ 20 + k.entry * 2 ^ 22 + Bits.b2n k.inj * 2 ^ 26 + Bits.b2n k.xchk * 2 ^ 27 +
    Bits.b2n k.clip * 2 ^ 28 + k.holdLp * 2 ^ 32 + c * 2 ^ 48 + k.holdFrame % 256 * 2 ^ 56

/-- The consequences of a mismatching sample (R273, R274). -/
def mismatch (c codeA codeB : Nat) (s : State) : State :=
  let x := s.conv c
  let run := x.mismatchRun + 1
  let s1 := s.setConv c { x with mismatchRun := run, mismatch := Bits.satInc 16 x.mismatch }
  let s2 := Ops.raiseLimitedMid Event.adcXchk (mkSrc 1 3 c) (codeA + codeB * 2 ^ 16)
    { s1 with acq.xchk := Bits.setBit s1.acq.xchk c true }
  if decide (x.cfg.run ≤ run) && !x.testDue then
    Ops.raiseMid Event.adcXchkFault (mkSrc 1 3 c) 0 0
      (s2.setConv c { s2.conv c with testDue := true, mismatchRun := 0 })
  else s2

/-- ADC_SLOT_END (R260, R262, R271 to R275): the codes of both dies at the end of a slot. Log: 49 (DEDUCED, unsafe). -/
def slotEnd (c codeA codeB : Nat) (t : Instant) (s : State) : State :=
  let x := s.conv c
  let p := s.tm.point t
  match x.test with
  | some k =>
    if k.start + 400 * (k.taken + 1) ≠ p then s
    else
      let k1 := { k with taken := k.taken + 1, sumA := k.sumA + codeA, sumB := k.sumB + codeB }
      Ops.count 3 16 1 (s.setConv c (if k1.taken = 64 then { x with test := none, tested := some k1, freeAt := some p }
        else { x with test := some k1 }))
  | none =>
    match x.cur with
    | none => s
    | some k =>
      if k.start + 400 ≠ p then s
      else
        let code := if s.pair.active = 2 then codeB else codeA
        let bad := s.inStep && decide (s.md.mode ≠ .degraded) && decide (x.cfg.tol < max codeA codeB - min codeA codeB)
        let hold := k.start + 100
        let holdNow := decide (s.tm.lp ≤ hold)
        let k0 := if k.taken = 0 then
            { k with holdAbs := hold, holdLp := if holdNow then hold - s.tm.lp else hold + s.tm.lpPrev - s.tm.lp
                     holdFrame := if holdNow then s.tm.frame else s.tm.first - 1 }
          else k
        let k1 := { k0 with taken := k.taken + 1, sum := k.sum + code, xchk := k.xchk || bad
                            clip := k.clip || decide (code = 0) || decide (code = 4095) }
        let late := decide (5850 < t.lp)
        let x1 := { x with
          codeNow := if late then x.codeNow else some code, codeLate := if late then some code else x.codeLate
          mismatchRun := if bad then x.mismatchRun else 0, lastMux := if bad then k.cfg.input else x.lastMux }
        let s1 := if k1.taken < k.cfg.avg then s.setConv c { x1 with cur := some { k1 with start := p } }
          else
            let value := (Bits.roundDiv k1.sum (2 ^ k.cfg.shift)).toNat
            let r : AdcResult :=
              { conv := c, input := 4 * c + k.cfg.input, value := value, xchk := k1.xchk, clip := k1.clip
                holdAbs := k1.holdAbs, record := recordOf c k1 value
                dma := if k.inj then x.cfg.dmaInj else x.cfg.dmaReg, late := late }
            let beyond (q : Option RunSeq) : Bool := match q with
              | some r => decide (r.entries.length ≤ k.entry + 1)
              | none => true
            -- an injected sequence goes straight on with its next entry
            let x2 := if k.inj then
                (if beyond x1.injRun then { x1 with cur := none, injRun := none, freeAt := some p }
                 else beginEntry true (k.entry + 1) p x1)
              else if beyond x1.regRun then { x1 with cur := none, regRun := none, freeAt := some p }
              else { x1 with cur := none, freeAt := some p }
            { s.setConv c x2 with acq.waiting := s.acq.waiting ++ [r] }
        Ops.count 3 16 1 (if bad then mismatch c codeA codeB s1 else s1)

/-- The outcome of a converter test that has ended (R274): whether each die's mean code lies outside 2048 ± 4. -/
def testVerdict (k : ConvTest) : Bool × Bool :=
  let bad (sum : Nat) : Bool := decide (4 * 64 < max sum (2048 * 64) - min sum (2048 * 64))
  (bad k.sumA, bad k.sumB)

/-- Inserts a result by hold instant, then converter (R276). Log: 49 (DEDUCED, unsafe). -/
def insertResult (r : AdcResult) : List AdcResult → List AdcResult
  | [] => [r]
  | q :: t => if r.holdAbs < q.holdAbs ∨ (r.holdAbs = q.holdAbs ∧ r.conv < q.conv) then r :: q :: t
      else q :: insertResult r t

/-- Whether a field DMA channel may write (R278, R565, R566). -/
def mayWrite (s : State) (d : Nat) : Bool := !s.acq.fdmaPaused.testBit d && !s.acq.fdmaStopped.testBit d

/-- Writes one record through a channel's buffer; a channel that may not write still counts it (R276, R278).
Log: 86 (DEDUCED, unsafe). -/
def writeRecord (s : State) (r : AdcResult) : State :=
  let f := Tab.get s.acq.fdma r.dma
  if !f.adc then s
  else
    let s1 := { s with acq.fdma := Tab.set s.acq.fdma r.dma { f with writes := (f.writes + 1) % 2 ^ 32 } }
    if !mayWrite s r.dma then s1
    else Ops.count 3 20 1 { s1 with deck := Mem.writeLe s.deck (f.base + f.writes * 8 % 2 ^ f.sizeLog2) 8 r.record }

/-- Puts a trigger instant among those to come. -/
def insertDue (p : Nat) (l : List Nat) : List Nat := l.filter (· ≤ p) ++ p :: l.filter (p < ·)

/-- A source event of triggers at a lattice point (R263): `is` tells which triggers it feeds. -/
def sourceEvent (is : TrigCfg → Bool) (p : Nat) (s : State) : State :=
  { s with acq.conv := Tab.mapVals s.acq.conv fun _ x =>
      { x with regDue := if is x.cfg.reg then insertDue (p + x.cfg.reg.delay) x.regDue else x.regDue
               injDue := if is x.cfg.inj then insertDue (p + x.cfg.inj.delay) x.injDue else x.injDue } }

/-- A PWM event at a lattice point (Table 7-1): edge 0 period start, 1 end of high time. -/
def pwmEvent (n edge p : Nat) (s : State) : State :=
  if s.enabled 2 then sourceEvent (fun t => decide (t.src = 2) && decide (t.pwm = n) && decide (t.edge = edge)) p s else s

/-- The frame timers' event of this boundary (Table 7-1). -/
def frameTick (s : State) : State :=
  sourceEvent (fun t => decide (t.src = 1) && s.tm.due (2 ^ t.rate) t.phase) s.tm.lp s

/-- The same while ADC is enabled. -/
def frameEvent (s : State) : State := if s.enabled 2 then frameTick s else s

/-- A test that is due starts at this boundary: it interrupts the entry in progress, whose sequence takes that entry up again
after the test, and triggers that arrived at this lattice point are discarded (R274). Log: 49 (DEDUCED, unsafe). -/
def startTest (s : State) (c : Nat) : State :=
  let x := s.conv c
  if !x.testDue then s
  else
    let again (r : RunSeq) : RunSeq := { r with next := (x.cur.map (·.entry)).getD r.next }
    let inj := x.cur.any (·.inj)
    let s1 := s.setConv c { x with
      testDue := false, test := some { start := s.tm.lp }, cur := none, freeAt := none, regArr := false, injArr := false
      regRun := if x.cur.isSome && !inj then x.regRun.map again else x.regRun
      injRun := if inj then x.injRun.map again else x.injRun }
    let s2 := if x.regArr then dropReg c s1 else s1
    if x.injArr then dropInj c s2 else s2

/-- The result of ADC_STATUS as a converter stands (Table 7-6). -/
def statusOf (x : Converter) (suspect : Bool) : Nat :=
  let entry := match x.regRun with
    | some r => r.next
    | none => 0
  let st := Bits.b2n x.regRun.isSome + 2 * Bits.b2n x.injRun.isSome + 4 * Bits.b2n x.regHeld + 8 * Bits.b2n x.injHeld +
    16 * Bits.b2n x.test.isSome + 32 * Bits.b2n suspect
  x.results % 2 ^ 32 + x.regOvr * 2 ^ 32 + x.injOvr * 2 ^ 48 + x.mismatch * 2 ^ 64 + st * 2 ^ 80 + entry % 16 * 2 ^ 88 +
    x.lastCode * 2 ^ 96

/-- What ADC_STATUS answers until the next boundary (R284). -/
def latchShown (s : State) : State :=
  { s with acq.conv := Tab.mapVals s.acq.conv fun c x => { x with shown := statusOf x (s.acq.suspect.testBit c) } }

/-- The conversion's part of a frame boundary (R263, R272, R274, R276). Log: 49 (DEDUCED, unsafe). -/
def boundary (s0 : State) : State :=
  if !s0.enabled 2 then s0
  else
    let s1 := frameEvent s0
    let now : List AdcResult := (s1.acq.waiting.filter fun r => !r.late).foldl (fun l r => insertResult r l) []
    let later := (s1.acq.waiting.filter fun r => r.late).map fun r => { r with late := false }
    let s2 : State := { s1 with
      acq.fresh := now, acq.waiting := later
      acq.inputs := now.foldl (fun t r => Tab.set t r.input r.value) s1.acq.inputs
      acq.conv := Tab.mapVals s1.acq.conv fun c x =>
        { x with
          results := x.results + (now.filter fun r => decide (r.conv = c)).length
          lastCode := x.codeNow.getD x.lastCode, codeNow := x.codeLate, codeLate := none } }
    let s3 := (s2.acq.conv.map fun q => q.1).foldl startTest s2
    let s4 := latchShown (now.foldl writeRecord (Ops.count 3 17 now.length s3))
    s4.acq.fdma.foldl (fun s q =>
      if q.2.adc && mayWrite s q.1 then { s with deck := Mem.writeLe s.deck q.2.countAddr 4 q.2.writes } else s) s4

/-- ADC takes effect: counts since then begin at 0, and a frame timer whose boundary this is triggers (R276, R279,
Table 7-6). -/
def enable (s : State) : State :=
  latchShown (frameTick { s with
    acq.conv := Tab.mapVals s.acq.conv fun _ x => { cfg := x.cfg }
    acq.fdma := Tab.mapVals s.acq.fdma fun _ f => { f with writes := 0 }
    acq.waiting := [], acq.fresh := [] })

/-- A clear of ADC takes effect: sequences in progress are abandoned (R279). -/
def disable (s : State) : State :=
  { s with acq.conv := Tab.mapVals s.acq.conv fun _ x =>
      { x with cur := none, regRun := none, injRun := none, regHeld := false, injHeld := false, regArr := false
               injArr := false, freeAt := none, test := none, testDue := false, tested := none, regDue := [], injDue := [] }
           acq.waiting := [], acq.fresh := [] }

/-- A trigger in arguments (Table 7-4), when every field is in range. -/
def trigOf (c : Cmd) (o : Nat) : Option TrigCfg :=
  let t : TrigCfg :=
    { src := Arg.u c o 1, rate := Arg.u c (o + 1) 1, phase := Arg.u c (o + 2) 2, pwm := Arg.u c (o + 4) 1
      edge := Arg.u c (o + 5) 1, delay := Arg.u c (o + 6) 2 }
  if t.src ≤ 2 ∧ t.rate ≤ 10 ∧ (t.rate = 0 ∨ t.src = 1) ∧ t.phase < 2 ^ t.rate ∧ t.pwm < 32 ∧ (t.pwm = 0 ∨ t.src = 2) ∧
      t.edge ≤ 1 then some t else none

/-- ADC_CONVERTER (R281). -/
def converter (c : Cmd) (s : State) : Reply :=
  let x := s.conv c.unit
  let chOk (d : Nat) : Bool := decide (d < 32) || decide (d = 0xFF)
  match trigOf c 0, trigOf c 8 with
  | some r, some i =>
    let g := { x.cfg with reg := r, inj := i, tol := Arg.u c 16 1, run := Arg.u c 17 1, dmaReg := Arg.u c 18 1
                          dmaInj := Arg.u c 19 1 }
    if decide (g.run = 0) || !chOk g.dmaReg || !chOk g.dmaInj then .refuse 0x31
    else .config 2 (s.setConv c.unit { x with cfg := g })
  | _, _ => .refuse 0x31

/-- ADC_SEQUENCE (R282). -/
def sequence (c : Cmd) (s : State) : Reply :=
  let x := s.conv c.unit
  let inj := decide (Arg.u c 0 1 = 1)
  let n := Arg.u c 1 1
  let es : List SeqEntry := (List.range n).map fun j =>
    let b := Arg.u c (4 + 2 * j) 1
    { input := b % 4, shift := b / 4 % 16, avg := Arg.u c (5 + 2 * j) 1 + 1 }
  if decide (n = 0) || decide ((if inj then 4 else 16) < n) || es.any fun e => decide (8 < e.shift) then .refuse 0x32
  else .config 2 (s.setConv c.unit { x with cfg := if inj then { x.cfg with injSeq := es } else { x.cfg with regSeq := es } })

/-- The format of ADC_SEQUENCE: KIND 0 or 1, reserved bytes and bits zero (R6, R282). -/
def sequenceFormat (c : Cmd) : Bool :=
  let n := Arg.u c 1 1
  decide (Arg.u c 0 1 < 2) && Arg.zero c 2 2 && ((List.range (min 16 n)).all fun j => decide (Arg.u c (4 + 2 * j) 1 < 64)) &&
    Arg.zeroFrom c (4 + 2 * min 22 n)

/-- ADC_DMA (R283). -/
def dma (c : Cmd) (s : State) : Reply :=
  let d := c.unit - 96
  let f : Fdma := { Tab.get s.acq.fdma d with adc := true, base := Arg.u c 0 4, sizeLog2 := Arg.u c 4 1, countAddr := Arg.u c 8 4 }
  if f.sizeLog2 < 8 ∨ 24 < f.sizeLog2 then .refuse 0x34
  else .config 2 { s with acq.fdma := Tab.set s.acq.fdma d f }

/-- ADC_STATUS (R284). -/
def status (c : Cmd) (s : State) : Reply :=
  if !s.enabled 2 then .refuse 0x30 else .done s (s.conv c.unit).shown

/-- Length of a sequence in lattice points (R270). -/
def seqLen (es : List SeqEntry) : Nat := (es.map fun e => e.avg * 400).sum

/-- One trigger's faults, each with its step of the check (R133, R270, R282, R283): `pwm` gives the period of a
configured PWM
output, `pwmOn` whether PWM is to be enabled. -/
def checkTrig (pwm : Nat → Option Nat) (pwmOn : Bool) (t : TrigCfg) (es : List SeqEntry) : List (Nat × Nat) :=
  let long (p : Nat) : List (Nat × Nat) := if p < seqLen es then [(1, 0x36)] else []
  (if decide (t.src ≠ 0) && es.isEmpty then [(1, 0x32)] else []) ++
    match t.src with
    | 1 => long (2 ^ t.rate * 6248)
    | 2 => (if pwmOn then [] else [(2, 0x76)]) ++ match pwm t.pwm with
      | none => if pwmOn then [(2, 0x33)] else []
      | some p => long p
    | _ => []

/-- One converter's faults, each with its step (R133, R270, R282, R283, R289). -/
def checkConv (pwm : Nat → Option Nat) (pwmOn : Bool) (s : State) (x : ConvCfg) : List (Nat × Nat) :=
  let all := x.regSeq ++ x.injSeq
  let differ := all.any fun a => all.any fun b => decide (a.input = b.input) &&
    (decide (a.avg ≠ b.avg) || decide (a.shift ≠ b.shift))
  let chBad (d : Nat) : Bool := decide (d ≠ 0xFF) && !(Tab.get s.acq.fdma d).adc
  checkTrig pwm pwmOn x.reg x.regSeq ++ checkTrig pwm pwmOn x.inj x.injSeq ++ (if differ then [(1, 0x38)] else []) ++
    if chBad x.dmaReg || chBad x.dmaInj then [(2, 0x37)] else []

/-- A result buffer's own fault (R283). -/
def checkBuffer (f : Fdma) : Option Nat :=
  let size := 2 ^ f.sizeLog2
  if f.base % size ≠ 0 ∨ 2 ^ 25 < f.base + size ∨ f.countAddr % 4 ≠ 0 ∨ 2 ^ 25 < f.countAddr + 4 ∨
      (f.base ≤ f.countAddr ∧ f.countAddr < f.base + size) then some 0x34 else none

end Adc

end Sys2Proof.Machine
end

