-- ==== Sys2Proof/Machine/AxisIo.lean ====
section
/-!
DEFINITION. The Axis I/O region of the FID (R188 to R206, R215, R216): step generators, encoders, index and switch
capture, and their configuration.
-/

namespace Sys2Proof.Machine

/-- Whether the step outputs are driven: a live mode, or SAFE_STOP until its SS1 has ended (R106, Table 3-1, R115). -/
def State.stepsOn (s : State) : Bool :=
  (s.md.mode.live || (decide (s.md.mode = .safeStop) && s.md.stopping && s.md.ssLive)) && !s.md.outHeld

namespace Channel

/-- The levels of the step and direction balls: STEP_LOW and DIR_INV applied, and while the balls are off the step
inactive and
the direction low (R106, R188). -/
def settle (io : AxIo) (on : Bool) (ch : Channel) : Channel :=
  let stepOn := ch.stepOn && on
  let dirBall := if on then ch.dirBall else io.flags.testBit 1
  let dirPin := dirBall != io.flags.testBit 1
  { ch with stepOn := stepOn, stepAge := if stepOn = ch.stepOn then ch.stepAge else 0
            dirBall := dirBall, dirAge := if dirPin = ch.dirPin then ch.dirAge else 0
            stepPin := stepOn != io.flags.testBit 0, dirPin := dirPin }

/-- One accumulator strobe of one channel (R192 to R194): `width` is STEP_WIDTH, `inc` the increment in force, `on` whether
the balls are driven. Answers the channel and whether a step went active.
Log: 39 (DEDUCED, unsafe), 40 (DEDUCED, unsafe). -/
def strobe (width inc : Nat) (on : Bool) (ch0 : Channel) : Channel × Bool :=
  let stepAge := min 50 (ch0.stepAge + 1)
  let dirAge := min 50 (ch0.dirAge + 1)
  -- a step that has lasted STEP_WIDTH ends
  let ends := ch0.stepOn && (decide (width ≤ stepAge) || !on)
  let ch1 := { ch0 with stepOn := ch0.stepOn && !ends, stepAge := if ends then 0 else stepAge, dirAge := dirAge }
  -- the direction ball
  let oldHeld := match ch1.held with
    | some d => d != ch1.neg
    | none => false
  let turns := on && (ch1.dirBall != ch1.neg) && !ch1.stepOn && !oldHeld && decide (2 ≤ ch1.stepAge)
  let ch2 := if turns then { ch1 with dirBall := ch1.neg, dirAge := 0 } else ch1
  -- the phase: a carry requests one step, or is lost behind a held one
  let sum := ch2.phi + inc
  let ch3 := { ch2 with phi := sum % 2 ^ 64 }
  let one : Int := if ch3.neg then -1 else 1
  let ch4 :=
    if sum < 2 ^ 64 then ch3
    else if ch3.held.isSome then { ch3 with lost := ch3.lost + 1 }
    else { ch3 with n := Bits.fit 64 (ch3.n + one), held := some ch3.neg }
  -- a held step goes active
  match ch4.held with
  | some d =>
    if on && !ch4.stepOn && decide (2 ≤ ch4.stepAge) && decide (5 ≤ ch4.dirAge) && ch4.dirBall == d then
      ({ ch4 with stepOn := true, stepAge := 0, held := none }, true)
    else (ch4, false)
  | none => (ch4, false)

/-- A new increment and direction at a servo tick (R191, R193). -/
def drive (inc : Nat) (neg : Bool) (ch : Channel) : Channel :=
  if neg == ch.neg then { ch with inc := inc }
  else if ch.phi = 0 then { ch with inc := inc, neg := neg }
  else { ch with inc := inc, neg := neg, phi := 2 ^ 64 - ch.phi, n := Bits.fit 64 (ch.n + (if ch.neg then -1 else 1)) }

/-- The generator's present position in 2^-64 steps. -/
def now (ch : Channel) : Int := ch.n * 2 ^ 64 + (if ch.neg then -(ch.phi : Int) else ch.phi)

/-- A carry count and phase for a position, in a direction (R190). -/
def split (g : Int) (neg : Bool) : Int × Nat :=
  if neg then
    let n := -((-g) / 2 ^ 64)
    (n, (n * 2 ^ 64 - g).toNat)
  else (g / 2 ^ 64, (g % 2 ^ 64).toNat)

/-- Moves G, present and latched, by `d` steps of 2^-64 with no step issued (R212). -/
def shift (d : Int) (ch : Channel) : Channel :=
  let a := split (ch.now + d) ch.neg
  let b := split (ch.g + d) ch.gNeg
  { ch with n := Bits.fit 64 a.1, phi := a.2, gN := Bits.fit 64 b.1, gPhi := b.2 }

/-- A switch input of the channel. -/
def input (ch : Channel) : Switch → SwitchIn
  | .limitPos => ch.limPos
  | .limitNeg => ch.limNeg
  | .home => ch.home

/-- Replaces a switch input. -/
def setInput (ch : Channel) (x : SwitchIn) : Switch → Channel
  | .limitPos => { ch with limPos := x }
  | .limitNeg => { ch with limNeg := x }
  | .home => { ch with home := x }

/-- A raw edge qualifies when its level has held, with no further raw edge, until the control time `now`, through DEBOUNCE_US
(R206). -/
def qualify (io : AxIo) (sw : Switch) (now : Int) (ch : Channel) : Channel :=
  let x := ch.input sw
  match x.cand with
  | none => ch
  | some e =>
    if e.ctime + io.debounceUs * 256000 ≤ now then
      let ch1 := ch.setInput { x with cand := none, active := e.level } sw
      { ch1 with qual := ch1.qual ++ [(sw, e)] }
    else ch

end Channel

/-- Whether a switch is active low (Table 5-1). -/
def AxIo.lowActive (io : AxIo) : Switch → Bool
  | .limitPos => io.swPol.testBit 0
  | .limitNeg => io.swPol.testBit 1
  | .home => io.swPol.testBit 2

/-- Taking order of edges with equal timestamps (R214). -/
def switchRank : Switch → Nat
  | .home => 1
  | .limitPos => 0
  | .limitNeg => 0

namespace AxisIo

/-- The axes with anything in their axis or channel. -/
def used (s : State) : List Nat :=
  (List.range 64).filter fun a => s.mot.chans.any (fun q => decide (q.1 = a)) || s.mot.axes.any fun q => decide (q.1 = a)

/-- Whether an axis's balls are driven: field outputs on, and no fault holds them off (R31, R106). -/
def ballsOn (s : State) (a : Nat) : Bool := s.stepsOn && !s.fidDown 0 a

/-- The axis balls at a frame boundary. -/
def drivePins (s0 : State) : State :=
  (used s0).foldl (fun s a => s.setChan a ((s.chan a).settle (s.axis a).io (ballsOn s a))) s0

/-- ACCUMULATOR_STROBE (R57, R192 to R194, R196), on every channel: at the first lattice point at which control time
reaches a
multiple of 20 ns, once. -/
def accumulatorStrobe (t : Instant) (s : State) : State :=
  let k := s.tm.strobeAt t.lp
  if !s.tm.lock || decide (s.tm.strobeAt ((t.lp : Int) - 1) = k) || decide (k ≤ s.tm.strobe) then s
  else
    let r := s.mot.chans.map fun q =>
      let io := (s.axis q.1).io
      let on := ballsOn s q.1
      let z := q.2.strobe io.stepWidth (if on && decide (io.output = 1) then q.2.inc else 0) on
      (q.1, z.1.settle io on, z.2)
    let issued := (r.filter fun q => q.2.2).length
    let s1 := { s with tm.strobe := k, mot.chans := r.foldl (fun t q => Tab.set t q.1 q.2.1) s.mot.chans }
    Ops.countDie 3 0 16 issued s1

/-- ENCODER_EDGE (R199, R200): the levels of A and B at a sample, each accepted once it has held for ENC_FILT consecutive
samples. -/
def encoderEdge (a : Nat) (levelA levelB : Bool) (heldA heldB : Nat) (s : State) : State :=
  let ch := s.chan a
  let filt := (s.axis a).io.encFilt
  let la := if filt ≤ heldA then levelA else ch.encA
  let lb := if filt ≤ heldB then levelB else ch.encB
  let da := la != ch.encA
  let db := lb != ch.encB
  let ch1 := { ch with encA := la, encB := lb }
  if da && db then s.setChan a { ch1 with errs := ch.errs + 1 }
  else if da || db then
    -- A before B counts up: a change of A away from B, or of B towards A
    let up := if da then la != lb else la == lb
    let up := if (s.axis a).io.flags.testBit 3 then !up else up
    Ops.countDie 3 0 17 1 (s.setChan a { ch1 with c := (if up then ch.c + 1 else ch.c + 2 ^ 32 - 1) % 2 ^ 32 })
  else s

/-- An edge as the FID captures it at an instant (R97, R204, R206). -/
def capture (ch : Channel) (level : Bool) (t : Instant) (s : State) : Edge :=
  let time := s.tm.edge t
  { time := time, ctime := (time : Int) - s.tm.steps, level := level, c := ch.c, g := ch.now }

/-- INDEX_EDGE (R199, R204, R205): a change of the index input, accepted once it has held for ENC_FILT consecutive
samples. -/
def indexEdge (a : Nat) (level : Bool) (held : Nat) (t : Instant) (s : State) : State :=
  let io := (s.axis a).io
  let ch := s.chan a
  if held < io.encFilt then s else
  let ch1 := { ch with idx := level }
  let active := level != io.flags.testBit 4
  let gate := !io.flags.testBit 5 ||
    (ch.encA == io.idxGate.testBit 0 && ch.encB == io.idxGate.testBit 1)
  if (level != ch.idx) && active && gate then
    Ops.countDie 3 0 18 1 (s.setChan a (match ch.cap with
      | none => { ch1 with cap := some (capture ch true t s) }
      | some _ => { ch1 with capMore := ch.capMore + 1 }))
  else s.setChan a ch1

/-- SWITCH_EDGE (R206): a raw edge of a switch input; one before it whose DEBOUNCE_US has passed has qualified. -/
def switchEdge (a : Nat) (sw : Switch) (level : Bool) (t : Instant) (s : State) : State :=
  let io := (s.axis a).io
  if level == ((s.chan a).input sw).raw then s
  else
    let e := capture (s.chan a) (level != io.lowActive sw) t s
    let ch := (s.chan a).qualify io sw (e.ctime - 1)
    Ops.countDie 3 0 18 1 (s.setChan a (ch.setInput { ch.input sw with raw := level, cand := some e } sw))

/-- SWITCH_EDGE_QUALIFIED (R206): the level of the last raw edge has held through DEBOUNCE_US at an instant. -/
def switchEdgeQualified (a : Nat) (sw : Switch) (t : Instant) (s : State) : State :=
  s.setChan a ((s.chan a).qualify (s.axis a).io sw ((s.tm.edge t : Int) - s.tm.steps))

/-- Inserts a qualified edge into a list ordered by control time, limit before home (R214). -/
def insertEdge (q : Switch × Edge) : List (Switch × Edge) → List (Switch × Edge)
  | [] => [q]
  | r :: t => if q.2.ctime < r.2.ctime ∨ (q.2.ctime = r.2.ctime ∧ switchRank q.1 < switchRank r.1) then q :: r :: t
      else r :: insertEdge q t

/-- The reaction to `n` encoder errors of an axis (R200, R497, Table 5-5). Log: 41 (DEDUCED, unsafe). -/
def encErrors (a n : Nat) (s : State) : State :=
  if n = 0 then s
  else
    let x := s.axis a
    let x1 := { x with encErrors := Bits.satAdd 16 x.encErrors n, referenced := false, safeRef := none }
    let x2 := match x1.homing with
      | some h => if h.phase == .start || h.phase == .ending then x1
          else { x1 with homing := some { h with outcome := 6, phase := .failing } }
      | none => x1
    let s1 := Ops.raiseLimitedBy n Event.encError (mkSrc 1 1 a) 0 { s.setAxis a x2 with mot.encErr := true }
    if x.lim.refReq && !x.standstill && x.homing.isNone then Mot.axisFault a s1 else s1

/-- The FID's latch at a frame boundary, and the control dies' reading of it (R190, R201, R205, R206). -/
def latch (s0 : State) : State :=
  (used s0).foldl (fun s a =>
    let x := s.axis a
    let now := s.tm.control
    let ch := [Switch.limitPos, .limitNeg, .home].foldl (fun ch sw =>
      if (ch.input sw).cand.any fun e => decide (e.ctime < now) then ch.qualify x.io sw now else ch) (s.chan a)
    let d := Bits.signed 32 (Bits.unsigned 32 ((ch.c : Int) - x.cLast))
    let on := s.enabled 0
    let homing := x.homing.isSome && on
    let x1 := { x with
      e := Bits.fit 64 (x.e + d), cLast := ch.c
      lostSteps := Bits.satAdd 16 x.lostSteps ch.lost
      index := if homing then x.index ++ ch.cap.toList else [], idxMore := ch.capMore
      edges := if on then ch.qual.foldl (fun l e => insertEdge e l) x.edges else [] }
    let ch1 := { ch with gN := ch.n, gPhi := ch.phi, gNeg := ch.neg, cap := none, capMore := 0, qual := [], lost := 0, errs := 0 }
    let s1 := (s.setChan a ch1).setAxis a x1
    let s2 := Nat.repeat (Ops.raiseLimitedWith Event.stepLost (mkSrc 1 1 a) 0 0) ch.lost
      (if ch.lost = 0 then s1 else { s1 with mot.stepLost := true })
    encErrors a ch.errs s2) s0

/-- The axis configuration in the arguments of AXIS_IO, when every field is in range (Table 5-1). -/
def ioOf (c : Cmd) : Option AxIo :=
  let x : AxIo :=
    { output := Arg.u c 0 1, stepWidth := Arg.u c 1 1, flags := Arg.u c 2 1, idxGate := Arg.u c 3 1, encFilt := Arg.u c 4 1
      swPol := Arg.u c 5 1, debounceUs := Arg.u c 6 2, num := Arg.s c 8 4, den := Arg.u c 12 4, feLimit := Arg.u c 16 4
      feTicks := Arg.u c 20 1 }
  if x.output ≤ 2 ∧ 2 ≤ x.stepWidth ∧ x.stepWidth ≤ 50 ∧ 1 ≤ x.encFilt ∧ x.encFilt ≤ 8 ∧ x.debounceUs ≤ 10000 ∧
      x.num ≠ 0 ∧ 1 ≤ x.den ∧ x.den ≤ 2 ^ 31 ∧ 1 ≤ x.feTicks then some x else none

/-- AXIS_IO (R188): a new configuration loses the axis's safety reference (R497). -/
def axisIo (c : Cmd) (s : State) : Reply :=
  let a := c.unit
  let x := s.axis a
  match Mot.cfgReason s x with
  | some r => .refuse r
  | none =>
    match ioOf c with
    | none => .refuse 0x1C
    | some io => .config 0 (s.setAxis a { x with io := io, safeRef := none })

/-- The result of ENCODER_STATUS as the axis stands (Table 5-7). -/
def encoderOf (x : Axis) (ch : Channel) : Nat :=
  let lb := x.io.flags.testBit 6 && (ch.limPos.active || ch.limNeg.active)
  Bits.unsigned 64 (actualPos x ch) + x.encErrors * 2 ^ 64 + x.lostSteps * 2 ^ 80 +
    Bits.unsigned 16 (Bits.sat 16 (wholeCounts x.fe)) * 2 ^ 96 +
    (Bits.b2n ch.limPos.active + 2 * Bits.b2n ch.limNeg.active + 4 * Bits.b2n ch.home.active +
      8 * Bits.b2n ch.idx + 16 * Bits.b2n ch.encA + 32 * Bits.b2n ch.encB) * 2 ^ 112 +
    (Bits.b2n x.referenced + 2 * Bits.b2n lb + 4 * Bits.b2n ch.held.isSome) * 2 ^ 120

/-- ENCODER_STATUS (R215), as of the last servo tick boundary, or as it stands while MOTION is not enabled; 0 before MOTION
first takes effect (R187). Log: 38 (DEDUCED, unsafe). -/
def encoderStatus (c : Cmd) (s : State) : Reply :=
  let x := s.axis c.unit
  .done s (if !s.mot.everOn then 0 else if s.enabled 0 then x.shownEnc else encoderOf x (s.chan c.unit))

/-- What AXIS_STATUS and ENCODER_STATUS answer until the next servo tick boundary (R184, R215).
Log: 38 (DEDUCED, unsafe). -/
def latchShown (s : State) : State :=
  (used s).foldl (fun t a =>
    let x := s.axis a
    t.setAxis a { x with shownStat := Mot.statusOf x s.tm.control, shownEnc := encoderOf x (s.chan a) }) s

/-- AXISIO_STATUS (Table 5-8). -/
def status (s : State) : Nat :=
  let ax := s.mot.axes.map (·.2)
  (ax.filter (·.referenced)).length + Bits.b2n s.mot.stepLost * 2 ^ 7 +
    (s.mot.chans.filter fun q => q.2.limPos.active || q.2.limNeg.active).length * 2 ^ 8 + Bits.b2n s.mot.encErr * 2 ^ 15 +
    (ax.filter (·.isHoming)).length * 2 ^ 16 + Bits.b2n s.mot.rateClamp * 2 ^ 23

/-- A W1C write to AXISIO_STATUS (R216). -/
def statusWrite (v : Nat) (s : State) : State :=
  { s with mot.stepLost := s.mot.stepLost && !v.testBit 7, mot.encErr := s.mot.encErr && !v.testBit 15
           mot.rateClamp := s.mot.rateClamp && !v.testBit 23 }

end AxisIo

end Sys2Proof.Machine
end

