-- ==== Sys2Proof/Machine/Outputs.lean ====
section
/-!
DEFINITION. Valve outputs with their test pulses, PWM outputs, and the trigger inputs and outputs (R516 to R525, R639).
-/

namespace Sys2Proof.Machine

/-- A valve. -/
def State.valve (s : State) (v : Nat) : Valve := Tab.get s.out.valves v

/-- Replaces a valve. -/
def State.setValve (s : State) (v : Nat) (x : Valve) : State := { s with out.valves := Tab.set s.out.valves v x }

/-- A PWM output. -/
def State.pwm (s : State) (n : Nat) : Pwm := Tab.get s.out.pwm n

/-- Replaces a PWM output. -/
def State.setPwm (s : State) (n : Nat) (x : Pwm) : State := { s with out.pwm := Tab.set s.out.pwm n x }

/-- A safety output pair. -/
def State.safeOut (s : State) (k : Nat) : SafeOut := Tab.get s.saf.outs k

/-- Replaces a safety output pair. -/
def State.setSafeOut (s : State) (k : Nat) (x : SafeOut) : State := { s with saf.outs := Tab.set s.saf.outs k x }

namespace PulseTest

/-- What a boundary does to an output's test: outputs going live begin T_last, outputs off or a change of state end a test
in progress (R517, Table 14-5). -/
def boundary (t : PulseTest) (p : Nat) (goLive live changed allowed : Bool) : PulseTest :=
  let t1 := if goLive then { t with last := p } else t
  let t2 := if live && allowed then t1 else { t1 with run := none }
  if changed then { t2 with change := p, run := none } else t2

/-- Whether a test may start at lattice point `p` (R517): period, minimum gap in lattice points. -/
def due (t : PulseTest) (p period gap : Nat) : Bool :=
  t.run.isNone && decide (t.last + period / 2 ≤ p) &&
    decide (t.change + (if p < t.last + period then 10 * gap else gap) ≤ p)

end PulseTest

namespace Out

/-- What R517 to R522 need of a tested output: parameters in lattice points, its state and whether it is tested. -/
structure Tested where
  test : PulseTest
  on : Bool
  testEn : Bool
  /-- Its readback is judged. -/
  watched : Bool
  locked : Bool
  period : Nat
  offP : Nat
  onP : Nat
  gap : Nat
  rb : Nat
  /-- Locator bits [22:8]. -/
  src : Nat
  safety : Bool
  deriving DecidableEq, Repr

/-- The parameters and state of a tested output. -/
def tested (s : State) : TestedOut → Tested
  | .valve v =>
    let x := s.valve v.val
    { test := x.test, on := x.on, testEn := s.enabled 8 && x.cfg.testEn && decide (x.cfg.drive ≠ 0)
      watched := s.enabled 8 && x.cfg.rbEn && decide (x.cfg.drive ≠ 0), locked := x.locked
      period := x.cfg.periodMs * 400000, offP := x.cfg.offUs * 400, onP := x.cfg.onUs * 400, gap := x.cfg.gapUs * 400
      rb := x.cfg.rbUs * 400, src := mkSrc 3 1 v.val, safety := false }
  | .safety k b2 =>
    let x := s.safeOut k.val
    let g := Tab.get s.saf.cfg 0
    let o := Tab.get s.saf.cfg (17 + k.val)
    let en := s.enabled 7 && decide (o % 256 ≠ 0) && o.testBit 9
    { test := if b2 then x.test2 else x.test1, on := if b2 then x.on2 else x.on1, testEn := en, watched := en
      locked := x.lockTest || x.lockEdm
      period := Bits.field g 31 16 * 400000, offP := Bits.field g 47 32 * 400, onP := Bits.field g 63 48 * 400
      gap := Bits.field g 79 64 * 400, rb := Bits.field g 103 96 * 400, src := mkSrc 3 3 (16 + k.val), safety := true }

/-- Replaces the test state of an output. -/
def setTest (o : TestedOut) (t : PulseTest) (s : State) : State :=
  match o with
  | .valve v => s.setValve v.val { s.valve v.val with test := t }
  | .safety k b2 =>
    let x := s.safeOut k.val
    s.setSafeOut k.val (if b2 then { x with test2 := t } else { x with test1 := t })

/-- Locks an output off: a valve by its own bit, a safety output on both balls (R518). -/
def lock (o : TestedOut) (s : State) : State :=
  match o with
  | .valve v => s.setValve v.val { s.valve v.val with locked := true }
  | .safety k _ => s.setSafeOut k.val { s.safeOut k.val with lockTest := true }

/-- Whether another output of the cluster is under test; the balls of all safety outputs lie in one cluster (R517). -/
def clusterBusy (s : State) : TestedOut → Bool
  | .valve v => s.out.valves.any fun q => decide (q.1 / 8 = v.val / 8) && q.2.test.run.isSome
  | .safety _ _ => s.saf.outs.any fun q => q.2.test1.run.isSome || q.2.test2.run.isSome

/-- OUTPUT_TEST_START (R517). -/
def testStart (o : TestedOut) (t : Instant) (s : State) : State :=
  let x := tested s o
  let p := s.tm.point t
  if x.testEn && s.out.live && s.stepsOn && !x.locked && !clusterBusy s o && x.test.due p x.period x.gap then
    setTest o { x.test with run := some p } s
  else s

/-- OUTPUT_TEST_END (R518): `pulseRead` and `afterRead` tell whether the two readings are right.
Log: 71 (DEDUCED, unsafe). -/
def testEnd (o : TestedOut) (pulseRead afterRead : Bool) (t : Instant) (s : State) : State :=
  let x := tested s o
  match x.test.run with
  | none => s
  | some st =>
    let fin := st + (if x.on then x.offP else x.onP) + x.rb
    if s.tm.point t < fin then s
    else
      let s1 := setTest o { x.test with run := none, last := fin, untested := false } s
      if pulseRead && afterRead then s1
      else Ops.raiseMid (Event.outputTestFail x.safety) x.src x.src 0 (lock o s1)

/-- OUTPUT_READBACK (R519): outside a test, a difference that has lasted RB_US, none of it within RB_US of a state change. -/
def readback (o : TestedOut) (t : Instant) (s : State) : State :=
  let x := tested s o
  if x.watched && x.test.run.isNone && !x.locked && decide (x.test.change + 2 * x.rb ≤ s.tm.point t) then
    Ops.raiseMid (Event.outputReadback x.safety) x.src x.src 0 (lock o s)
  else s

/-- OUTPUT_UNTESTED (R521): once. Log: 71 (DEDUCED, unsafe). -/
def untested (o : TestedOut) (t : Instant) (s : State) : State :=
  let x := tested s o
  if x.testEn && s.out.live && !x.test.untested && decide (x.test.last + 2 * x.period ≤ s.tm.point t) then
    Ops.raiseMid (Event.outputUntested x.safety) x.src x.src 0 (setTest o { x.test with untested := true } s)
  else s

/-- VALVE_FAULT_CLEAR (R522): a lock stays while the readback still senses on. -/
def valveFaultClear (hi : Bool) (value : Nat) (s : State) : State :=
  let base := if hi then 32 else 0
  { s with out.valves := Tab.mapVals s.out.valves fun v x =>
      if decide (base ≤ v) && decide (v < base + 32) && value.testBit (v - base) && !s.out.readback.testBit v then { x with locked := false }
      else x }

/-- A bit for each valve from `base` on. -/
def valveBits (s : State) (base : Nat) (f : Valve → Bool) : Nat :=
  ((List.range 32).map fun i => if f (s.valve (base + i)) then 2 ^ i else 0).sum

/-- High time from a duty in units of 2^-32 (Table 9-5 kind 4). -/
def setDuty (n duty : Nat) (s : State) : State :=
  let x := s.pwm n
  s.setPwm n { x with h := (Bits.roundDiv ((duty : Int) * x.period) (2 ^ 32)).toNat }

/-- High time from a loop output: mantissa and exponent (Table 6-4). -/
def loopHigh (period : Nat) (m e : Int) : Nat :=
  if m ≤ 0 then 0
  else if decide ((2 ^ 23 : Int) ≤ m * 2 ^ e.toNat ∧ 0 ≤ e) then period
  else (min (Bits.scale2 (m * period) (e - 23)) period).toNat

/-- Loop-driven high times take the values their output maps delivered; SAFE_STOP holds the last one (R233, Table 3-2). -/
def pwmFromLoops (s : State) : State :=
  if decide (s.md.mode = .safeStop) || !s.enabled 9 then s
  else
    { s with out.pwm := Tab.mapVals s.out.pwm fun n x =>
        match decide (x.drive = 1), Tab.get s.loop.pwm n with
        | true, some (m, e) => { x with h := loopHigh x.period m e }
        | _, _ => x }

/-- The level of a PWM ball (R31, R106, R524). -/
def pwmPin (s : State) (n : Nat) (x : Pwm) : Pwm :=
  { x with pin := x.high && s.stepsOn && s.enabled 9 && decide (x.drive ≠ 0) && !s.fidDown 1 (64 + n) }

/-- PWM_PERIOD_START (R523, R524). Log: 77 (DEDUCED, unsafe). -/
def periodStart (n : Nat) (t : Instant) (s : State) : State :=
  let x := s.pwm n
  let p := s.tm.point t
  let at_ : Option Nat := match x.start with
    | none => if t.lp = 0 then some p else none
    | some st =>
      if x.sync && decide (t.lp = 0) && decide (st ≠ p) && s.tm.due (2 ^ x.syncN) 0 then some p
      else if st + x.period ≤ p then some (st + x.period)
      else none
  match at_ with
  | some q =>
    if s.enabled 9 && decide (x.drive ≠ 0) then
      Adc.pwmEvent n 0 q (s.setPwm n (pwmPin s n { x with start := some q, cur := x.h, high := decide (x.h ≠ 0) }))
    else s
  | none => s

/-- PWM_HIGH_END (R524). Log: 77 (DEDUCED, unsafe). -/
def highEnd (n : Nat) (t : Instant) (s : State) : State :=
  let x := s.pwm n
  let p := s.tm.point t
  match x.start with
  | none => s
  | some st =>
    if x.high && decide (x.cur < x.period) && decide (st + x.cur ≤ p) then
      Adc.pwmEvent n 1 (st + x.cur) (s.setPwm n (pwmPin s n { x with high := false }))
    else s

/-- Takes an accepted level (R639). -/
def TrigIn.accept (x : TrigIn) (e : TrigEdge) : TrigIn :=
  if e.level = x.now then { x with cand := none } else { x with now := e.level, cand := none, fresh := x.fresh ++ [e] }

/-- TRIG_IN_EDGE (R97, R639): a level is accepted when it has held for eight lattice samples. -/
def trigInEdge (n : Nat) (level : Bool) (t : Instant) (s : State) : State :=
  if !s.tm.lock then s
  else
    let p := s.tm.point t
    let x0 := Tab.get s.out.trigIn n
    let x1 := match x0.cand with
      | some (at_, e) => if at_ ≤ p then TrigIn.accept x0 e else { x0 with cand := none }
      | none => x0
    let time := s.tm.edge t
    let e : TrigEdge := { level := level, time := time }
    let x2 := if level = x1.now then x1 else { x1 with cand := some (p + 8, e) }
    { s with out.trigIn := Tab.set s.out.trigIn n x2 }

/-- The boundary's latching of the trigger inputs, after the boundary's lattice point is known (R639). -/
def latchTrig (s : State) : State :=
  { s with out.trigIn := Tab.mapVals s.out.trigIn fun _ x =>
      let x1 := match x.cand with
        | some (at_, e) => if at_ ≤ s.tm.lp then TrigIn.accept x e else x
        | none => x
      { x1 with level := x1.now, edges := x1.fresh, fresh := [] } }

/-- The TRIG_OUT balls that no fault holds off (R31). -/
def trigMask (s : State) : Nat := ((List.range 4).map fun k => if s.fidDown 1 (104 + k) then 0 else 2 ^ k).sum

/-- The PWM, TRIG_OUT and axis balls as outputs and faults stand (R31, R106). -/
def drive (trig : Nat) (s : State) : State :=
  AxisIo.drivePins { s with out.trigOut := trig &&& trigMask s, out.pwm := Tab.mapVals s.out.pwm (pwmPin s) }

/-- A fault drives the balls of its extent off at once (R31). -/
def faultOff (s : State) : State :=
  drive s.out.trigOut { s with
    out.valves := Tab.mapVals s.out.valves fun v x =>
      if s.fidDown 1 v then { x with on := false, test := { x.test with run := none } } else x
    saf.outs := Tab.mapVals s.saf.outs fun k x =>
      if s.fidDown 3 (16 + k) then
        { x with on1 := false, on2 := false, test1 := { x.test1 with run := none }, test2 := { x.test2 with run := none } }
      else x
    saf.edmSince := s.saf.outs.foldl (fun e q =>
      if !s.fidDown 3 (16 + q.1) then e
      else
        let e1 := if q.2.on1 then Tab.set e (2 * q.1) s.tm.control else e
        if q.2.on2 then Tab.set e1 (2 * q.1 + 1) s.tm.control else e1) s.saf.edmSince }

/-- The outputs the FID drives from this boundary on (R16, R106, R516). Log: 70 (DEDUCED, unsafe). -/
def apply (s : State) : State :=
  let live := s.stepsOn
  let goLive := live && !s.out.live
  let en := s.enabled 8
  let valves := Tab.mapVals s.out.valves fun v x =>
    let on := live && en && decide (x.cfg.drive ≠ 0) && x.cmd && !x.locked && !s.fidDown 1 v
    { x with on := on, test := x.test.boundary s.tm.lp goLive live (on != x.on) (en && !x.locked) }
  drive (if live then s.out.trigCmd else 0) { s with out.valves := valves, out.live := live }

/-- VALVE takes effect or stops (R134). -/
def valveEnable (s : State) : State :=
  { s with out.valves := Tab.mapVals s.out.valves fun _ x => { x with cmd := false } }

/-- PWM takes effect: high times start at 0 and the first periods start at this boundary (R523). -/
def pwmEnable (s : State) : State :=
  { s with out.pwm := Tab.mapVals s.out.pwm fun _ x => { x with h := 0, cur := 0, start := none, high := false } }

/-- One entry of VALVE_CFG; the pulse parameters are judged with TEST_EN set (R529). -/
def valveEntry (c : Cmd) (j : Nat) : Option ValveCfg :=
  let o := 4 + 12 * j
  let fl := Arg.u c (o + 1) 1
  let g : ValveCfg :=
    { drive := Arg.u c o 1, testEn := fl.testBit 0, rbEn := fl.testBit 1, periodMs := Arg.u c (o + 2) 2
      offUs := Arg.u c (o + 4) 2, onUs := Arg.u c (o + 6) 2, gapUs := Arg.u c (o + 8) 2, rbUs := Arg.u c (o + 10) 1 }
  if 2 < g.drive then none
  else if !g.testEn then some g
  else if g.rbEn ∧ 10 ≤ g.periodMs ∧ g.periodMs ≤ 10000 ∧ 200 ≤ g.offUs ∧ g.offUs ≤ 1000 ∧ 50 ≤ g.onUs ∧ g.onUs ≤ 200 ∧
      100 ≤ g.gapUs ∧ g.gapUs ≤ 10000 ∧ 1 ≤ g.rbUs ∧ g.rbUs < g.onUs then some g
  else none

/-- Reserved bytes and flag bits of VALVE_CFG are zero. Log: 71 (DEDUCED, unsafe), 76 (DEDUCED, unsafe). -/
def valveFormat (c : Cmd) : Bool :=
  let n := Arg.u c 1 1
  Arg.zero c 2 2 && Arg.zeroFrom c 40 &&
    (List.range 3).all (fun j => Arg.zero c (15 + 12 * j) 1 && decide (Arg.u c (5 + 12 * j) 1 < 4)) &&
    (decide (n = 0) || decide (3 < n) || Arg.zeroFrom c (4 + 12 * n))

/-- VALVE_CFG (R516). -/
def valveCfg (c : Cmd) (s : State) : Reply :=
  let first := Arg.u c 0 1
  let n := Arg.u c 1 1
  let es := (List.range n).filterMap (valveEntry c)
  if n = 0 || decide (3 < n) || decide (64 < first + n) || decide (es.length ≠ n) then .refuse 0x68
  else
    .config 8 ((List.range n).foldl (fun s j =>
      let x := s.valve (first + j)
      s.setValve (first + j) { x with cfg := es.getD j {} }) s)

/-- One entry of PWM_CFG: DRIVE, SYNC, SYNC_N and PERIOD_LP. -/
def pwmEntry (c : Cmd) (j : Nat) : Option Pwm :=
  let o := 4 + 8 * j
  let g : Pwm := { drive := Arg.u c o 1, sync := (Arg.u c (o + 1) 1).testBit 0, syncN := Arg.u c (o + 2) 1
                   period := Arg.u c (o + 4) 4 }
  if g.drive ≤ 3 ∧ g.syncN ≤ 10 ∧ (g.drive = 0 ∨ 8 ≤ g.period ∧ g.period ≤ 16777216) then some g else none

/-- Reserved bytes and flag bits of PWM_CFG are zero. Log: 76 (DEDUCED, unsafe). -/
def pwmFormat (c : Cmd) : Bool :=
  let n := Arg.u c 1 1
  Arg.zero c 2 2 && Arg.zeroFrom c 36 &&
    (List.range 4).all (fun j => Arg.zero c (7 + 8 * j) 1 && decide (Arg.u c (5 + 8 * j) 1 < 2)) &&
    (decide (n = 0) || decide (4 < n) || Arg.zeroFrom c (4 + 8 * n))

/-- PWM_CFG (R523): an output configured while PWM is enabled starts its first period at this boundary. -/
def pwmCfg (c : Cmd) (s : State) : Reply :=
  let first := Arg.u c 0 1
  let n := Arg.u c 1 1
  let es := (List.range n).filterMap (pwmEntry c)
  if n = 0 || decide (4 < n) || decide (32 < first + n) || decide (es.length ≠ n) then .refuse 0x69
  else .config 9 ((List.range n).foldl (fun s j => s.setPwm (first + j) (es.getD j {})) s)

/-- The PWM check's own codes: a synchronised period longer than its interval (R523, R132). -/
def checkPwm (s : State) : Option (Nat × Nat) :=
  (s.out.pwm.find? fun q => q.2.sync && decide (q.2.drive ≠ 0) && decide (6248 * 2 ^ q.2.syncN < q.2.period)).map
    fun q => (0x69, mkLoc s.nodeId 3 1 (64 + q.1) 0)

end Out

end Sys2Proof.Machine
end

