-- ==== Sys2Proof/Machine/Safe.lean ====
section
/-!
DEFINITION. The Safety region: inputs, axis monitoring, SS1 and STO, release, loss of a channel, and the safety configuration
(R487 to R515, R526 to R528). Both channels hold equal state (R491): it is held once.
-/

namespace Sys2Proof.Machine

/-- Whether safety channel `c`, 1 or 2, is present (R507). -/
def State.channel (s : State) (c : Nat) : Bool := if c = 1 then s.pair.cda.channel else s.pair.cdb.channel

namespace Safe

/-- A field of an element's 48 argument bytes. -/
def fld (w off len : Nat) : Nat := (w >>> (8 * off)) % 2 ^ (8 * len)

/-- A signed field. -/
def fldS (w off len : Nat) : Int := Bits.signed (8 * len) (fld w off len)

/-- SAFETY_GLOBAL. -/
def glob (g : SafeCfg) : Nat := Tab.get g 0
/-- SAFETY_INPUT of input `k`. -/
def inp (g : SafeCfg) (k : Nat) : Nat := Tab.get g (1 + k)
/-- SAFETY_OUTPUT of output `k`. -/
def outp (g : SafeCfg) (k : Nat) : Nat := Tab.get g (17 + k)
/-- SAFETY_AXIS of axis `a`. -/
def axis (g : SafeCfg) (a : Nat) : Nat := Tab.get g (25 + a)
/-- SAFETY_SLP of axis `a`. -/
def slp (g : SafeCfg) (a : Nat) : Nat := Tab.get g (89 + a)

/-- ROLE of output `k`. -/
def role (g : SafeCfg) (k : Nat) : Nat := fld (outp g k) 0 1
/-- GROUP of axis `a`. -/
def group (g : SafeCfg) (a : Nat) : Nat := fld (axis g a) 1 1
/-- SS1_DEC, Q40.24. -/
def dec (w : Nat) : Int := fldS w 24 8
/-- SS1_JERK, Q48.16. -/
def jerk (w : Nat) : Int := fldS w 32 8
/-- SPEED_WIN. -/
def win (g : SafeCfg) : Nat := max 1 (fld (glob g) 1 1)

/-- The axes that take part through SAFETY_AXIS. -/
def monitored (g : SafeCfg) : List Nat := (List.range 64).filter fun a => axis g a ≠ 0

/-- The axes of output `k`'s group. -/
def axesOf (g : SafeCfg) (k : Nat) : List Nat := (monitored g).filter fun a => group g a = k

/-- The safety CRC (R514). -/
def crc (g : SafeCfg) : Nat := Crypto.crc32c ((List.range 153).flatMap fun i => Bits.toLe 48 (Tab.get g i))

/-- Degraded time in frames (R120, R508). Log: 33 (DEDUCED, unsafe). -/
def degFrames (s : State) : Nat :=
  let d := fld (glob s.saf.cfg) 0 1
  (if d = 0 then 10 else d) * 64000

/-! Inputs. -/

/-- Whether an input is demanded by ball `c`: its accepted level is not the healthy one (R492).
Log: 73 (DEDUCED, unsafe). -/
def ballDemand (w : Nat) (x : SafeIn) (c : Nat) : Bool :=
  match if c = 1 then x.lat1 else x.lat2 with
  | none => true
  | some lev => if decide (c = 2) && decide (fld w 1 1 = 1) then lev else !lev

/-- Whether input `k` is demanded in some present channel (R488, R490), `disc` being what a discrepancy counts as.
Log: 73 (DEDUCED, unsafe). -/
def inputDemand (s : State) (k : Nat) (disc : SafeIn → Bool) : Bool :=
  let w := inp s.saf.cfg k
  let x := Tab.get s.saf.ins k
  (s.channel 1 && ballDemand w x 1) || (s.channel 2 && ballDemand w x 2) || disc x

/-- Whether the accepted levels of the two balls disagree (R492). Log: 73 (DEDUCED, unsafe). -/
def disagrees (w : Nat) (x : SafeIn) : Bool :=
  let y := { x with lat1 := x.lev1, lat2 := x.lev2 }
  x.lev1.isSome && x.lev2.isSome && (ballDemand w y 1 != ballDemand w y 2)

/-- SAFETY_INPUT_ACCEPT: a ball's level that has held for `held` lattice points is accepted once these are FILT_US (R492). -/
def inputAccept (k : Nat) (ball2 level : Bool) (held : Nat) (t : Instant) (s : State) : State :=
  let x := Tab.get s.saf.ins k
  let w := inp s.saf.cfg k
  let x1 := if ball2 then { x with lev2 := some level } else { x with lev1 := some level }
  let x2 := { x1 with since := if disagrees w x1 then some (x.since.getD (s.tm.point t)) else none }
  if s.tm.lock && decide (fld w 2 2 * 400 ≤ held) then { s with saf.ins := Tab.set s.saf.ins k x2 } else s

/-- SAFETY_DISCREPANCY: the levels have disagreed for DISC_MS (R492). -/
def discrepancy (k : Nat) (t : Instant) (s : State) : State :=
  let w := inp s.saf.cfg k
  let x := Tab.get s.saf.ins k
  match x.since with
  | none => s
  | some p =>
    if s.enabled 7 && decide (fld w 0 1 ≠ 0) && !x.disc &&
        decide (p + fld w 4 2 * 400000 ≤ s.tm.point t) then
      Ops.raiseMid Event.safetyDiscrepancy (mkSrc 1 6 k) k 0
        { s with saf.ins := Tab.set s.saf.ins k { x with disc := true, discSeen := false } }
    else s

/-- The boundary's latching of the safety inputs and the EDM inputs (R490). -/
def latch (edm : Nat) (s : State) : State :=
  { s with saf.ins := Tab.mapVals s.saf.ins fun _ x => { x with lat1 := x.lev1, lat2 := x.lev2 }, saf.edm := edm }

/-- The outputs a stop-demand input demands: those of GROUPS, with GLOBAL every one (R493). -/
def actsOn (w k : Nat) : Bool := (fld w 6 1).testBit k || (fld w 7 1).testBit 0

/-- One input's part of the verdict (R492 to R494). -/
def judgeInput (s : State) (k : Nat) : State :=
  let w := inp s.saf.cfg k
  let f := fld w 0 1
  if f = 0 then s
  else
    let x := Tab.get s.saf.ins k
    let now := inputDemand s k (·.disc)
    let x1 := { x with demanded := now
                       discSeen := x.discSeen || (x.disc && ballDemand w x 1 && ballDemand w x 2) }
    let s1 := { s with saf.ins := Tab.set s.saf.ins k x1 }
    if f = 1 then
      let s2 := if now && !x.demanded then
          let s2 := Ops.raiseMid Event.safetyDemand (mkSrc 1 6 k) k 0 s1
          if (fld w 7 1).testBit 0 then { s2 with md.stopCauses := s2.md.stopCauses ++ [5] } else s2
        else s1
      if now then
        { s2 with saf.next := s2.saf.next ++ ((List.range 8).filter (actsOn w)).map fun j =>
            (j, LatchSrc.input k, (fld w 7 1).testBit 1 && (fld w 6 1).testBit j) }
      else s2
    else if f = 5 then (if x.demanded && !now then { s1 with saf.ackNext := true } else s1)
    else s1

/-- What the selecting inputs select for axis `a`: bit 0 SLS, 1 SDI positive, 2 SDI negative (R494). -/
def selOf (s : State) (a : Nat) : Nat :=
  ([2, 3, 4].map fun f =>
    if (List.range 16).any fun k =>
        decide (fld (inp s.saf.cfg k) 0 1 = f) && (fld (inp s.saf.cfg k) 8 8).testBit a &&
          (Tab.get s.saf.ins k).demanded
    then 2 ^ (f - 2) else 0).sum

/-! Axis monitoring. -/

/-- Speed over the window, rounded away from zero to whole counts/s and saturated (R496). -/
def speed (d : Int) (w : Nat) : Int :=
  let q : Int := (d.natAbs * 64000 + (w * 2 ^ 24 - 1)) / (w * 2 ^ 24 : Nat)
  Bits.sat 32 (if d < 0 then -q else q)

/-- P_e and P_c at the boundary, Q40.24 (R496, R497). -/
def positions (s : State) (a : Nat) : Int × Int :=
  let x := s.axis a
  let os : Int := match x.safeRef with
    | some (hp, e, _) => Bits.fit 64 (hp - Bits.roundDiv (e * x.io.num * 2 ^ 24) x.io.den)
    | none => 0
  let pe := os + Bits.roundDiv (x.e * x.io.num * 2 ^ 24) x.io.den
  let c := if x.io.output = 2 then x.p - x.o else (s.chan a).gN * 2 ^ 24
  (Bits.fit 64 pe, Bits.fit 64 (os + c))

/-- Whether `v` lies under max(floor, v0 + TOL_V − SS1_DEC × max(0, t − SS1_DEC / SS1_JERK − (T + W) frames)), exactly: `t`
in 1/256 ns, `tw` = T + W (R500, Table 14-2). -/
def under (w : Nat) (floor v0 v : Int) (t : Int) (tw : Nat) : Bool :=
  let d := dec w
  let j := jerk w
  let den : Int := 256000000000 * j
  let lag := t * j - d * 1000000000 - (tw : Int) * 4000000 * j
  decide (v ≤ floor) || decide ((v - v0 - (fld w 12 4 : Nat)) * 2 ^ 24 * den + d * max 0 lag ≤ 0)

/-- s_stop(v) in whole counts, rounded up (R501). -/
def stopDist (w : Nat) (v : Int) : Int :=
  let d := dec w
  let j := jerk w
  let num := v * v * 2 ^ 32 * j + v.natAbs * d * d
  let den := 512 * d * j
  (num + den - 1) / den

/-- Whether SLP holds for one source (Table 14-2). -/
def slpOk (w z : Nat) (p v : Int) : Bool :=
  let neg := fldS z 0 8
  let pos := fldS z 8 8
  let d := stopDist w v * 2 ^ 24
  decide (neg ≤ p) && decide (p ≤ pos) && (decide (v ≤ 0) || decide (p + d ≤ pos)) && (decide (0 ≤ v) || decide (neg ≤ p - d))

/-- v_m (R496). -/
def vm (y : SafeAxis) : Int := max y.ve.natAbs y.vc.natAbs

/-- Demands the group of axis `a` at the next boundary. -/
def demandNext (g : SafeCfg) (a : Nat) (src : LatchSrc) (sto : Bool) (s : State) : State :=
  { s with saf.next := s.saf.next ++ [(group g a, src, sto)] }

/-- The limit functions of an axis that are active with the conditions that hold, bit by bit: SLS, SLP, SDI (Table 14-2),
and the axis with the references of the functions renewed. -/
def limits (s : State) (a : Nat) (w z : Nat) (pe pc : Int) (y : SafeAxis) : SafeAxis × Nat :=
  let fn := fld w 0 1
  let sel := y.sel ||| y.selIn
  let tw := s.tickFrames + win s.saf.cfg
  let slsOn := fn.testBit 0 && sel.testBit 0
  let sls : Option SlsRun := if slsOn then some (y.sls.getD { va := vm y, t0 := s.tm.control }) else none
  let badSls := match sls with
    | some r => !under w (fld w 4 4) r.va (vm y) (s.tm.control - r.t0) tw
    | none => false
  let badSlp := fn.testBit 1 &&
    (if (s.axis a).safeRef.isSome then !(slpOk w z pe y.ve && slpOk w z pc y.vc)
     else decide ((fld z 16 4 : Int) < vm y))
  let tol : Int := (fld w 20 4 : Int) * 2 ^ 24
  let pos : Option SdiRun := if fn.testBit 2 && sel.testBit 1 then
      let r := y.sdiPos.getD { e := pe, c := pc }
      some { e := max r.e pe, c := max r.c pc }
    else none
  let neg : Option SdiRun := if fn.testBit 2 && sel.testBit 2 then
      let r := y.sdiNeg.getD { e := pe, c := pc }
      some { e := min r.e pe, c := min r.c pc }
    else none
  let badPos := match pos with
    | some r => decide (pe < r.e - tol) || decide (pc < r.c - tol)
    | none => false
  let badNeg := match neg with
    | some r => decide (r.e + tol < pe) || decide (r.c + tol < pc)
    | none => false
  ({ y with sls := sls, sdiPos := pos, sdiNeg := neg },
    Bits.b2n badSls + 2 * Bits.b2n badSlp + 4 * Bits.b2n (badPos || badNeg))

/-- One axis's part of the verdict (R496 to R501). Log: 74 (DEDUCED, unsafe). -/
def judgeAxis (s : State) (a : Nat) : State :=
  let g := s.saf.cfg
  let w := axis g a
  let y0 := Tab.get s.saf.axes a
  let (pe, pc) := positions s a
  let hist := ((pe, pc) :: y0.hist).take 65
  let old := hist.getD (win g) (hist.getLast?.getD (pe, pc))
  let y1 := { y0 with hist := hist, ve := speed (pe - old.1) (win g), vc := speed (pc - old.2) (win g) }
  let (y2, bad) := limits s a w (slp g a) pe pc y1
  let disc := decide ((fld w 16 4 : Int) * 2 ^ 24 < (pe - pc).natAbs)
  let fresh := (List.range 3).filter fun i => bad.testBit i && !y2.viol.testBit i
  let y3 := { y2 with bad := bad, viol := y2.viol ||| bad, posDisc := y2.posDisc || disc }
  let s1 := { s with saf.axes := Tab.set s.saf.axes a y3 }
  let s2 := fresh.foldl (fun s i =>
    demandNext g a (.limit a) (decide (fld w 2 1 = 1))
      (Ops.raiseMid Event.safetyLimit (mkSrc 1 6 (64 + a)) (a + (i + 1) * 2 ^ 8) 0 s)) s1
  if disc && !y2.posDisc then
    demandNext g a (.pos a) true
      (Ops.raiseMid Event.safetyPosDisc (mkSrc 1 6 (64 + a)) a 0 { s2 with saf.flags := s2.saf.flags ||| 8 })
  else s2

/-- The envelope and the standstill count of a group in SS1 (R500). Log: 74 (DEDUCED, unsafe). -/
def judgeSs1 (s : State) (k : Nat) : State :=
  let g := s.saf.cfg
  let x := s.safeOut k
  match x.ss1 with
  | none => s
  | some r =>
    let axes := axesOf g k
    let v (a : Nat) : Int := vm (Tab.get s.saf.axes a)
    let v0 := r.v0.getD (axes.foldl (fun t a => Tab.set t a (v a)) [])
    let tw := s.tickFrames + win g
    let beyond := axes.filter fun a =>
      !under (axis g a) (fld (axis g a) 8 4) (Tab.get v0 a) (v a) (s.tm.control - r.t0) tw
    let still := !axes.isEmpty && axes.all fun a => decide (v a ≤ (fld (axis g a) 8 4 : Int))
    let x1 := { x with ss1 := some { r with v0 := some v0, still := if still then min (r.still + 1) 8 else 0 }
                       offNext := x.offNext || axes.isEmpty || !beyond.isEmpty }
    let s1 := s.setSafeOut k x1
    beyond.foldl (fun s a => Ops.raiseMid Event.safetySs1Envelope (mkSrc 1 6 (64 + a)) a 0
      { s with saf.flags := s.saf.flags ||| 4 }) s1

/-- Counts a verdict of a channel that rebuilds beside its peer (R509). -/
def rebuild (s : State) : State :=
  if s.pair.st = 1 then
    { s with
      pair.cda.rebuilt := if s.channel 1 || !s.channel 2 then 0 else min (s.pair.cda.rebuilt + 1) 64
      pair.cdb.rebuilt := if s.channel 2 || !s.channel 1 then 0 else min (s.pair.cdb.rebuilt + 1) 64 }
  else s

/-- Forms the combined verdict for the last boundary, once (R490). -/
def evaluate (s : State) : State :=
  if s.saf.judged then s
  else
    let s1 := rebuild { s with saf.judged := true }
    if !s1.enabled 7 || !s1.saf.begun then s1
    else
      let s2 := (List.range 16).foldl judgeInput s1
      let s3 := (monitored s2.saf.cfg).foldl judgeAxis s2
      (List.range 8).foldl judgeSs1 s3

/-- SAFETY_VERDICT_EXCHANGE (R490, R491): `xcomp` is the mask of record fields in which the combined verdicts differ. With a
channel rebuilding, a difference starts its count again (R509). -/
def verdictExchange (xcomp : Nat) (s : State) : State :=
  let s1 := evaluate s
  if xcomp = 0 || !s1.enabled 7 then s1
  else if s1.channel 1 && s1.channel 2 then
    Ops.raiseMid Event.safetyXcomp (mkSrc 1 6 0) xcomp 0
      { s1 with saf.flags := s1.saf.flags ||| 1, md.stopCauses := s1.md.stopCauses ++ [5] }
  else { s1 with pair.cda.rebuilt := 0, pair.cdb.rebuilt := 0 }

/-- SAFETY_CHANNEL_RESTORED (R509). Log: 74 (DEDUCED, unsafe). -/
def channelRestored (c : Nat) (s : State) : State :=
  let n := if c = 1 then s.pair.cda.rebuilt else s.pair.cdb.rebuilt
  if s.channel c || !s.channel (3 - c) || decide (n < 64) || decide (s.pair.st ≠ 1) then s
  else
    let s1 := if c = 1 then { s with pair.cda.channel := true, pair.cda.rebuilt := 0 }
      else { s with pair.cdb.channel := true, pair.cdb.rebuilt := 0 }
    Ops.raiseMid Event.safetyChannelRestored (mkSrc c 6 0) c 0
      { s1 with saf.crc1 := if s1.saf.loaded then crc s1.saf.cfg else 0
                saf.crc2 := if s1.saf.loaded then crc s1.saf.cfg else 0 }

/-- A channel is lost (R507): `cause` is the mode cause 3 or 4, 0 for none; `mid` tells whether it is found between two
boundaries. Log: 68 (DEDUCED, unsafe), 75 (DEDUCED, unsafe). -/
def channelLost (c cause : Nat) (mid : Bool) (s : State) : State :=
  if !s.channel c then s
  else
    -- a channel lost by overrun has its region reset (R28, R509)
    let s0 := if cause = 4 then Ops.regionReset c 6 s else s
    let s1 := if c = 1 then { s0 with pair.cda.channel := false, pair.cda.rebuilt := 0 }
      else { s0 with pair.cdb.channel := false, pair.cdb.rebuilt := 0 }
    if !s1.enabled 7 then s1
    else
      let put := if mid then Ops.raiseMid else Ops.raise
      let s2 := put Event.safetyChannelLost (mkSrc c 6 0) c 0 { s1 with saf.flags := s1.saf.flags ||| 2 }
      if cause = 0 then s2 else { s2 with md.lossCauses := s2.md.lossCauses ++ [cause] }

/-- SS1_STANDSTILL: the eighth consecutive standstill boundary has been seen (R500). -/
def ss1Standstill (k : Nat) (s : State) : State :=
  let x := s.safeOut k
  match x.ss1 with
  | some r => if 8 ≤ r.still then s.setSafeOut k { x with offNext := true } else s
  | none => s

/-- SS1_TIMEOUT: SS1_MAX_MS after r (R500). -/
def ss1Timeout (k : Nat) (s : State) : State :=
  let x := s.safeOut k
  match x.ss1 with
  | some r =>
    if r.t0 + (fld (outp s.saf.cfg k) 2 2 : Int) * 256000000 ≤ s.tm.control then s.setSafeOut k { x with offNext := true }
    else s
  | none => s

/-- SAFETY_EDM_FAULT: an EDM input contradicts its ball (R503). Log: 42 (DEDUCED, unsafe). -/
def edmFault (i : Nat) (t : Instant) (s : State) : State :=
  let k := i / 2
  let x := s.safeOut k
  let on := if i % 2 = 0 then x.on1 else x.on2
  let stuck := if i % 2 = 0 then x.stuck1 else x.stuck2
  let wrong := decide (on = s.saf.edm.testBit i) &&
    decide (Tab.get s.saf.edmSince i + (fld (glob s.saf.cfg) 10 2 : Int) * 256000000 ≤ s.tm.controlAt t)
  if s.enabled 7 && decide (role s.saf.cfg k ≠ 0) && (fld (outp s.saf.cfg k) 1 1).testBit 0 && (stuck || wrong) &&
      !x.lockEdm then
    Ops.raiseMid Event.safetyEdmFault (mkSrc 1 6 (24 + i)) i 0 (s.setSafeOut k { x with lockEdm := true })
  else s

/-! What takes effect at a boundary. -/

/-- Whether an output's group is demanded: latched or locked. -/
def demanded (x : SafeOut) : Bool := !x.latch.isEmpty || x.lockTest || x.lockEdm

/-- What the Motion region is told: bars, the safety ramp, the SLS cap and the SDI bars (R499, R502).
Log: 72 (DEDUCED, unsafe). -/
def bars (s : State) : State :=
  let g := s.saf.cfg
  let live := s.enabled 7
  { s with mot.axes := Tab.modifyAll s.mot.axes (List.range 64) fun a x =>
      let w := axis g a
      let on := live && decide (w ≠ 0)
      let y := Tab.get s.saf.axes a
      let sel := y.sel ||| y.selIn
      let fn := fld w 0 1
      let cap : Option Int := if on && fn.testBit 0 && sel.testBit 0 then some ((fld w 4 4 : Int) * 2 ^ 32) else none
      let x1 := { x with barred := on && demanded (s.safeOut (group g a))
                         safeRamp := if on then some (dec w, jerk w) else none, slsCap := cap
                         barNeg := on && fn.testBit 2 && sel.testBit 1, barPos := on && fn.testBit 2 && sel.testBit 2 }
      if x.slsCap = cap then x1 else { x1 with tickQ := x1.tickQ ++ [(s.tm.frame, .cap)] } }

/-- Sends the safety stop to axes (R499). Log: 72 (DEDUCED, unsafe). -/
def safetyStop (axes : List Nat) (s : State) : State :=
  if !s.enabled 0 then s
  else
    { s with mot.axes := Tab.modifyAll s.mot.axes axes fun _ x =>
        { x with tickQ := x.tickQ ++ [(s.tm.frame, .stop .safety 5)] } }

/-- A demand on output `k` takes effect at this boundary: latched until R504 or R505; SS1, or off at once (R493, R506).
Log: 71 (DEDUCED, unsafe). -/
def demand (k : Nat) (src : LatchSrc) (sto : Bool) (s : State) : State :=
  let g := s.saf.cfg
  let r := role g k
  if r = 0 then s
  else
    let x0 := s.safeOut k
    let x := if x0.latch.contains src then x0 else { x0 with latch := x0.latch ++ [src] }
    if x.off then s.setSafeOut k x
    else if sto || decide (r = 2) then s.setSafeOut k { x with off := true, ss1 := none }
    else if x.ss1.isSome then s.setSafeOut k x
    else safetyStop (axesOf g k) (s.setSafeOut k { x with ss1 := some { t0 := s.tm.control } })

/-- Whether a latch's source is still demanded (R504). Log: 70 (DEDUCED, unsafe). -/
def sourceOn (s : State) : LatchSrc → Bool
  | .input k => inputDemand s k fun x => x.disc && !x.discSeen
  | .mode => false
  | .limit a => decide ((Tab.get s.saf.axes a).bad ≠ 0)
  | .pos a =>
    match (Tab.get s.saf.axes a).hist with
    | (pe, pc) :: _ => decide ((fld (axis s.saf.cfg a) 16 4 : Int) * 2 ^ 24 < (pe - pc).natAbs)
    | [] => false

/-- Whether R504 would release output `k`. Log: 70 (DEDUCED, unsafe), 71 (DEDUCED, unsafe). -/
def releasable (s : State) (k : Nat) : Bool :=
  let x := s.safeOut k
  let edmEn := (fld (outp s.saf.cfg k) 1 1).testBit 0
  decide (role s.saf.cfg k ≠ 0) && s.md.mode.live && !x.latch.any (sourceOn s) &&
    (List.range 16).all (fun j =>
      decide (fld (inp s.saf.cfg j) 0 1 ≠ 1) || !actsOn (inp s.saf.cfg j) k || !sourceOn s (.input j)) &&
    (!edmEn || (s.saf.edm.testBit (2 * k) && s.saf.edm.testBit (2 * k + 1)))

/-- Clears the latches, locks and violations of output `k` and the axes of its group (R504), and the discrepancies its
acknowledgement ends (R492). -/
def clear (k : Nat) (s : State) : State :=
  let g := s.saf.cfg
  let x := s.safeOut k
  let s1 := s.setSafeOut k { x with latch := [], lockTest := false, lockEdm := false, stuck1 := false, stuck2 := false }
  { s1 with
    saf.axes := Tab.modifyAll s1.saf.axes (axesOf g k) fun _ y => { y with viol := 0, posDisc := false }
    saf.ins := Tab.mapVals s1.saf.ins fun j i =>
      if i.disc && i.discSeen && (decide (fld (inp g j) 0 1 ≠ 1) || actsOn (inp g j) k) then
        { i with disc := false, discSeen := false }
      else i }

/-- SAFETY_ACK's release of the outputs of a mask: all of them or none (R504). -/
def ack (mask : Nat) (s : State) : Option State :=
  let ks := (Bits.bitsOf mask 8).filter fun k => role s.saf.cfg k ≠ 0
  if ks.all (releasable s) then
    let s1 := ks.foldl (fun s k => let t := clear k s; t.setSafeOut k { t.safeOut k with onNext := true }) s
    some (Ops.raise Event.safetyAck (mkSrc 1 6 0) mask 0
      { s1 with saf.next := s1.saf.next.filter fun q => !ks.contains q.1 || sourceOn s1 q.2.1 })
  else none

/-- The release at the boundary at which outputs are first driven (R505). -/
def release (s : State) : State :=
  (List.range 8).foldl (fun s k =>
    if role s.saf.cfg k = 0 then s
    else if releasable s k then
      let t := clear k s
      t.setSafeOut k { t.safeOut k with off := false, ss1 := none, offNext := false, onNext := false }
    else
      let x := s.safeOut k
      s.setSafeOut k { x with latch := x.latch.filter (sourceOn s) }) s

/-- The last verdict takes effect (R490): demands, groups off, releases due, a reset input (R493, R494, R500, R504). -/
def takeEffect (s0 : State) : State :=
  let next := s0.saf.next
  let ackNow := s0.saf.ackNext
  let s1 := { s0 with saf.next := [], saf.ackNext := false, saf.judged := false }
  let s2 := { s1 with saf.axes := Tab.modifyAll s1.saf.axes (monitored s1.saf.cfg) fun a y => { y with selIn := selOf s1 a } }
  let s3 := next.foldl (fun s q => demand q.1 q.2.1 q.2.2 s) s2
  let s4 := (List.range 8).foldl (fun s k =>
    let x := s.safeOut k
    let x1 := if x.onNext && !demanded x then { x with off := false, ss1 := none } else x
    let x2 := if x.offNext then { x1 with off := true, ss1 := none } else x1
    s.setSafeOut k { x2 with offNext := false, onNext := false }) s3
  let s5 := if ackNow then (ack 0xFF s4).getD s4 else s4
  bars s5

/-- Entry to SAFE_STOP: every output is demanded with SS1, interlocks go off (R173, R506). -/
def enterSafeStop (s : State) : State :=
  if !s.enabled 7 then s
  else
    let s1 := (List.range 8).foldl (fun s k => demand k .mode false s) s
    bars (safetyStop (monitored s1.saf.cfg) s1)

/-- A mode that holds every output off asserts STO (R106). Log: 75 (DEDUCED, unsafe). -/
def allOff (s : State) : State :=
  { s with saf.outs := Tab.mapVals s.saf.outs fun _ x => { x with off := true, ss1 := none, offNext := false, onNext := false } }

/-- Whether every safety group is off (R506). -/
def groupsOff (s : State) : Bool :=
  !s.enabled 7 || (List.range 8).all fun k => decide (role s.saf.cfg k = 0) || (s.safeOut k).off

/-- Whether an SS1 runs. -/
def ss1Running (s : State) : Bool := s.saf.outs.any fun q => q.2.ss1.isSome

/-- The safety balls that the FID drives from this boundary on (R489, R490, R503, R518). -/
def drive (s : State) : State :=
  let live := s.stepsOn
  let goLive := live && !s.out.live
  let chans := s.channel 1 || s.channel 2
  (List.range 8).foldl (fun s k =>
    let x := s.safeOut k
    let w := outp s.saf.cfg k
    let want := live && chans && s.enabled 7 && decide (fld w 0 1 ≠ 0) && !x.off && !x.lockTest && !x.lockEdm &&
      !s.fidDown 3 (16 + k)
    let edmEn := (fld w 1 1).testBit 0
    let s1 := want && !x.on1 && edmEn && !s.saf.edm.testBit (2 * k)
    let s2 := want && !x.on2 && edmEn && !s.saf.edm.testBit (2 * k + 1)
    let n1 := want && !s1 && !x.stuck1
    let n2 := want && !s2 && !x.stuck2
    let may := !x.lockTest && !x.lockEdm
    let y := { x with on1 := n1, on2 := n2, stuck1 := x.stuck1 || s1, stuck2 := x.stuck2 || s2
                      test1 := x.test1.boundary s.tm.lp goLive live (n1 != x.on1) may
                      test2 := x.test2.boundary s.tm.lp goLive live (n2 != x.on2) may }
    if y = x then s
    else
      let t := s.setSafeOut k y
      let e1 := if n1 = x.on1 then t.saf.edmSince else Tab.set t.saf.edmSince (2 * k) t.tm.control
      let e2 := if n2 = x.on2 then e1 else Tab.set e1 (2 * k + 1) t.tm.control
      { t with saf.edmSince := e2 }) s

/-- SAFETY takes effect or stops: the run-time state begins anew, every output off (R134). -/
def restart (s : State) : State :=
  bars { s with saf.outs := [], saf.axes := [], saf.next := [], saf.ackNext := false
                saf.ins := Tab.mapVals s.saf.ins fun _ x => { x with disc := false, discSeen := false, demanded := false } }

/-- The HBD delivers the accepted configuration to both channels at the end of BOOT (R510). -/
def load (s : State) : State :=
  let c := if s.saf.store.accepted then crc s.saf.store.cfg else 0
  { s with saf.cfg := s.saf.store.cfg, saf.loaded := s.saf.store.accepted, saf.crc1 := c, saf.crc2 := c }

/-- Whether the CRCs of the channels present agree (R116). Log: 75 (DEDUCED, unsafe). -/
def crcAgree (s : State) : Bool := !s.channel 1 || !s.channel 2 || decide (s.saf.crc1 = s.saf.crc2)

/-- A session ends and its edits are discarded (R511). -/
def endSession (s : State) : State := { s with saf.session := none }

/-! The safety configuration. -/

/-- Field ranges of SAFETY_GLOBAL (R526). -/
def globalOk (w : Nat) : Bool :=
  decide (1 ≤ fld w 0 1 ∧ fld w 0 1 ≤ 30 ∧ 1 ≤ fld w 1 1 ∧ fld w 1 1 ≤ 64 ∧ 10 ≤ fld w 2 2 ∧ fld w 2 2 ≤ 10000) &&
    decide (200 ≤ fld w 4 2 ∧ fld w 4 2 ≤ 1000 ∧ 50 ≤ fld w 6 2 ∧ fld w 6 2 ≤ 200 ∧ 100 ≤ fld w 8 2 ∧ fld w 8 2 ≤ 10000) &&
    decide (10 ≤ fld w 10 2 ∧ fld w 10 2 ≤ 500 ∧ 1 ≤ fld w 12 1 ∧ fld w 12 1 < fld w 6 2)

/-- Field ranges of SAFETY_INPUT; those of an unused input are not judged (Table 14-1, R529). -/
def inputOk (w : Nat) : Bool :=
  let f := fld w 0 1
  decide (f ≤ 5) && decide (fld w 1 1 ≤ 1) &&
    (decide (f = 0) || (decide (fld w 2 2 ≤ 1900) && decide (1 ≤ fld w 4 2) && decide (fld w 4 2 ≤ 500))) &&
    (decide (f ≠ 1) || decide (fld w 6 1 ≠ 0) || (fld w 7 1).testBit 0)

/-- Field ranges of SAFETY_OUTPUT. -/
def outputOk (w : Nat) : Bool :=
  decide (fld w 0 1 ≤ 2) && (decide (fld w 0 1 = 0) || (decide (10 ≤ fld w 2 2) && decide (fld w 2 2 ≤ 10000)))

/-- Field ranges of SAFETY_AXIS (Table 14-7). -/
def axisOk (w : Nat) : Bool :=
  decide (fld w 1 1 ≤ 7) && decide (fld w 2 1 ≤ 1) && decide (1 ≤ fld w 16 4) && decide (0 < dec w) && decide (0 < jerk w)

/-- Field ranges of SAFETY_SLP (Table 14-8). -/
def slpRangeOk (w : Nat) : Bool := decide (fldS w 0 8 < fldS w 8 8)

/-- Step 1 of the SAFETY check, in ascending Locator order (R133, R529). Log: 76 (DEDUCED, unsafe). -/
def checkFormat (node : Nat) (g : SafeCfg) : Option (Nat × Nat) :=
  let l (u : Nat) := pairLoc node 6 u 0
  if !globalOk (glob g) then some (0x64, l 0)
  else
    match (List.range 16).find? fun k => !inputOk (inp g k) with
    | some k => some (0x61, l k)
    | none =>
      match (List.range 8).find? fun k => !outputOk (outp g k) with
      | some k => some (0x62, l (16 + k))
      | none =>
        ((List.range 64).find? fun a =>
          (decide (axis g a ≠ 0) && !axisOk (axis g a)) || (decide (slp g a ≠ 0) && !slpRangeOk (slp g a))).map
          fun a => (0x63, l (64 + a))

/-- Whether a selecting input names an axis without its function (R529). -/
def selectBad (g : SafeCfg) (k : Nat) : Bool :=
  let w := inp g k
  let f := fld w 0 1
  decide (2 ≤ f) && decide (f ≤ 4) &&
    (List.range 64).any fun a => (fld w 8 8).testBit a && !(fld (axis g a) 0 1).testBit (if f = 2 then 0 else 2)

/-- Step 2 of the SAFETY check: selections, and monitored axes (R133, R529). `motion` tells whether MOTION is to be
enabled. -/
def checkRefs (s : State) (motion : Bool) (g : SafeCfg) : Option (Nat × Nat) :=
  let l (u : Nat) := pairLoc s.nodeId 6 u 0
  match (List.range 16).find? (selectBad g) with
  | some k => some (0x61, l k)
  | none =>
    (monitored g).findSome? fun a =>
      let x := s.axis a
      if !motion then some (0x76, l (64 + a))
      else if !x.io.flags.testBit 2 || decide (x.io.output = 0) || decide (role g (group g a) ≠ 1) then some (0x65, l (64 + a))
      else none

/-- Notes a safety command for the 600 s of R511. -/
def touch (s : State) : State :=
  { s with saf.session := s.saf.session.map fun q => { q with last := s.tm.control } }

/-- A password of 8 to 32 bytes from 0x20 to 0x7E (R512). -/
def password (c : Cmd) (off : Nat) : Option Bytes :=
  let n := Arg.u c 0 1
  let bs := Arg.bytes c off n
  if decide (8 ≤ n) && decide (n ≤ 32) && bs.all (fun b => decide (0x20 ≤ b.toNat) && decide (b.toNat ≤ 0x7E)) then some bs
  else none

/-- The stored form of a password. -/
def digest (bs : Bytes) : Nat := Bits.ofLe (Crypto.sha512 bs)

/-- SAFETY_UNLOCK (R511). -/
def unlock (c : Cmd) (s : State) : Reply :=
  if s.saf.lockout.isSome then .ends s .locked 0
  else if decide (s.saf.store.password.isSome) && decide ((password c 8).map digest = s.saf.store.password) then
    let s1 := { s with saf.wrong := 0 }
    if s1.saf.session.isSome then .quiet (Ops.complete (c.origin 0x0601) .refused 0x6B 0 s1)
    else
      let q : SafeSession := { operator := Arg.u c 4 4, edit := s1.saf.cfg, last := s1.tm.control }
      .done { s1 with saf.session := some q } 0
  else
    let n := s.saf.wrong + 1
    let s1 := Ops.raise Event.safetyUnlockFail (mkSrc 1 6 0) 0 0 { s with saf.flags := s.saf.flags ||| 16 }
    .ends { s1 with saf.wrong := if n = 5 then 0 else n
                    saf.lockout := if n = 5 then some s.tm.control else none } .locked 0

/-- UNLOCK_LOCKOUT_END (R511): after 60 s. -/
def unlockLockoutEnd (s : State) : State :=
  match s.saf.lockout with
  | some t => if t + 60 * (sec256 : Int) ≤ s.tm.control + frame256 then { s with saf.lockout := none } else s
  | none => s

/-- SAFETY_SESSION_TIMEOUT (R511): 600 s without a safety command. -/
def sessionTimeout (s : State) : State :=
  match s.saf.session with
  | some q => if q.last + 600 * (sec256 : Int) ≤ s.tm.control + frame256 then endSession s else s
  | none => s

/-- SAFETY_CANCEL (R511). -/
def cancel (s : State) : Reply := if s.saf.session.isNone then .locked else .done (endSession s) 0

/-- SAFETY_PASSWORD (R512). -/
def setPassword (c : Cmd) (s : State) : Reply :=
  if s.saf.session.isNone && s.saf.store.password.isSome then .locked
  else
    match password c 4 with
    | none => .refuse 0x66
    | some bs => .done { s with saf.store := { s.saf.store with password := some (digest bs) } } 0

/-- One of the five safety objects: element `i` of the edit copy, valid by `ok`, else refused with `code` (R512). -/
def object (i code : Nat) (ok : Nat → Bool) (c : Cmd) (s : State) : Reply :=
  match s.saf.session with
  | none => .locked
  | some q =>
    if !ok c.args.toNat then .refuse code
    else .done { s with saf.session := some { q with edit := Tab.set q.edit i c.args.toNat } } 0

/-- SAFETY_COMMIT (R513): it takes effect at the next boundary. -/
def commit (c : Cmd) (s : State) : Reply :=
  match s.saf.session with
  | none => .locked
  | some q =>
    match (checkFormat s.nodeId q.edit).orElse fun _ => checkRefs s (s.enabled 0) q.edit with
    | some (r, _) => .refuse r
    | none =>
      if !Mot.allStill s || ss1Running s then .refuse 0x79
      else if !crcAgree s then .refuse 0x6E
      else .quiet { s with saf.commit := some (c.origin 0x0602, q.edit, s.saf.crc1, q.operator), saf.session := none }

/-- A committed configuration takes effect in both channels, is stored and logged (R513, Table 14-4). -/
def applyCommit (s : State) : State :=
  match s.saf.commit with
  | none => s
  | some (o, g, old, operator) =>
    let new := crc g
    let s1 := { s with saf.commit := none, saf.cfg := g, saf.loaded := true, saf.crc1 := new, saf.crc2 := new }
    if s.saf.store.accepted && decide (s.saf.store.cfg = g) then Ops.complete o .done 0 (old + new * 2 ^ 32) s1
    else
      let seq := s.saf.store.seq + 1
      let t := s.tm.boundary
      let e : SafeLog := { seq := seq, sec := Time.secs t, ns := Time.nanos t, operator := operator, oldCrc := old, newCrc := new }
      let st : SafeStore := { s.saf.store with accepted := true, cfg := g, seq := seq, log := (e :: s.saf.store.log).take 256 }
      let s2 := Ops.raise Event.safetyConfigChange (mkSrc 1 6 0) old new
        { s1 with saf.store := st, saf.flags := s1.saf.flags ||| 32 }
      bars (Ops.complete o .done 0 (old + new * 2 ^ 32 + seq * 2 ^ 64) s2)

/-- SAFETY_ACK (R504, R526). -/
def safetyAck (c : Cmd) (s : State) : Reply :=
  if !s.enabled 7 then .refuse 0x60
  else
    match ack (Arg.u c 0 1) s with
    | some t => .done t 0
    | none => .refuse 0x67

/-- SAFE_SELECT (R526). -/
def safeSelect (c : Cmd) (s : State) : Reply :=
  let axes := Bits.bitsOf (Arg.u c 0 8) 64
  let f := Arg.u c 8 1
  if !s.enabled 7 then .refuse 0x60
  else if axes.any fun a => !(fld (axis s.saf.cfg a) 0 1).testBit (if f = 1 then 0 else 2) then .refuse 0x6C
  else
    let on := decide (Arg.u c 9 1 = 1)
    .done (bars { s with saf.axes := Tab.modifyAll s.saf.axes axes fun _ y =>
      { y with sel := Bits.setBit y.sel (f - 1) on } }) 0

/-- SAFETY_AXIS_STATUS (R527). -/
def axisStatus (c : Cmd) (s : State) : Reply :=
  if !s.enabled 7 then .refuse 0x60
  else
    let a := c.unit - 64
    let w := axis s.saf.cfg a
    let y := Tab.get s.saf.axes a
    let x := s.safeOut (group s.saf.cfg a)
    let mon := decide (w ≠ 0)
    let d := match y.hist with
      | (pe, pc) :: _ => Bits.sat 32 (Bits.roundShift (pe - pc) 24)
      | [] => 0
    let fl := Bits.b2n y.sls.isSome + 2 * Bits.b2n (y.sdiPos.isSome || y.sdiNeg.isSome) +
      4 * Bits.b2n (s.axis a).safeRef.isSome + 8 * Bits.b2n (mon && x.ss1.isSome) + 16 * Bits.b2n (mon && x.off) +
      32 * Bits.b2n (decide (y.viol ≠ 0) || y.posDisc)
    .done s (Bits.unsigned 32 y.ve + Bits.unsigned 32 y.vc * 2 ^ 32 + Bits.unsigned 32 d * 2 ^ 64 + fl * 2 ^ 96 +
      group s.saf.cfg a * 2 ^ 104)

/-- The 32 bytes of a change-log entry (Table 14-4). -/
def logBytes (e : SafeLog) : Nat :=
  e.seq + e.sec * 2 ^ 32 + e.ns * 2 ^ 96 + e.operator * 2 ^ 128 + e.oldCrc * 2 ^ 160 + e.newCrc * 2 ^ 192

/-- SAFETY_LOG_READ (R515): an INDEX beyond the entries held reads zeros. Log: 116 (DESIGN CHOICE, unsafe). -/
def logRead (c : Cmd) (s : State) : Reply :=
  let w := match s.saf.store.log[Arg.u c 0 1]? with
    | some e => logBytes e
    | none => 0
  .done s ((w >>> (128 * Arg.u c 1 1)) % 2 ^ 128)

/-- SAFETY_STATUS (Table 14-11). -/
def summary (s : State) : Nat :=
  let outs := (List.range 8).map fun k => (k, s.safeOut k)
  let ax := s.saf.axes.map (·.2)
  let bits (f : SafeOut → Bool) (at_ : Nat) : Nat := (outs.map fun q => if f q.2 then 2 ^ (at_ + q.1) else 0).sum
  let one (b : Bool) (i : Nat) : Nat := if b then 2 ^ i else 0
  let untested := s.out.valves.any (fun q => q.2.test.untested) ||
    outs.any fun q => q.2.test1.untested || q.2.test2.untested
  bits (fun x => x.on1 && x.on2) 0 + bits demanded 8 + one (s.channel 1) 16 + one (s.channel 2) 17 +
    one (outs.any fun q => q.2.latch.any fun l => match l with
      | .input _ => true
      | _ => false) 18 +
    one (ss1Running s) 19 + one (ax.any fun y => y.sls.isSome) 20 +
    one (ax.any fun y => y.sdiPos.isSome || y.sdiNeg.isSome) 21 + one (s.saf.ins.any fun q => q.2.disc) 22 +
    one (outs.any fun q => q.2.lockEdm) 23 +
    one (outs.any (fun q => q.2.lockTest) || s.out.valves.any fun q => q.2.locked) 24 + one untested 25 +
    one (ax.any fun y => y.viol ≠ 0) 26 + one s.saf.session.isSome 27

end Safe

end Sys2Proof.Machine
end

