-- ==== Sys2Proof/Machine/Prog.lean ====
section
/-!
DEFINITION. Cyclic programs: tasks, cycles and their images, overruns and faults, on-line change, forcing and the station
words (R346 to R385, R408 to R412).
-/

namespace Sys2Proof.Machine

/-- A task. -/
def State.task (s : State) (t : Nat) : Task := Tab.get s.prog.tasks t

/-- Replaces a task. -/
def State.setTask (s : State) (t : Nat) (x : Task) : State := { s with prog.tasks := Tab.set s.prog.tasks t x }

/-- A remote station. -/
def State.station (s : State) (k : Nat) : Station := Tab.get s.prog.stations k

/-- Replaces a remote station. -/
def State.setStation (s : State) (k : Nat) (x : Station) : State :=
  { s with prog.stations := Tab.set s.prog.stations k x }

namespace Prog
open LintisCode

/-- Modes in which tasks run (Table 3-2). -/
def runs (m : Mode) : Bool := m.live || decide (m = .safeStop)

/-- Deck address of a segment's offset (R408). -/
def addr (s : State) (seg off : Nat) : Nat := s.prog.base + Loaded.start s.prog.image seg + off

/-- Bytes of a TYPE of Table 10-7. -/
def typeSize (t : Nat) : Nat := if t = 2 ∨ t = 4 then 8 else 4

/-- Bytes of an image field (R412). -/
def fieldSize (e : ImgEntry) : Nat :=
  match e.typ with
  | 5 => 1
  | 6 => e.stLen
  | t => typeSize t

/-- Length of an image: to the end of its furthest field, rounded up to 4 (R412). -/
def imgLen (m : Tab ImgEntry) : Nat := (m.foldl (fun n q => max n (q.2.off + fieldSize q.2)) 0 + 3) / 4 * 4

/-- Period of a task in frames; DEADLINE for an event task. -/
def period (c : TaskCfg) : Nat := if c.rate = 255 then c.deadline else 2 ^ (c.rate + 3)

/-- Whether a byte range lies within another. -/
def within (off n base size : Nat) : Bool := decide (base ≤ off) && decide (off + n ≤ base + size)

/-- Whether a task owns a range of the shared segment: within one of its ranges (R356, R388). -/
def ownsShared (s : State) (t off n : Nat) : Bool :=
  s.prog.image.owners.any fun o => decide (o.1 = t) && within off n o.2.1 o.2.2

/-- Whether a task may write a variable of the data or the shared segment (Table 10-5). -/
def ownsVar (s : State) (t word n : Nat) : Bool :=
  let seg := word / 2 ^ 28
  let off := word % 2 ^ 28
  let c := (s.task t).cfg
  if seg = 2 then within off n c.dataBase c.dataSize else decide (seg = 3) && ownsShared s t off n

/-- Keeps a byte as it stood for the cycles that became ready before this boundary (R354, R370). -/
def keepOld (const : Bool) (off : Nat) (s : State) : State :=
  let old := 256 + (Tab.get s.deck (addr s (if const then 1 else 3) off)).toNat
  { s with prog.tasks := Tab.mapVals s.prog.tasks fun _ x =>
      match x.cyc with
      | some c =>
        if c.ended || decide (s.tm.frame ≤ c.b) then x
        else if const then
          if Tab.get c.constOld off ≠ 0 then x else { x with cyc := some { c with constOld := Tab.set c.constOld off old } }
        else if Tab.get c.sharedOld off ≠ 0 then x
        else { x with cyc := some { c with sharedOld := Tab.set c.sharedOld off old } }
      | none => x }

/-- Writes a variable at a boundary, keeping what older cycles must still see. -/
def writeVar (word n v : Nat) (s : State) : State :=
  let seg := word / 2 ^ 28
  let off := word % 2 ^ 28
  let s1 := if seg = 1 ∨ seg = 3 then (List.range n).foldl (fun s i => keepOld (decide (seg = 1)) (off + i) s) s else s
  { s1 with deck := Mem.writeLe s1.deck (addr s1 seg off) n v }

/-- A variable's underlying value. -/
def readVar (s : State) (word n : Nat) : Nat := Mem.readLe s.deck (addr s (word / 2 ^ 28) (word % 2 ^ 28)) n

/-- The force in effect on an image entry. -/
def entryForce (s : State) (kind t i : Nat) : Option Nat :=
  let hit (f : Force) : Bool := f.active && decide (f.kind = kind) && decide (f.task = t) && decide (f.addr = i)
  match s.prog.forces.find? fun q => hit q.2 with
  | some q => some q.2.value
  | none => (s.prog.ending.find? hit).map (·.value)

/-- The forced byte of a variable, if a force covers it (R372). -/
def forcedByte (s : State) (word : Nat) : Option Nat :=
  let hit (f : Force) : Bool := f.active && decide (f.kind = 2) && decide (f.addr ≤ word) && decide (word < f.addr + typeSize f.typ)
  let pick (f : Force) : Nat := f.value / 256 ^ (word - f.addr) % 256
  match s.prog.forces.find? fun q => hit q.2 with
  | some q => some (pick q.2)
  | none => (s.prog.ending.find? hit).map pick

/-- Replaces `n` bytes of a payload at an offset. -/
def putBytes (w off n v : Nat) : Nat :=
  w % 256 ^ off + v % 256 ^ n * 256 ^ off + w / 256 ^ (off + n) * 256 ^ (off + n)

/-- The status word of a station (Table 10-6). -/
def stationStatus (x : Station) : Nat :=
  x.quality + Bits.b2n x.present * 2 ^ 8 + Bits.b2n x.resumeWait * 2 ^ 9 + Bits.b2n x.feeding * 2 ^ 10 +
    x.drops % 2 ^ 16 * 2 ^ 16

/-- Sends one output field to its destination (Table 10-4, R377); in SAFE_STOP only condition bits go out (Table 3-2).
Log: 55 (DEDUCED, unsafe). -/
def sendOutput (waits : List Nat) (e : ImgEntry) (v : Nat) (s : State) : State :=
  let bit := decide (v % 2 = 1)
  if e.kind = 19 then { s with prog.conds := Bits.setBit s.prog.conds e.index bit }
  else if s.md.mode = .safeStop then s
  else if e.kind = 16 then s.setValve e.index { s.valve e.index with cmd := bit }
  else if e.kind = 17 then Out.setDuty e.index (v % 2 ^ 32) s
  else if e.kind = 18 then { s with out.trigCmd := Bits.setBit s.out.trigCmd e.index bit }
  else
    let x := s.station e.index
    if e.kind = 20 then s.setStation e.index { x with out := putBytes x.out e.stOff e.stLen v }
    else if e.kind = 21 && bit && x.resumeWait && waits.contains e.index then
      Ops.raise Event.stationResumed (mkSrc 1 4 0) e.index 0
        (s.setStation e.index { x with feeding := true, resumeWait := false })
    else s

/-- The output boundary of a task: forces of its output entries begin or end, and every entry in effect is sent (R357, R372,
R373). -/
def sendAll (t : Nat) (waits : List Nat) (s0 : State) : State :=
  let f := s0.tm.frame
  let s1 := { s0 with
    prog.forces := Tab.mapVals s0.prog.forces fun _ x =>
      if x.inUse && decide (x.kind = 1) && decide (x.task = t) && decide (x.app ≤ f) then { x with active := true } else x
    prog.ending := s0.prog.ending.filter fun x => !(decide (x.kind = 1) && decide (x.task = t) && decide (x.app ≤ f)) }
  let x := s1.task t
  let s2 := s1.setTask t { x with outAt := f + 1 }
  x.outMap.foldl (fun s q =>
    let own := Mem.readLe s.deck (addr s 4 (x.cfg.imgOut + q.2.off)) (fieldSize q.2)
    sendOutput waits q.2 ((entryForce s 1 t q.1).getD own) s) s2

/-- The underlying value of a forced output entry or variable. -/
def underlying (s : State) (f : Force) : Nat :=
  if f.kind = 1 then
    let x := s.task f.task
    let e := Tab.get x.outMap f.addr
    Mem.readLe s.deck (addr s 4 (x.cfg.imgOut + e.off)) (min (fieldSize e) 8)
  else readVar s f.addr (typeSize f.typ)

/-- The check of R374 at the end of a cycle, for the forces of its task. Log: 57 (DEDUCED, unsafe). -/
def forceCheck (t : Nat) (changed : Bool) (s0 : State) : State :=
  s0.prog.forces.foldl (fun s q =>
    let f := Tab.get s.prog.forces q.1
    if f.inUse && decide (f.task = t) && decide (f.kind ≠ 0) then
      let u := underlying s f
      let put (y : Force) (s : State) : State := { s with prog.forces := Tab.set s.prog.forces q.1 y }
      if changed && f.active && decide (f.last ≠ some u) then
        Ops.raise Event.forcedTargetChanged (mkSrc 1 4 0) f.value u
          { put { f with last := some u, changed := true } s with prog.fForce := true }
      else put { f with last := some u } s
    else s) s0

/-- The format of a variable's recording tap (Tables 8-2, 10-7). -/
def tapOf (typ v : Nat) : TapVal :=
  match typ with
  | 0 => { fmt := 4, v := Bits.signed 32 v }
  | 1 => { fmt := 5, v := v }
  | 2 => { fmt := 6, v := Bits.signed 64 v }
  | 3 => { fmt := 7, v := v }
  | _ => { fmt := 8, v := v }

/-- Recorded variables of a task carry their underlying values as of its output boundary (R360). -/
def recordVars (t : Nat) (s : State) : State :=
  s.prog.recNums.foldl (fun s q =>
    if q.2.given && decide (q.2.task = t) then
      { s with acq.recVals := Tab.set s.acq.recVals q.1 (tapOf q.2.typ (readVar s q.2.addr (typeSize q.2.typ))) }
    else s) s

/-- Stores the bytes an overlay lists. -/
def storeOverlay (seg : Nat) (ov : Tab Nat) (s : State) : State :=
  ov.foldl (fun s q =>
    let s1 := if seg = 3 then keepOld false q.1 s else s
    { s1 with deck := Tab.set s1.deck (addr s1 seg q.1) (BitVec.ofNat 8 q.2) }) s

/-- Words of the shared write buffer in use (R389). -/
def bufferWords (ov : Tab Nat) : Nat := (ov.map fun q => q.1 / 4).eraseDups.length

/-- Commits a cycle: shared writes, output image, SIGNALs, outputs, recorded variables (R355, R357, R400).
Log: 57 (DEDUCED, unsafe). -/
def commit (t : Nat) (c : Cycle) (s : State) : State :=
  let s1 := storeOverlay 4 c.out (storeOverlay 3 c.shared s)
  let s2 := c.signals.foldl (fun s q =>
    let x := s.task q.1
    if x.cfg.given then s.setTask q.1 { x with flags := Bits.setBit x.flags q.2 true } else s) s1
  let s3 := forceCheck t c.changed (recordVars t (sendAll t c.waits s2))
  Ops.count 4 20 (bufferWords c.shared) s3

/-- The code address a fault record names for a cycle that is not dispatched or ended: its present one. -/
def faultRec (c : Cycle) (cause access codeAddr dataAddr : Nat) : FaultRec :=
  { cause := cause, access := access, codeAddr := codeAddr, dataAddr := dataAddr, cycle := c.num, frame := c.b
    engine := c.engine.getD 0 }

/-- Faults a task: its cycle ends at once and its pending writes are discarded; FAULT_ACTION is due at the next boundary
(R367). Log: 55 (DEDUCED, unsafe). -/
def fault (t : Nat) (c : Cycle) (cause access codeAddr dataAddr : Nat) (mid : Bool) (s : State) : State :=
  let x := s.task t
  let s1 := { s.setTask t { x with faulted := true, cyc := none, actionDue := true
                                   fault := some (faultRec c cause access codeAddr dataAddr)
                                   maxOps := max x.maxOps c.ops } with prog.fFault := true }
  let p0 := t + cause * 2 ^ 16
  if mid then Ops.raiseMid Event.taskFault (mkSrc 1 4 0) p0 c.num s1 else Ops.raise Event.taskFault (mkSrc 1 4 0) p0 c.num s1

/-- FAULT_ACTION (R367). -/
def faultAction (t : Nat) (s0 : State) : State :=
  let x := s0.task t
  let s := s0.setTask t { x with actionDue := false }
  match x.cfg.faultAction with
  | 1 =>
    let s1 := x.outMap.foldl (fun s q =>
      { s with deck := Mem.writeLe s.deck (addr s 4 (x.cfg.imgOut + q.2.off)) (fieldSize q.2) q.2.dflt }) s
    sendAll t [] s1
  | 2 => { s with md.stopCauses := s.md.stopCauses ++ [5] }
  | _ => s

/-- An event limited to one per 64 frames for one task (R82, R365). -/
def limited (code t p0 p1 : Nat) (useCount mid : Bool) (s : State) : State :=
  let key := ((code % 0x2000) * 0x8000 + mkSrc 1 4 0) * 1024 + t
  let l := Tab.get s.log.limits key
  if l.last = 0 || decide (l.last + 63 ≤ s.tm.frame) then
    let s1 := { s with log.limits := Tab.set s.log.limits key { last := s.tm.frame + 1, since := 0 } }
    let q0 := if useCount then l.since + 1 else p0
    if mid then Ops.raiseMid code (mkSrc 1 4 0) q0 p1 s1 else Ops.raise code (mkSrc 1 4 0) q0 p1 s1
  else { s with log.limits := Tab.set s.log.limits key { l with since := l.since + 1 } }

/-- Whether an engine's present cycle is the one of this task, among several of that engine. -/
def holds (s : State) (t e : Nat) (c : Cycle) : Bool :=
  !c.ended || !(s.prog.tasks.any fun q => decide (q.1 ≠ t) && q.2.cyc.any fun d => decide (d.engine = some e) && !d.ended)

/-- Lattice point 5,850: a cycle counts as ended when neither die lists its engine (R361). -/
def exchange (busy : List Nat) (s : State) : State :=
  { s with prog.tasks := Tab.mapVals s.prog.tasks fun t x =>
      match x.cyc with
      | some c =>
        let listed := c.engine.any fun e => busy.contains e && holds s t e c
        if c.ended && !c.done && !listed then
          let inTime := decide (s.tm.frame + 1 ≤ c.due)
          { x with cyc := some { c with done := true }, skips := if inTime then 0 else x.skips }
        else x
      | none => x }

/-- The skip count of a task with a cycle in progress rises by one (R363, R364). -/
def skip (t : Nat) (s : State) : State :=
  let x := s.task t
  match x.cyc with
  | none => s
  | some c =>
    let n := x.skips + 1
    let s1 := s.setTask t { x with skips := n }
    if x.cfg.skipLimit < n then fault t c 0x81 0 c.pc 0 false s1 else s1

/-- Whether this boundary is a cycle boundary of a cyclic task (R351). Log: 55 (DEDUCED, unsafe), 98 (DEDUCED, safe). -/
def cycleBoundary (s : State) (c : TaskCfg) : Bool := decide (c.rate ≠ 255) && s.tm.due (period c) c.phase

/-- Whether the boundary raises an event task's count (R364). -/
def eventSkip (s : State) (c : TaskCfg) (b : Nat) : Bool :=
  decide (c.rate = 255) && decide (0 < c.deadline) && decide (b + 2 * c.deadline ≤ s.tm.frame) &&
    decide ((s.tm.frame - b) / c.deadline ≠ (max s.tm.first s.tm.late - 1 - b) / c.deadline)

/-- One task at a frame boundary: fault action, commits due, overruns and skips (R355, R362 to R364, R367, Table 10-8).
Log: 55 (DEDUCED, unsafe). -/
def boundaryTask (s0 : State) (t : Nat) : State :=
  let s1 := if (s0.task t).actionDue then faultAction t s0 else s0
  let f := s1.tm.frame
  let x1 := s1.task t
  let s2 := (x1.waiting.filter fun c => c.due ≤ f).foldl (fun s c => commit t c s)
    (s1.setTask t { x1 with waiting := x1.waiting.filter fun c => !decide (c.due ≤ f) })
  let x := s2.task t
  match x.cyc with
  | none => s2
  | some c =>
    if c.done then
      let late := c.overrun && cycleBoundary s2 x.cfg && decide (x.cfg.skipLimit < x.skips + 1)
      if late then skip t s2
      else if c.due ≤ f then commit t c (s2.setTask t { x with cyc := none })
      else s2.setTask t { x with cyc := none, waiting := x.waiting ++ [c] }
    else
      let beyond := decide (c.due ≤ f) && !c.overrun
      let s3 := if beyond then
          limited Event.taskOverrun t 0 t true false
            { s2.setTask t { x with cyc := some { c with overrun := true }, overruns := Bits.satInc 16 x.overruns } with
              prog.fOverrun := true }
        else s2
      if cycleBoundary s3 x.cfg || eventSkip s3 x.cfg c.b then skip t s3 else s3

/-- Committing cycles' writes, in task order: the first item of R378. -/
def commitAll (s : State) : State :=
  if !s.enabled 4 then s
  else s.prog.tasks.foldl (fun s q => boundaryTask s q.1) s

/-- Starts a task (R358, R380). -/
def startTask (x : Task) : Task := { x with started := true, next := 0, skips := 0, overruns := 0, maxOps := 0 }

/-- AUTOSTART, at the first boundary of COMMISSION or RUN entered from CONFIGURE (R380). -/
def autostart (s : State) : State :=
  { s with prog.tasks := Tab.mapVals s.prog.tasks fun _ x =>
      if x.cfg.given && x.cfg.autostart && !x.started && !x.faulted then startTask x else x }

/-- The flags a boundary sets by itself: the rate class and the trigger edges it delivers (Table 10-1). -/
def boundaryFlags (s : State) (x : Task) : Nat :=
  let f0 := if cycleBoundary s x.cfg && x.cyc.isNone && x.started then Bits.setBit x.flags 0 true else x.flags
  (List.range 8).foldl (fun f k =>
    if (Tab.get s.out.trigIn k).edges.any fun e => e.level != x.cfg.falling then Bits.setBit f (24 + k) true else f) f0

/-- What is due at a task's cycle start: recipe variables, on-line changes, forces (R360, R369, R373, R378 item 4). -/
def startWrites (t : Nat) (s0 : State) : State :=
  let f := s0.tm.frame
  let x := s0.task t
  match x.cyc with
  | none => s0
  | some c =>
    let s1 := x.recipes.foldl (fun s r =>
      let b := Tab.get s.prog.recipeVars r.1
      if b.given then writeVar b.addr (typeSize b.typ) r.2 s else s) s0
    let ready := x.changes.filter fun h => h.app ≤ f
    let s2 := ready.foldl (fun s h =>
      Ops.complete h.org .done 0 (c.num % 2 ^ 32)
        (h.entries.foldl (fun s e => writeVar e.1 (typeSize e.2.1) e.2.2 s) s)) s1
    let y := s2.task t
    let s3 := s2.setTask t { y with
      recipes := [], changes := x.changes.filter fun h => !decide (h.app ≤ f)
      cyc := y.cyc.map fun d => { d with changed := !ready.isEmpty } }
    { s3 with
      prog.forces := Tab.mapVals s3.prog.forces fun _ q =>
        if q.inUse && !q.active && decide (q.kind ≠ 1) && decide (q.task = t) && decide (q.app ≤ f) then
          { q with active := true }
        else q
      prog.ending := s3.prog.ending.filter fun q => !(decide (q.kind ≠ 1) && decide (q.task = t) && decide (q.app ≤ f)) }

/-- The value an input image entry latches (Table 10-4). -/
def latchValue (s : State) (e : ImgEntry) : Nat :=
  match e.kind with
  | 1 => Bits.unsigned 64 (Taps.tap s e.index).v
  | 2 => Tab.get s.loop.vars e.index
  | 3 => Bits.b2n (s.out.readback.testBit e.index)
  | 4 => Bits.b2n (Tab.get s.out.trigIn e.index).level
  | 5 =>
    let ch := s.chan e.index
    Bits.b2n ch.limPos.active + 2 * Bits.b2n ch.limNeg.active + 4 * Bits.b2n ch.home.active +
      8 * Bits.b2n (s.axis e.index).referenced
  | 6 => (s.station e.index).inp / 256 ^ e.stOff
  | 7 => stationStatus (s.station e.index)
  | 8 => Safe.summary s
  | _ => 0

/-- Latches a starting cycle's input image, forced entries replaced (R354, R372; R378 item 5). -/
def latchInputs (t : Nat) (s : State) : State :=
  let x := s.task t
  let s1 := x.inMap.foldl (fun s q =>
    let v := (entryForce s 0 t q.1).getD (latchValue s q.2)
    { s with deck := Mem.writeLe s.deck (addr s 4 (x.cfg.imgIn + q.2.off)) (fieldSize q.2) v }) s
  let waits := (x.inMap.filter fun q => decide (q.2.kind = 7) && (s.station q.2.index).resumeWait).map (·.2.index)
  let y := s1.task t
  s1.setTask t { y with cyc := y.cyc.map fun c => { c with waits := waits } }

/-- Tasks that become ready start their cycles: ready tests, then the writes due at cycle starts, then the latches
(R349, R351,
R378 items 4 and 5). -/
def startAll (s0 : State) : State :=
  if !s0.enabled 4 || !runs s0.md.mode then { s0 with prog.busy := 0 }
  else
    let a := if s0.prog.auto && (decide (s0.md.mode = .commission) || decide (s0.md.mode = .run)) then
        { autostart s0 with prog.auto := false }
      else s0
    let ns := Bits.unsigned 64 (a.tm.control / 256)
    let s1 := { a with prog.tasks := Tab.mapVals a.prog.tasks fun _ x =>
      if !x.cfg.given then x
      else
        let fl := boundaryFlags a x
        if x.started && !x.faulted && x.cyc.isNone && decide (fl &&& x.cfg.mask ≠ 0) then
          let c : Cycle := { num := x.next % 2 ^ 32, b := a.tm.frame, ns := ns, due := a.tm.frame + period x.cfg, pc := x.cfg.entry }
          { x with flags := fl, next := (x.next + 1) % 2 ^ 32, cyc := some c }
        else { x with flags := fl } }
    let fresh := (s1.prog.tasks.filter fun q => q.2.cyc.any fun c => decide (c.b = s1.tm.frame) && c.engine.isNone).map (·.1)
    let s2 := fresh.foldl (fun s t => startWrites t s) s1
    let s3 := fresh.foldl (fun s t => latchInputs t s) s2
    { s3 with prog.busy := min 15 (s3.prog.tasks.filter fun q => q.2.cyc.any fun c => c.engine.isSome && !c.ended).length }

/-- The engine that runs a cycle. -/
def engineBusy (s : State) (e : Nat) : Bool :=
  s.prog.tasks.any fun q => q.2.cyc.any fun c => decide (c.engine = some e) && !c.ended

/-- Ranks ready tasks by ready instant, then task number (R352): the earliest of a list. -/
def earliest : List (Nat × Nat) → Option Nat
  | [] => none
  | (t, b) :: rest =>
    match earliest rest with
    | some u =>
      match rest.find? fun q => q.1 = u with
      | some q => if q.2 < b then some u else some t
      | none => some t
    | none => some t

/-- Hands one ready task to one free engine by the mode's policy (R352). -/
def choose (s : State) : Option (Nat × Nat × Bool) :=
  match (List.range 16).find? fun e => !engineBusy s e with
  | none => none
  | some e =>
    let ready := s.prog.tasks.filter fun q => q.2.cyc.any fun c => c.engine.isNone
    let best := ready.foldl (fun p q => min p q.2.cfg.prio) 16
    let level := ready.filter fun q => q.2.cfg.prio = best
    let key (q : Nat × Task) : Nat × Nat := (q.1, (q.2.cyc.map (·.b)).getD 0)
    let pick (p : Nat × Task → Bool) : Option Nat := earliest ((level.filter p).map key)
    if s.md.mode = .run ∨ s.md.mode = .hold then
      match pick fun q => q.2.lastEngine = some e with
      | some t => some (t, e, true)
      | none =>
        match pick fun q => q.2.lastEngine.any (engineBusy s) with
        | some t => some (t, e, false)
        | none => (pick fun _ => true).map fun t => (t, e, false)
    else (pick fun _ => true).map fun t => (t, e, decide ((s.task t).lastEngine = some e))

/-- DISPATCH (R347, R349, R352): the cycle consumes its flags and begins at ENTRY with empty stacks. -/
def dispatch (s : State) : State :=
  if !s.enabled 4 || !runs s.md.mode then s
  else
    match choose s with
    | none => s
    | some (t, e, same) =>
      let x := s.task t
      let fl := x.flags &&& x.cfg.mask
      let s1 := s.setTask t { x with
        flags := x.flags - fl, lastEngine := some e
        cyc := x.cyc.map fun c => { c with engine := some e, flags := fl, pc := x.cfg.entry, stack := [], ret := [] } }
      Ops.count 4 (if same then 18 else 19) 1 (Ops.count 4 17 1 s1)

/-- Tasks stop where the mode runs none, or PROGRAM is cleared: cycles end without a commit; a change that waits ends
ABORTED. Log: 57 (DEDUCED, unsafe). -/
def stopAll (s : State) : State :=
  let s1 := s.prog.tasks.foldl (fun s q => q.2.changes.foldl (fun s h => Ops.complete h.org .aborted 0 0 s) s) s
  { s1 with prog.tasks := Tab.mapVals s1.prog.tasks fun _ x =>
      { x with started := false, cyc := none, waiting := [], changes := [], recipes := [], actionDue := false } }

/-- PROGRAM takes effect (R376, Table 10-6). -/
def enable (s : State) : State :=
  { s with prog.stations := Tab.mapVals s.prog.stations fun _ x => { x with drops := 0 } }

/-! Commands. -/

/-- PROG_CFG (R379). Log: 56 (DEDUCED, unsafe). -/
def progCfg (c : Cmd) (s : State) : Reply :=
  let n := Arg.u c 4 1
  if n < 16 ∨ 24 < n then .refuse 0x4B
  else .config 4 { s with prog.base := Arg.u c 0 4, prog.sizeLog2 := n, prog.image := {} }

/-- PROG_LOAD (R379, R409): a refusal names the file offset and the check in its result. -/
def progLoad (c : Cmd) (load : Option Bytes) (s : State) : Reply :=
  match load with
  | none => .ends s .busError 0
  | some bs =>
    match check bs (Arg.u c 8 4) s.prog.sizeLog2 with
    | some (code, off, no) => .refused code (code + off * 2 ^ 64 + no * 2 ^ 96)
    | none =>
      let l := declared bs
      .config 4 { s with prog.image := l, deck := place bs s.prog.base s.deck }

/-- The instructions of a task's own range of the loaded code. -/
def taskCode (s : State) (t : Nat) : List Ins :=
  match s.prog.image.tasks.find? fun x => x.1 = t with
  | some x => (decode (x.2.2 + 1) x.2.1 (Mem.read s.deck (addr s 0 x.2.1) x.2.2)).1
  | none => []

/-- A task's own conditions on the loaded program: 0x4B, and 0x46 where its ranges overlap another task's (R410). -/
def taskPlace (s : State) (t : Nat) (x : Task) : Option Nat :=
  let c := x.cfg
  let l := s.prog.image
  let inLen := imgLen x.inMap
  let outLen := imgLen x.outMap
  if !isStart (taskCode s t) c.entry || !within c.dataBase c.dataSize 0 l.dataSize ||
      !within c.imgIn inLen 0 l.imageSize || !within c.imgOut outLen 0 l.imageSize then some 0x4B
  else
    let clash (q : Nat × Task) : Bool :=
      let d := q.2.cfg
      let imgs := [(d.imgIn, imgLen q.2.inMap), (d.imgOut, imgLen q.2.outMap)]
      decide (q.1 ≠ t) && d.given && (meet c.dataBase c.dataSize d.dataBase d.dataSize ||
        imgs.any fun r => meet c.imgIn inLen r.1 r.2 || meet c.imgOut outLen r.1 r.2)
    if meet c.imgIn inLen c.imgOut outLen || s.prog.tasks.any clash then some 0x46 else none

/-- Reserved bytes and bits of TASK_CFG are zero. -/
def taskFormat (c : Cmd) : Bool := decide (Arg.u c 22 1 < 4) && Arg.zero c 23 1 && Arg.zeroFrom c 40

/-- TASK_CFG (R348, R410): BUDGET_OPS above 343 operations a frame is left to the check (R383). -/
def taskCfg (c : Cmd) (s : State) : Reply :=
  let t := Arg.u c 0 2
  let fl := Arg.u c 22 1
  let g : TaskCfg :=
    { given := true, prio := Arg.u c 2 1, rate := Arg.u c 3 1, phase := Arg.u c 4 2, deadline := Arg.u c 6 2
      mask := Arg.u c 8 4, entry := Arg.u c 12 4, budget := Arg.u c 16 4, skipLimit := Arg.u c 20 1
      faultAction := Arg.u c 21 1, autostart := fl.testBit 0, falling := fl.testBit 1, dataBase := Arg.u c 24 4
      dataSize := Arg.u c 28 4, imgIn := Arg.u c 32 4, imgOut := Arg.u c 36 4 }
  let event := decide (g.rate = 255)
  let ok := decide (t ≤ 1023) && decide (g.prio ≤ 15) && (event || decide (g.rate ≤ 7)) &&
    (if event then decide (g.phase = 0) && decide (1 ≤ g.deadline) else decide (g.phase < 2 ^ (g.rate + 3)) && decide (g.deadline = 0)) &&
    (g.mask.testBit 0 != event) && decide (1 ≤ g.budget) && decide (1 ≤ g.skipLimit) && decide (g.skipLimit ≤ 16) &&
    decide (g.faultAction ≤ 2)
  if !ok then .refuse 0x4B
  else
    let x := { s.task t with cfg := g }
    match if s.prog.image.given then taskPlace s t x else none with
    | some r => .refuse r
    | none => .config 4 (s.setTask t x)

/-- The TYPE Table 11-8 gives a field: by its KIND, and by its tap's format for KIND 1. -/
def typeOf (s : State) (e : ImgEntry) : Nat :=
  match e.kind with
  | 1 =>
    match (Taps.tap s e.index).fmt with
    | 0 => 1
    | 5 => 1
    | 3 => 0
    | 4 => 0
    | 7 => 3
    | 8 => 4
    | _ => 2
  | 2 => 3
  | 6 => 6
  | 20 => 6
  | 7 => 1
  | 8 => 1
  | 17 => 1
  | 21 => 1
  | _ => 5

/-- Largest INDEX of a KIND (Table 10-4). -/
def indexMax (kind : Nat) : Nat :=
  match kind with
  | 1 => 4095
  | 2 => 1023
  | 3 => 63
  | 4 => 7
  | 5 => 63
  | 8 => 0
  | 16 => 63
  | 17 => 31
  | 18 => 3
  | 19 => 1023
  | _ => 255

/-- Whether an image entry is in range (R382, R412). Log: 56 (DEDUCED, unsafe). -/
def entryOk (s : State) (out : Bool) (e : ImgEntry) : Bool :=
  let bytes := decide (e.kind = 6) || decide (e.kind = 20)
  (if out then decide (16 ≤ e.kind) && decide (e.kind ≤ 21) else decide (1 ≤ e.kind) && decide (e.kind ≤ 8)) &&
    decide (e.index ≤ indexMax e.kind) && decide (e.typ = typeOf s e) &&
    (decide (4 < e.typ) || decide (e.off % 4 = 0)) && (decide (e.stLen ≠ 0) == bytes) && (bytes || decide (e.stOff = 0))

/-- Whether two output entries name one output (R356). -/
def sameOutput (a b : ImgEntry) : Bool :=
  decide (a.kind = b.kind) && decide (a.index = b.index) && (decide (a.kind ≠ 20) || meet a.stOff a.stLen b.stOff b.stLen)

/-- One of the three entries of PROG_IMAGE; none for an empty place. -/
def imgEntry (c : Cmd) (j : Nat) : Option ImgEntry :=
  let o := 12 + 12 * j
  if Arg.zero c o 12 then none
  else some { off := Arg.u c o 4, kind := Arg.u c (o + 4) 1, typ := Arg.u c (o + 5) 1, index := Arg.u c (o + 6) 2
              stOff := Arg.u c (o + 8) 1, stLen := Arg.u c (o + 9) 1, dflt := Arg.u c (o + 10) 2 }

/-- PROG_IMAGE (R356, R382). -/
def progImage (c : Cmd) (s : State) : Reply :=
  let t := Arg.u c 0 2
  let out := decide (Arg.u c 2 1 = 1)
  let first := Arg.u c 4 4
  let es := (List.range 3).filterMap fun j => (imgEntry c j).map fun e => (first + j, e)
  if 1023 < t ∨ 1 < Arg.u c 2 1 ∨ (es.any fun q => !entryOk s out q.2) then .refuse 0x4B
  else if out && es.any fun q => s.prog.tasks.any fun p => decide (p.1 ≠ t) && p.2.outMap.any fun r => sameOutput q.2 r.2 then
    .refuse 0x46
  else
    let x := s.task t
    let put (m : Tab ImgEntry) : Tab ImgEntry := es.foldl (fun m q => Tab.set m q.1 q.2) m
    .config 4 (s.setTask t (if out then { x with outMap := put x.outMap } else { x with inMap := put x.inMap }))

/-- One of the four bindings of PROG_MAP; none for an empty place. -/
def bindingOf (c : Cmd) (j : Nat) : Option (Nat × Nat × Binding) :=
  let o := 12 * j
  if Arg.zero c o 12 then none
  else some (Arg.u c o 1, Arg.u c (o + 2) 2,
    { given := true, task := Arg.u c (o + 4) 2, typ := Arg.u c (o + 6) 1, addr := Arg.u c (o + 8) 4 })

/-- Reserved bytes of PROG_MAP are zero. Log: 56 (DEDUCED, unsafe). -/
def mapFormat (c : Cmd) : Bool :=
  (List.range 4).all fun j => Arg.zero c (12 * j + 1) 1 && Arg.zero c (12 * j + 7) 1

/-- PROG_MAP (R356, R360). Log: 56 (DEDUCED, unsafe), 57 (DEDUCED, unsafe). -/
def progMap (c : Cmd) (s : State) : Reply :=
  let bs := (List.range 4).filterMap (bindingOf c)
  let bad (q : Nat × Nat × Binding) : Bool :=
    let seg := q.2.2.addr / 2 ^ 28
    decide (q.1 = 0) || decide (2 < q.1) || decide (1023 < q.2.1) || decide (1023 < q.2.2.task) || decide (4 < q.2.2.typ) ||
      decide (seg < 2) || decide (3 < seg) || decide (q.2.2.addr % 4 ≠ 0)
  let second (q : Nat × Nat × Binding) : Bool :=
    (s.prog.recipeVars ++ s.prog.recNums).any fun p => p.2.given && decide (p.2.addr = q.2.2.addr) && decide (p.2.task ≠ q.2.2.task)
  if bs.any bad then .refuse 0x4B
  else if bs.any second then .refuse 0x46
  else
    .config 4 (bs.foldl (fun s q =>
      if q.1 = 1 then { s with prog.recipeVars := Tab.set s.prog.recipeVars q.2.1 q.2.2 }
      else
        -- its tap has the variable's format from now on (R290)
        { s with prog.recNums := Tab.set s.prog.recNums q.2.1 q.2.2
                 acq.recVals := Tab.set s.acq.recVals q.2.1
                   (tapOf q.2.2.typ (readVar s q.2.2.addr (typeSize q.2.2.typ))) }) s)

/-- An entry of PROG_CHANGE: address word, TYPE and value. -/
def changeEntry (c : Cmd) (j : Nat) : Nat × Nat × Nat := (Arg.u c (6 + 14 * j) 4, Arg.u c (10 + 14 * j) 1, Arg.u c (12 + 14 * j) 8)

/-- COUNT, TYPE, TASK and the reserved bytes of PROG_CHANGE. -/
def changeFormat (c : Cmd) : Bool :=
  let n := Arg.u c 2 1
  decide (1 ≤ n) && decide (n ≤ 3) && decide (Arg.u c 0 2 ≤ 1023) && Arg.zero c 3 3 &&
    (List.range 3).all fun j => if j < n then Arg.zero c (11 + 14 * j) 1 && decide (Arg.u c (10 + 14 * j) 1 ≤ 4)
      else Arg.zero c (6 + 14 * j) 14

/-- Why an entry of PROG_CHANGE is refused (R370, R411). -/
def changeReason (s : State) (t : Nat) (e : Nat × Nat × Nat) : Option Nat :=
  let l := s.prog.image
  let seg := e.1 / 2 ^ 28
  let off := e.1 % 2 ^ 28
  match l.vars.find? fun v => v.1 = e.1 with
  | none => some 0x44
  | some v =>
    if seg = 1 then
      if meet off (typeSize v.2) l.fixedStart l.fixedLen then some 0x44 else if v.2 = e.2.1 then none else some 0x45
    else if !ownsVar s t e.1 (typeSize v.2) then some 0x44
    else if v.2 = e.2.1 then none
    else some 0x45

/-- PROG_CHANGE (R369). -/
def progChange (c : Cmd) (s : State) : Reply :=
  let t := Arg.u c 0 2
  let es := (List.range (Arg.u c 2 1)).map (changeEntry c)
  if !s.enabled 4 then .refuse 0x40
  else if !(s.task t).cfg.given then .refuse 0x44
  else
    match es.findSome? (changeReason s t) with
    | some r => .refuse r
    | none =>
      let x := s.task t
      .accepted (s.setTask t { x with
        changes := x.changes ++ [{ org := c.origin 0x0165, app := s.tm.frame, entries := es }] })

/-- The fields of FORCE_SET are listed values and its reserved bytes zero. -/
def forceFormat (c : Cmd) : Bool :=
  let k := Arg.u c 1 1
  decide (k ≤ 2) && decide (Arg.u c 2 2 ≤ 1023) && decide (Arg.u c 8 1 ≤ (if k = 2 then 4 else 6)) && Arg.zero c 9 7 &&
    Arg.zeroFrom c 24

/-- The force entry of a FORCE_SET. -/
def forceOf (c : Cmd) (s : State) : Force :=
  { inUse := true, kind := Arg.u c 1 1, task := Arg.u c 2 2, addr := Arg.u c 4 4, typ := Arg.u c 8 1, value := Arg.u c 16 8
    app := s.tm.frame }

/-- Why a force target is refused. Log: 56 (DEDUCED, unsafe). -/
def forceReason (s : State) (n : Nat) (f : Force) : Option Nat :=
  let x := s.task f.task
  let there := match f.kind with
    | 0 => decide ((Tab.get x.inMap f.addr).kind ≠ 0)
    | 1 => decide ((Tab.get x.outMap f.addr).kind ≠ 0)
    | _ => ownsVar s f.task f.addr (typeSize f.typ)
  if !there then some 0x44
  else if s.prog.forces.any fun q => decide (q.1 ≠ n) && q.2.inUse && decide (q.2.kind = f.kind) && decide (q.2.addr = f.addr) &&
      (decide (f.kind = 2) || decide (q.2.task = f.task)) then some 0x48
  else none

/-- An output entry of a task whose output boundary is the present one follows its force at once (R373). -/
def resend (kind t i : Nat) (s : State) : State :=
  let x := s.task t
  if decide (kind = 1) && decide (x.outAt = s.tm.frame + 1) then
    let e := Tab.get x.outMap i
    let s1 := { s with
      prog.forces := Tab.mapVals s.prog.forces fun _ q =>
        if q.inUse && decide (q.kind = 1) && decide (q.task = t) && decide (q.addr = i) then { q with active := true } else q
      prog.ending := s.prog.ending.filter fun q => !(decide (q.kind = 1) && decide (q.task = t) && decide (q.addr = i)) }
    let own := Mem.readLe s1.deck (addr s1 4 (x.cfg.imgOut + e.off)) (fieldSize e)
    sendOutput [] e ((entryForce s1 1 t i).getD own) s1
  else s

/-- FORCE_SET (R373, R375). -/
def forceSet (c : Cmd) (s : State) : Reply :=
  let n := Arg.u c 0 1
  let f := forceOf c s
  if !s.enabled 4 then .refuse 0x40
  else
    match forceReason s n f with
    | some r => .refuse r
    | none =>
      let old := Tab.get s.prog.forces n
      let s1 := { s with
        prog.forces := Tab.set s.prog.forces n { f with last := if f.kind = 0 then none else some (underlying s f) }
        prog.ending := if old.active then s.prog.ending ++ [{ old with app := s.tm.frame }] else s.prog.ending }
      .done (Ops.raise Event.forceSet (mkSrc 1 4 0) n f.value
        (resend f.kind f.task f.addr (resend old.kind old.task old.addr s1))) 0

/-- FORCE_CLEAR (R373). -/
def forceClear (c : Cmd) (s : State) : Reply :=
  let n := Arg.u c 0 1
  let old := Tab.get s.prog.forces n
  if !s.enabled 4 then .refuse 0x40
  else if !old.inUse then .done s 0
  else
    .done (Ops.raise Event.forceClear (mkSrc 1 4 0) n old.value
      (resend old.kind old.task old.addr
        { s with prog.forces := Tab.erase s.prog.forces n
                 prog.ending := if old.active then s.prog.ending ++ [{ old with app := s.tm.frame }] else s.prog.ending })) 0

/-- FORCE_READ (R381). -/
def forceRead (c : Cmd) (s : State) : Reply :=
  let n := Arg.u c 0 1
  let f := Tab.get s.prog.forces n
  .done { s with prog.forces := Tab.set s.prog.forces n { f with changed := false } }
    (f.addr + f.value * 2 ^ 32 + (Bits.b2n f.inUse + 2 * Bits.b2n f.changed) * 2 ^ 96)

/-- TASK_CONTROL (R380): a cycle in progress runs on; one not dispatched is not begun. Log: 56 (DEDUCED, unsafe). -/
def taskControl (c : Cmd) (s : State) : Reply :=
  let t := Arg.u c 0 2
  let x := s.task t
  if !s.enabled 4 then .refuse 0x40
  else
    match Arg.u c 2 1 with
    | 0 =>
      let cyc := x.cyc.filter fun d => d.engine.isSome
      .done (s.setTask t { x with started := false, cyc := cyc }) 0
    | 1 =>
      if x.faulted then .refuse 0x49
      else if x.started || !x.cfg.given then .done s 0
      else .done (s.setTask t (startTask x)) 0
    | _ =>
      if !x.cfg.given then .done s 0
      else .done (s.setTask t (startTask { x with faulted := false, actionDue := false })) 0

/-- TASK_FLAGS (R380). -/
def taskFlags (c : Cmd) (s : State) : Reply :=
  let t := Arg.u c 0 2
  let f := Arg.u c 4 4
  let x := s.task t
  if !s.enabled 4 then .refuse 0x40
  else if f &&& 0xFFFFFE ≠ f then .refuse 0x4A
  else if !x.cfg.given then .done s 0
  else .done (s.setTask t { x with flags := x.flags ||| f }) 0

/-- TASK_STATUS (R382). Log: 15 (DEDUCED, unsafe). -/
def taskStatus (c : Cmd) (s : State) : Reply :=
  let x := s.task (Arg.u c 0 2)
  let st : Nat :=
    if x.faulted then 4
    else
      match x.cyc with
      | some d => if d.engine.isNone then 2 else 3
      | none => if !x.started then 0 else if x.flags &&& x.cfg.mask = 0 then 1 else 2
  let num := match x.cyc with
    | some d => d.num
    | none => (x.next + 2 ^ 32 - 1) % 2 ^ 32
  .done s (st + min x.skips 255 * 2 ^ 8 + (if x.next = 0 ∧ x.cyc = none then 0 else num) * 2 ^ 32 +
    min x.overruns 65535 * 2 ^ 64 + x.maxOps % 2 ^ 32 * 2 ^ 96)

/-- TASK_FAULT_READ (R368): the 32 bytes of Table 10-2. -/
def taskFaultRead (c : Cmd) (s : State) : Reply :=
  let t := Arg.u c 0 2
  match (s.task t).fault with
  | none => .done s 0
  | some f =>
    .done s (t + f.cause * 2 ^ 16 + f.access * 2 ^ 24 + f.codeAddr * 2 ^ 32 + f.dataAddr * 2 ^ 64 + f.cycle * 2 ^ 96 +
      f.frame * 2 ^ 128 + f.engine * 2 ^ 192)

/-! The PROGRAM check and the registers. -/

/-- A kind that names an element of another subsystem, with that subsystem's bit. -/
def kindBit (kind : Nat) : Option Nat :=
  match kind with
  | 2 => some 1
  | 3 => some 8
  | 5 => some 0
  | 6 => some 6
  | 7 => some 6
  | 8 => some 7
  | 16 => some 8
  | 17 => some 9
  | 20 => some 6
  | 21 => some 6
  | _ => none

/-- Whether an output entry names an output its program does not drive (R359). -/
def notDriven (s : State) (e : ImgEntry) : Bool :=
  (decide (e.kind = 16) && decide ((s.valve e.index).cfg.drive ≠ 2)) ||
    (decide (e.kind = 17) && decide ((s.pwm e.index).drive ≠ 3))

/-- Step 1: each task in its program (R410). Log: 37 (DEDUCED, unsafe). -/
def checkFormat (s : State) : Option (Nat × Nat) :=
  let l := pairLoc s.nodeId 4 0 0
  (s.prog.tasks.filter fun q => q.2.cfg.given).findSome? fun q => (taskPlace s q.1 q.2).map fun r => (r, l)

/-- Step 2: outputs, references to subsystems not enabled, SIGNAL targets (R133, R359, R410). -/
def checkRefs (en : Nat) (s : State) : Option (Nat × Nat) :=
  let l := pairLoc s.nodeId 4 0 0
  (s.prog.tasks.filter fun q => q.2.cfg.given).findSome? fun q =>
    let es := (q.2.inMap ++ q.2.outMap).map (·.2)
    if es.any fun e => (kindBit e.kind).any fun b => !en.testBit b then some (0x76, l)
    else if es.any (notDriven s) then some (0x47, l)
    else if (taskCode s q.1).any fun i => decide (i.op = 2) && !(s.task (i.arg % 65536)).cfg.given then some (0x43, l)
    else none

/-- Operations per second of the configured tasks, as a fraction over a common denominator of 1: numerator and denominator
(R383). Log: 37 (DEDUCED, unsafe). -/
def load (s : State) : Nat × Nat :=
  (s.prog.tasks.filter fun q => q.2.cfg.given && decide (0 < period q.2.cfg)).foldl (fun a q =>
    let p := period q.2.cfg
    (a.1 * p + q.2.cfg.budget * 64000 * a.2, a.2 * p)) (0, 1)

/-- Step 3: the operation budget (R383); the program area's own tests are with the Deck areas. -/
def checkLoad (s : State) : Option (Nat × Nat) :=
  let l := pairLoc s.nodeId 4 0 0
  let a := load s
  if (s.prog.tasks.any fun q => q.2.cfg.given && decide (343 * period q.2.cfg < q.2.cfg.budget)) ||
      decide (352000000 * a.2 < a.1) then some (0x41, l)
  else none

/-- PROG_STATUS (Table 10-10). -/
def status (s : State) : Nat :=
  (s.prog.tasks.filter fun q => q.2.started && !q.2.faulted).length + (s.prog.tasks.filter fun q => q.2.faulted).length * 2 ^ 16 +
    s.prog.busy * 2 ^ 28

/-- PROG_FLAGS (Table 10-11). -/
def flags (s : State) : Nat :=
  Bits.b2n s.prog.fOverrun + 2 * Bits.b2n s.prog.fFault + 4 * Bits.b2n s.prog.fBudget + 8 * Bits.b2n s.prog.fForce +
    16 * Bits.b2n s.prog.fStation + (s.prog.forces.filter fun q => q.2.inUse).length * 2 ^ 16

/-- A write to PROG_FLAGS (R384). -/
def flagsWrite (v : Nat) (s : State) : State :=
  { s with prog.fOverrun := s.prog.fOverrun && !v.testBit 0, prog.fFault := s.prog.fFault && !v.testBit 1
           prog.fBudget := s.prog.fBudget && !v.testBit 2, prog.fForce := s.prog.fForce && !v.testBit 3
           prog.fStation := s.prog.fStation && !v.testBit 4 }

end Prog

end Sys2Proof.Machine
end

