-- ==== Sys2Proof/Machine/Lintis.lean ====
section
/-!
DEFINITION. The engines that execute Lintis code: grants, the views of memory a cycle has, the order of checks, traps,
operation counts and the forms of the instructions (R386 to R405).
-/

namespace Sys2Proof.Machine.Lintis
open Prog LintisCode

/-- What an instruction does to its cycle. -/
inductive Res where
  /-- Cause, ACCESS and DATA_ADDR of the fault (Table 10-2). -/
  | trap (cause access addr : Nat)
  /-- The cycle after it, the Deck, and its operations (R405). -/
  | go (c : Cycle) (deck : Mem) (units : Nat)

/-- An instruction over the task, its cycle with the pc already at the next instruction, and the state it reads. -/
abbrev Act := State → Nat → Cycle → Res

/-- The cycle an engine executes: its task and the cycle. -/
def current (s : State) (e : Nat) : Option (Nat × Cycle) :=
  s.prog.tasks.findSome? fun q =>
    match q.2.cyc with
    | some c => if c.engine = some e ∧ c.ended = false then some (q.1, c) else none
    | none => none

/-- A task's own code range and the common range: its execute grants (Table 10-5). -/
def grants (s : State) (t : Nat) : List (Nat × Nat) :=
  ((s.prog.image.tasks.filter fun x => x.1 = t).map (·.2)) ++ [(s.prog.image.commonStart, s.prog.image.commonLen)]

/-- Whether a task may execute at an offset. -/
def mayRun (s : State) (t off : Nat) : Bool := (grants s t).any fun r => inRange r off

/-- Whether execution may go on at `next`: after `from_` in sequence it must stay in the same code range, else lie in the
execute grants (R401, R404). -/
def lands (s : State) (t from_ seq next : Nat) : Bool :=
  if next = seq then (grants s t).any fun r => inRange r from_ && inRange r next else mayRun s t next

/-- Whether an access of `n` bytes at an address word is granted (R388, Table 10-5). -/
def granted (s : State) (t : Nat) (write : Bool) (a n : Nat) : Bool :=
  let off := a % 2 ^ 28
  let x := s.task t
  let l := s.prog.image
  decide (n = 0) ||
  match a / 2 ^ 28 with
  | 1 => !write && decide (off + n ≤ l.constSize)
  | 2 => within off n x.cfg.dataBase x.cfg.dataSize
  | 3 => if write then ownsShared s t off n else decide (off + n ≤ l.sharedSize)
  | 4 => if write then within off n x.cfg.imgOut (imgLen x.outMap) else within off n x.cfg.imgIn (imgLen x.inMap)
  | _ => false

/-- Whether the OFFSET of a 4- or 8-byte, or of a 2-byte access is aligned (Table 11-4). -/
def aligned (a n : Nat) : Bool := if n = 4 ∨ n = 8 then a % 4 = 0 else if n = 2 then a % 2 = 0 else true

/-- A byte under its force as the cycle's writes and ready instant leave it (R354, R389). -/
def underByte (s : State) (c : Cycle) (a : Nat) : Byte :=
  let off := a % 2 ^ 28
  let seg := a / 2 ^ 28
  let deep := Tab.get s.deck (addr s seg off)
  let beyond (ov : Tab Nat) (els : Byte) : Byte := let v := Tab.get ov off; if v = 0 then els else BitVec.ofNat 8 v
  match seg with
  | 1 => beyond c.constOld deep
  | 3 => beyond c.shared (beyond c.sharedOld deep)
  | 4 => beyond c.out deep
  | _ => deep

/-- A byte as a read gives it: a force of a variable covers it (R372). -/
def readByte (s : State) (c : Cycle) (a : Nat) : Byte :=
  match forcedByte s a with
  | some b => BitVec.ofNat 8 b
  | none => underByte s c a

/-- `n` bytes as a read gives them. -/
def readBytes (s : State) (c : Cycle) (a : Nat) : Nat → Bytes
  | 0 => []
  | n + 1 => readByte s c a :: readBytes s c (a + 1) n

/-- Writes bytes: the data segment at once, the shared segment and the output image into the cycle's own buffers. -/
def write (s : State) (c : Cycle) (a : Nat) (bs : Bytes) : Cycle × Mem :=
  let off := a % 2 ^ 28
  let put (ov : Tab Nat) : Tab Nat := (bs.zipIdx.foldl (fun ov q => Tab.set ov (off + q.2) (256 + q.1.toNat)) ov)
  match a / 2 ^ 28 with
  | 2 => (c, Mem.write s.deck (addr s 2 off) bs)
  | 3 => ({ c with shared := put c.shared }, s.deck)
  | 4 => ({ c with out := put c.out }, s.deck)
  | _ => (c, s.deck)

/-- Ends an instruction that needs `rest` left on the stack and pushes `res`: the overflow check is the last (R404). -/
def push (c : Cycle) (deck : Mem) (units : Nat) (res rest : List Nat) : Res :=
  if 256 < (res ++ rest).length then .trap 0x01 0 0 else .go { c with stack := res ++ rest } deck units

/-- A store of granted and aligned bytes, `rest` left on the stack; a 1,025th word of the write buffer traps (R389). -/
def store (s : State) (c : Cycle) (a : Nat) (bs : Bytes) (units : Nat) (rest : List Nat) : Res :=
  let w := write s c a bs
  if 1024 < bufferWords w.1.shared then .trap 0x0A 0 0 else .go { w.1 with stack := rest } w.2 units

/-- An instruction on cells alone: `need` cells, top first, give the cells it leaves, top first, or a trap code. -/
def stackOp (need : Nat) (f : List Nat → Except Nat (List Nat)) : Act := fun s _ c =>
  if c.stack.length < need then .trap 0x02 0 0
  else
    match f (c.stack.take need) with
    | .error code => .trap code 0 0
    | .ok res => push c s.deck 1 res (c.stack.drop need)

/-- A stack operation that cannot trap on its operands. -/
def pureOp (need : Nat) (f : List Nat → List Nat) : Act := stackOp need fun l => .ok (f l)

/-- The 64-bit value of an l or d: high cell above the low one (R390). -/
def wide (hi lo : Nat) : Nat := hi % 2 ^ 32 * 2 ^ 32 + lo % 2 ^ 32

/-- The two cells of a 64-bit value, top first. -/
def cells (v : Nat) : List Nat := [v / 2 ^ 32 % 2 ^ 32, v % 2 ^ 32]

/-- ( → v ), one cell. -/
def give (v : Nat) : Act := pureOp 0 fun _ => [v % 2 ^ 32]

/-- ( → v ), two cells. -/
def give2 (v : Nat) : Act := pureOp 0 fun _ => cells v

/-- One cell to one. -/
def un (f : Nat → Nat) : Act := pureOp 1 fun l => [f (l.getD 0 0) % 2 ^ 32]

/-- Two cells, x deeper than y, to one. -/
def bin (f : Nat → Nat → Nat) : Act := pureOp 2 fun l => [f (l.getD 1 0) (l.getD 0 0) % 2 ^ 32]

/-- Two cells to one, or a trap. -/
def binT (f : Nat → Nat → Except Nat Nat) : Act := stackOp 2 fun l => (f (l.getD 1 0) (l.getD 0 0)).map fun v => [v % 2 ^ 32]

/-- A 64-bit value to a 64-bit value. -/
def un2 (f : Nat → Nat) : Act := pureOp 2 fun l => cells (f (wide (l.getD 0 0) (l.getD 1 0)))

/-- Two 64-bit values to one. -/
def bin2 (f : Nat → Nat → Nat) : Act :=
  pureOp 4 fun l => cells (f (wide (l.getD 2 0) (l.getD 3 0)) (wide (l.getD 0 0) (l.getD 1 0)))

/-- Two 64-bit values to one, or a trap. -/
def bin2T (f : Nat → Nat → Except Nat Nat) : Act :=
  stackOp 4 fun l => (f (wide (l.getD 2 0) (l.getD 3 0)) (wide (l.getD 0 0) (l.getD 1 0))).map cells

/-- A comparison of two cells (R397). -/
def cmp (f : Nat → Nat → Bool) : Act := bin fun x y => Bits.b2n (f x y)

/-- A comparison of two 64-bit values. -/
def cmp2 (f : Nat → Nat → Bool) : Act :=
  pureOp 4 fun l => [Bits.b2n (f (wide (l.getD 2 0) (l.getD 3 0)) (wide (l.getD 0 0) (l.getD 1 0)))]

/-- One cell to a 64-bit value. -/
def widen (f : Nat → Nat) : Act := pureOp 1 fun l => cells (f (l.getD 0 0))

/-- A 64-bit value to one cell. -/
def narrow (f : Nat → Nat) : Act := pureOp 2 fun l => [f (wide (l.getD 0 0) (l.getD 1 0)) % 2 ^ 32]

/-- A 64-bit value and a count above it to a 64-bit value. -/
def shift2 (f : Nat → Nat → Nat) : Act := pureOp 3 fun l => cells (f (wide (l.getD 1 0) (l.getD 2 0)) (l.getD 0 0 % 64))

/-- A load of `n` bytes at an address word, after `rest` is left on the stack: grant, alignment, overflow (R404). -/
def loadAt (n : Nat) (f : Nat → List Nat) (a : Nat) (rest : List Nat) : Act := fun s t c =>
  if !granted s t false a n then .trap 0x80 0 a
  else if !aligned a n then .trap 0x05 0 0
  else push c s.deck 1 (f (Bits.ofLe (readBytes s c a n))) rest

/-- A load from its operand's address. -/
def load (n : Nat) (f : Nat → List Nat) (a : Nat) : Act := fun s t c => loadAt n f a c.stack s t c

/-- A load from the address on the stack. -/
def loadX (n : Nat) (f : Nat → List Nat) : Act := fun s t c =>
  match c.stack with
  | [] => .trap 0x02 0 0
  | a :: rest => loadAt n f a rest s t c

/-- A store of the low `n` bytes of a value at an address word. -/
def storeAt (n v a : Nat) (rest : List Nat) : Act := fun s t c =>
  if !granted s t true a n then .trap 0x80 1 a
  else if !aligned a n then .trap 0x05 0 0
  else store s c a (Bits.toLe n v) 1 rest

/-- The value of `k` cells, top first. -/
def valueOf (k : Nat) (l : List Nat) : Nat := if k = 2 then wide (l.getD 0 0) (l.getD 1 0) else l.getD 0 0

/-- A store to its operand's address of a value of `k` cells. -/
def save (n k : Nat) (a : Nat) : Act := fun s t c =>
  if c.stack.length < k then .trap 0x02 0 0 else storeAt n (valueOf k c.stack) a (c.stack.drop k) s t c

/-- A store to the address on the stack. -/
def saveX (n k : Nat) : Act := fun s t c =>
  if c.stack.length < k + 1 then .trap 0x02 0 0
  else storeAt n (valueOf k (c.stack.drop 1)) (c.stack.getD 0 0) (c.stack.drop (k + 1)) s t c

/-- Sign extension of the low `n` bits to a cell. -/
def sx (n v : Nat) : Nat := Bits.unsigned 32 (Bits.signed n v)

/-- A result of 32-bit arithmetic. -/
def w32 (z : Int) : Nat := Bits.unsigned 32 z

/-- A result of 64-bit arithmetic. -/
def w64 (z : Int) : Nat := Bits.unsigned 64 z

/-- int32 reading of a cell. -/
def i32 (v : Nat) : Int := Bits.signed 32 v

/-- int64 reading. -/
def i64 (v : Nat) : Int := Bits.signed 64 v

/-- A division by `y` that traps when it is 0 (R394). -/
def byNonzero (y : Nat) (r : Nat) : Except Nat Nat := if y = 0 then .error 0x06 else .ok r

/-- A float truncated and saturated to a range; NaN gives 0 (R396). -/
def toInt (f : Fmt) (lo hi : Int) (v : Nat) : Int := Bits.clamp lo hi (f.trunc v (2 ^ 64))

/-- A jump to a code offset. -/
def jump (target : Nat) : Act := fun s _ c => .go { c with pc := target } s.deck 1

/-- The target of a branch distance from the next instruction (R393). -/
def branchTo (c : Cycle) (j : Nat) : Nat := ((c.pc : Int) + Bits.signed 16 j).toNat

/-- A branch taken when the popped cell is zero, or is not. -/
def branch (onZero : Bool) (j : Nat) : Act := fun s _ c =>
  match c.stack with
  | [] => .trap 0x02 0 0
  | x :: rest => .go { c with stack := rest, pc := if decide (x = 0) == onZero then branchTo c j else c.pc } s.deck 1

/-- CALL (R401). -/
def call (k : Nat) : Act := fun s _ c =>
  if 32 ≤ c.ret.length then .trap 0x03 0 0 else .go { c with pc := k, ret := c.pc :: c.ret } s.deck 1

/-- CALLX (R401): the grant precedes the instruction's own traps. Log: 59 (DEDUCED, unsafe). -/
def callX : Act := fun s t c =>
  match c.stack with
  | [] => .trap 0x02 0 0
  | k :: rest =>
    if !mayRun s t k then .trap 0x80 2 k
    else if 32 ≤ c.ret.length then .trap 0x03 0 0
    else if !s.prog.image.funcs.contains k then .trap 0x08 0 0
    else .go { c with stack := rest, pc := k, ret := c.pc :: c.ret } s.deck 1

/-- RET (R401). Log: 59 (DEDUCED, unsafe). -/
def ret : Act := fun s _ c =>
  match c.ret with
  | [] => .trap 0x04 0 0
  | k :: rest => .go { c with pc := k, ret := rest } s.deck 1

/-- A word of the constant segment, which the fixed range holds as loaded. -/
def constWord (s : State) (off : Nat) : Nat := Mem.readLe s.deck (addr s 1 off) 4

/-- JTAB (R401). -/
def jumpTable (w : Nat) : Act := fun s _ c =>
  match c.stack with
  | [] => .trap 0x02 0 0
  | n :: rest =>
    let k := if n < constWord s w ∧ n < 2 ^ 31 then constWord s (w + 8 + 4 * n) else constWord s (w + 4)
    .go { c with stack := rest, pc := k } s.deck 1

/-- Operations of MOVE and FILL (R405). -/
def blockUnits (u : Nat) : Nat := 1 + (u + 31) / 32

/-- MOVE (R402): the source's grant first. Log: 59 (DEDUCED, unsafe). -/
def move : Act := fun s t c =>
  if c.stack.length < 3 then .trap 0x02 0 0
  else
    let u := c.stack.getD 0 0
    let dst := c.stack.getD 1 0
    let src := c.stack.getD 2 0
    if !granted s t false src u then .trap 0x80 0 src
    else if !granted s t true dst u then .trap 0x80 1 dst
    else if 65536 < u then .trap 0x09 0 0
    else store s c dst (readBytes s c src u) (blockUnits u) (c.stack.drop 3)

/-- FILL (R402). Log: 59 (DEDUCED, unsafe). -/
def fill : Act := fun s t c =>
  if c.stack.length < 3 then .trap 0x02 0 0
  else
    let u := c.stack.getD 0 0
    let dst := c.stack.getD 1 0
    if !granted s t true dst u then .trap 0x80 1 dst
    else if 65536 < u then .trap 0x09 0 0
    else store s c dst (List.replicate u (BitVec.ofNat 8 (c.stack.getD 2 0))) (blockUnits u) (c.stack.drop 3)

/-- STBIT: the read counts as part of the write, of the byte under any force. Log: 59 (DEDUCED, unsafe). -/
def setBitAt (a b : Nat) : Act := fun s t c =>
  match c.stack with
  | [] => .trap 0x02 0 0
  | v :: rest =>
    if !granted s t true a 1 then .trap 0x80 1 a
    else store s c a [BitVec.ofNat 8 (Bits.setBit (underByte s c a).toNat b (decide (v % 2 = 1)))] 1 rest

/-- SIGNAL (R400). -/
def signal (t b : Nat) : Act := fun s _ c =>
  .go { c with signals := if c.signals.contains (t, b) then c.signals else c.signals ++ [(t, b)] } s.deck 1

/-- TAKE (R399). -/
def take : Act := fun s _ c => .go { c with stack := [], ret := [], ended := true } s.deck 1

/-- A sampled instruction when it brings its task's count to a multiple of PERIOD (R593); its latencies come with the
die-local values of the frame. Log: 60 (DEDUCED, unsafe). -/
def sample (t : Nat) (c : Cycle) (pc opcode units : Nat) (trapped : Bool) (s : State) : State :=
  if s.log.sampleEn && (decide (s.log.sampleTask = 0xFFFF) || decide (s.log.sampleTask = t)) then
    let n := Tab.get s.log.sampleOps t + units
    let s1 := { s with log.sampleOps := Tab.set s.log.sampleOps t n }
    if 0 < s.log.samplePeriod ∧ n % s.log.samplePeriod = 0 then
      let x : Sample := { task := t, opcode := opcode, trapped := trapped, addr := pc, cycle := c.num, frame := c.b }
      { s1 with log.sampled := s1.log.sampled ++ [(c.engine.getD 0, x)] }
    else s1
  else s

/-- A cycle that executed more than BUDGET_OPS operations (R365). -/
def overBudget (t : Nat) (c : Cycle) (s : State) : State :=
  if (s.task t).cfg.budget < c.ops then
    limited Event.taskBudget t t c.ops false true { s with prog.fBudget := true }
  else s

/-- Enters what an executed instruction has left: its count, its cycle, or the fault at its end (R365 to R367, R399, R404,
R405). Log: 59 (DEDUCED, unsafe). -/
def settle (t : Nat) (c : Cycle) (opcode len : Nat) (r : Res) (s : State) : State :=
  match r with
  | .trap cause access a =>
    let d := { c with ops := c.ops + 1 }
    overBudget t d (fault t d cause access c.pc a true (sample t d c.pc opcode 1 true (Ops.count 4 16 1 s)))
  | .go c' deck units =>
    let d := { c' with ops := c.ops + units }
    let s1 := sample t d c.pc opcode units false (Ops.count 4 16 units { s with deck := deck })
    let x := s1.task t
    if d.ended then overBudget t d (s1.setTask t { x with cyc := some d, maxOps := max x.maxOps d.ops })
    else if lands s t c.pc (c.pc + len) d.pc then s1.setTask t { x with cyc := some d }
    else overBudget t d (fault t d 0x80 2 d.pc d.pc true s1)

/-- One instruction on an engine: it executes when its code is what stands at the engine's pc; an engine that runs no cycle,
or stands at other code, does not execute it. Log: 58 (DESIGN CHOICE, unsafe). -/
def run (e : Nat) (code : Bytes) (act : Act) (s : State) : State :=
  match current s e with
  | none => s
  | some (t, c) =>
    if Mem.read s.deck (addr s 0 c.pc) code.length = code then
      settle t c (Bits.leAt code 0 1) code.length (act s t { c with pc := c.pc + code.length }) s
    else s

/-- An opcode with `n` operand bytes, little-endian. Log: 58 (DESIGN CHOICE, unsafe). -/
def enc (op n v : Nat) : Bytes := BitVec.ofNat 8 op :: Bits.toLe n v

end Sys2Proof.Machine.Lintis
end

