-- ==== Sys2Proof/Machine/LintisOps.lean ====
section
/-!
DEFINITION. The 126 opcodes of Table 11-3, each on the engine it names.
-/

namespace Sys2Proof.Machine
open Lintis

/-- NOP (Table 11-3). -/
def execOpNop (e : Fin 16) (s : State) : Answer :=
  .next (Lintis.run e (enc 0x00 0 0) (pureOp 0 fun _ => []) s)

/-- TAKE (R399). -/
def execOpTake (e : Fin 16) (s : State) : Answer :=
  .next (Lintis.run e (enc 0x01 0 0) take s)

/-- SIGNAL (R400). -/
def execOpSignal (e : Fin 16) (t : BitVec 16) (b : BitVec 8) (s : State) : Answer :=
  .next (Lintis.run e (enc 0x02 3 (t.toNat + b.toNat * 65536)) (signal t.toNat b.toNat) s)

/-- TRAP (Table 11-4). -/
def execOpTrap (e : Fin 16) (b : BitVec 8) (s : State) : Answer :=
  .next (Lintis.run e (enc 0x03 1 b.toNat) (fun _ _ _ => .trap b.toNat 0 0) s)

/-- TASKNO (R391). -/
def execOpTaskno (e : Fin 16) (s : State) : Answer :=
  .next (Lintis.run e (enc 0x04 0 0) (fun s t c => give t s t c) s)

/-- CYCFLAGS (R391). -/
def execOpCycflags (e : Fin 16) (s : State) : Answer :=
  .next (Lintis.run e (enc 0x05 0 0) (fun s t c => give c.flags s t c) s)

/-- CYCNO (R391). -/
def execOpCycno (e : Fin 16) (s : State) : Answer :=
  .next (Lintis.run e (enc 0x06 0 0) (fun s t c => give c.num s t c) s)

/-- CTIME (R391). -/
def execOpCtime (e : Fin 16) (s : State) : Answer :=
  .next (Lintis.run e (enc 0x07 0 0) (fun s t c => give2 c.ns s t c) s)

/-- FRAMENO (R391). -/
def execOpFrameno (e : Fin 16) (s : State) : Answer :=
  .next (Lintis.run e (enc 0x08 0 0) (fun s t c => give2 c.b s t c) s)

/-- PUSHB. -/
def execOpPushb (e : Fin 16) (v : BitVec 8) (s : State) : Answer :=
  .next (Lintis.run e (enc 0x10 1 v.toNat) (give (sx 8 v.toNat)) s)

/-- PUSHH. -/
def execOpPushh (e : Fin 16) (v : BitVec 16) (s : State) : Answer :=
  .next (Lintis.run e (enc 0x11 2 v.toNat) (give (sx 16 v.toNat)) s)

/-- PUSHW. -/
def execOpPushw (e : Fin 16) (v : BitVec 32) (s : State) : Answer :=
  .next (Lintis.run e (enc 0x12 4 v.toNat) (give v.toNat) s)

/-- DUP. -/
def execOpDup (e : Fin 16) (s : State) : Answer :=
  .next (Lintis.run e (enc 0x13 0 0) (pureOp 1 fun l => [l.getD 0 0, l.getD 0 0]) s)

/-- DUP2. -/
def execOpDup2 (e : Fin 16) (s : State) : Answer :=
  .next (Lintis.run e (enc 0x14 0 0) (pureOp 2 fun l => l ++ l) s)

/-- DROP. -/
def execOpDrop (e : Fin 16) (s : State) : Answer :=
  .next (Lintis.run e (enc 0x15 0 0) (pureOp 1 fun _ => []) s)

/-- DROP2. -/
def execOpDrop2 (e : Fin 16) (s : State) : Answer :=
  .next (Lintis.run e (enc 0x16 0 0) (pureOp 2 fun _ => []) s)

/-- SWAP. -/
def execOpSwap (e : Fin 16) (s : State) : Answer :=
  .next (Lintis.run e (enc 0x17 0 0) (pureOp 2 fun l => [l.getD 1 0, l.getD 0 0]) s)

/-- SWAP2. -/
def execOpSwap2 (e : Fin 16) (s : State) : Answer :=
  .next (Lintis.run e (enc 0x18 0 0) (pureOp 4 fun l => l.drop 2 ++ l.take 2) s)

/-- OVER. -/
def execOpOver (e : Fin 16) (s : State) : Answer :=
  .next (Lintis.run e (enc 0x19 0 0) (pureOp 2 fun l => l.getD 1 0 :: l) s)

/-- PICK. -/
def execOpPick (e : Fin 16) (b : BitVec 8) (s : State) : Answer :=
  .next (Lintis.run e (enc 0x1A 1 b.toNat) (pureOp (b.toNat + 1) fun l => l.getD b.toNat 0 :: l) s)

/-- LD32. -/
def execOpLd32 (e : Fin 16) (a : BitVec 32) (s : State) : Answer :=
  .next (Lintis.run e (enc 0x20 4 a.toNat) (load 4 (fun v => [v]) a.toNat) s)

/-- LD64. -/
def execOpLd64 (e : Fin 16) (a : BitVec 32) (s : State) : Answer :=
  .next (Lintis.run e (enc 0x21 4 a.toNat) (load 8 cells a.toNat) s)

/-- LDU8. -/
def execOpLdu8 (e : Fin 16) (a : BitVec 32) (s : State) : Answer :=
  .next (Lintis.run e (enc 0x22 4 a.toNat) (load 1 (fun v => [v]) a.toNat) s)

/-- LDI8. -/
def execOpLdi8 (e : Fin 16) (a : BitVec 32) (s : State) : Answer :=
  .next (Lintis.run e (enc 0x23 4 a.toNat) (load 1 (fun v => [sx 8 v]) a.toNat) s)

/-- LDU16. -/
def execOpLdu16 (e : Fin 16) (a : BitVec 32) (s : State) : Answer :=
  .next (Lintis.run e (enc 0x24 4 a.toNat) (load 2 (fun v => [v]) a.toNat) s)

/-- LDI16. -/
def execOpLdi16 (e : Fin 16) (a : BitVec 32) (s : State) : Answer :=
  .next (Lintis.run e (enc 0x25 4 a.toNat) (load 2 (fun v => [sx 16 v]) a.toNat) s)

/-- ST32. -/
def execOpSt32 (e : Fin 16) (a : BitVec 32) (s : State) : Answer :=
  .next (Lintis.run e (enc 0x26 4 a.toNat) (save 4 1 a.toNat) s)

/-- ST64. -/
def execOpSt64 (e : Fin 16) (a : BitVec 32) (s : State) : Answer :=
  .next (Lintis.run e (enc 0x27 4 a.toNat) (save 8 2 a.toNat) s)

/-- ST8. -/
def execOpSt8 (e : Fin 16) (a : BitVec 32) (s : State) : Answer :=
  .next (Lintis.run e (enc 0x28 4 a.toNat) (save 1 1 a.toNat) s)

/-- ST16. -/
def execOpSt16 (e : Fin 16) (a : BitVec 32) (s : State) : Answer :=
  .next (Lintis.run e (enc 0x29 4 a.toNat) (save 2 1 a.toNat) s)

/-- LDX32. -/
def execOpLdx32 (e : Fin 16) (s : State) : Answer :=
  .next (Lintis.run e (enc 0x2A 0 0) (loadX 4 fun v => [v]) s)

/-- LDX64. -/
def execOpLdx64 (e : Fin 16) (s : State) : Answer :=
  .next (Lintis.run e (enc 0x2B 0 0) (loadX 8 cells) s)

/-- LDXU8. -/
def execOpLdxu8 (e : Fin 16) (s : State) : Answer :=
  .next (Lintis.run e (enc 0x2C 0 0) (loadX 1 fun v => [v]) s)

/-- STX32. -/
def execOpStx32 (e : Fin 16) (s : State) : Answer :=
  .next (Lintis.run e (enc 0x2D 0 0) (saveX 4 1) s)

/-- STX64. -/
def execOpStx64 (e : Fin 16) (s : State) : Answer :=
  .next (Lintis.run e (enc 0x2E 0 0) (saveX 8 2) s)

/-- STX8. -/
def execOpStx8 (e : Fin 16) (s : State) : Answer :=
  .next (Lintis.run e (enc 0x2F 0 0) (saveX 1 1) s)

/-- IADD (R394). -/
def execOpIadd (e : Fin 16) (s : State) : Answer :=
  .next (Lintis.run e (enc 0x30 0 0) (bin fun x y => x + y) s)

/-- ISUB (R394). -/
def execOpIsub (e : Fin 16) (s : State) : Answer :=
  .next (Lintis.run e (enc 0x31 0 0) (bin fun x y => w32 (i32 x - i32 y)) s)

/-- IMUL (R394). -/
def execOpImul (e : Fin 16) (s : State) : Answer :=
  .next (Lintis.run e (enc 0x32 0 0) (bin fun x y => x * y) s)

/-- IDIV (R394). -/
def execOpIdiv (e : Fin 16) (s : State) : Answer :=
  .next (Lintis.run e (enc 0x33 0 0) (binT fun x y => byNonzero y (w32 ((i32 x).tdiv (i32 y)))) s)

/-- IREM (R394). -/
def execOpIrem (e : Fin 16) (s : State) : Answer :=
  .next (Lintis.run e (enc 0x34 0 0) (binT fun x y => byNonzero y (w32 ((i32 x).tmod (i32 y)))) s)

/-- INEG (R394). -/
def execOpIneg (e : Fin 16) (s : State) : Answer :=
  .next (Lintis.run e (enc 0x35 0 0) (un fun x => w32 (-(i32 x))) s)

/-- UDIV (R394). -/
def execOpUdiv (e : Fin 16) (s : State) : Answer :=
  .next (Lintis.run e (enc 0x36 0 0) (binT fun x y => byNonzero y (x / y)) s)

/-- UREM (R394). -/
def execOpUrem (e : Fin 16) (s : State) : Answer :=
  .next (Lintis.run e (enc 0x37 0 0) (binT fun x y => byNonzero y (x % y)) s)

/-- AND. -/
def execOpAnd (e : Fin 16) (s : State) : Answer :=
  .next (Lintis.run e (enc 0x38 0 0) (bin fun x y => x &&& y) s)

/-- OR. -/
def execOpOr (e : Fin 16) (s : State) : Answer :=
  .next (Lintis.run e (enc 0x39 0 0) (bin fun x y => x ||| y) s)

/-- XOR. -/
def execOpXor (e : Fin 16) (s : State) : Answer :=
  .next (Lintis.run e (enc 0x3A 0 0) (bin fun x y => x ^^^ y) s)

/-- NOT. -/
def execOpNot (e : Fin 16) (s : State) : Answer :=
  .next (Lintis.run e (enc 0x3B 0 0) (un fun x => x ^^^ 0xFFFFFFFF) s)

/-- SHL (R394). -/
def execOpShl (e : Fin 16) (s : State) : Answer :=
  .next (Lintis.run e (enc 0x3C 0 0) (bin fun x i => x <<< (i % 32)) s)

/-- SHR (R394). -/
def execOpShr (e : Fin 16) (s : State) : Answer :=
  .next (Lintis.run e (enc 0x3D 0 0) (bin fun x i => x >>> (i % 32)) s)

/-- SAR (R394). -/
def execOpSar (e : Fin 16) (s : State) : Answer :=
  .next (Lintis.run e (enc 0x3E 0 0) (bin fun x i => w32 (i32 x / 2 ^ (i % 32))) s)

/-- LADD (R394). -/
def execOpLadd (e : Fin 16) (s : State) : Answer :=
  .next (Lintis.run e (enc 0x40 0 0) (bin2 fun x y => x + y) s)

/-- LSUB (R394). -/
def execOpLsub (e : Fin 16) (s : State) : Answer :=
  .next (Lintis.run e (enc 0x41 0 0) (bin2 fun x y => w64 (i64 x - i64 y)) s)

/-- LMUL (R394). -/
def execOpLmul (e : Fin 16) (s : State) : Answer :=
  .next (Lintis.run e (enc 0x42 0 0) (bin2 fun x y => x * y) s)

/-- LDIV (R394). -/
def execOpLdiv (e : Fin 16) (s : State) : Answer :=
  .next (Lintis.run e (enc 0x43 0 0) (bin2T fun x y => byNonzero y (w64 ((i64 x).tdiv (i64 y)))) s)

/-- LREM (R394). -/
def execOpLrem (e : Fin 16) (s : State) : Answer :=
  .next (Lintis.run e (enc 0x44 0 0) (bin2T fun x y => byNonzero y (w64 ((i64 x).tmod (i64 y)))) s)

/-- LNEG (R394). -/
def execOpLneg (e : Fin 16) (s : State) : Answer :=
  .next (Lintis.run e (enc 0x45 0 0) (un2 fun x => w64 (-(i64 x))) s)

/-- LAND. -/
def execOpLand (e : Fin 16) (s : State) : Answer :=
  .next (Lintis.run e (enc 0x46 0 0) (bin2 fun x y => x &&& y) s)

/-- LOR. -/
def execOpLor (e : Fin 16) (s : State) : Answer :=
  .next (Lintis.run e (enc 0x47 0 0) (bin2 fun x y => x ||| y) s)

/-- LXOR. -/
def execOpLxor (e : Fin 16) (s : State) : Answer :=
  .next (Lintis.run e (enc 0x48 0 0) (bin2 fun x y => x ^^^ y) s)

/-- LSHL (R394). -/
def execOpLshl (e : Fin 16) (s : State) : Answer :=
  .next (Lintis.run e (enc 0x49 0 0) (shift2 fun x i => x <<< i) s)

/-- LSHR (R394). -/
def execOpLshr (e : Fin 16) (s : State) : Answer :=
  .next (Lintis.run e (enc 0x4A 0 0) (shift2 fun x i => x >>> i) s)

/-- LSAR (R394). -/
def execOpLsar (e : Fin 16) (s : State) : Answer :=
  .next (Lintis.run e (enc 0x4B 0 0) (shift2 fun x i => w64 (i64 x / 2 ^ i)) s)

/-- FADD (R395). -/
def execOpFadd (e : Fin 16) (s : State) : Answer :=
  .next (Lintis.run e (enc 0x50 0 0) (bin f32.add) s)

/-- FSUB (R395). -/
def execOpFsub (e : Fin 16) (s : State) : Answer :=
  .next (Lintis.run e (enc 0x51 0 0) (bin f32.sub) s)

/-- FMUL (R395). -/
def execOpFmul (e : Fin 16) (s : State) : Answer :=
  .next (Lintis.run e (enc 0x52 0 0) (bin f32.mul) s)

/-- FDIV (R395). -/
def execOpFdiv (e : Fin 16) (s : State) : Answer :=
  .next (Lintis.run e (enc 0x53 0 0) (bin f32.div) s)

/-- FNEG (R395). -/
def execOpFneg (e : Fin 16) (s : State) : Answer :=
  .next (Lintis.run e (enc 0x54 0 0) (un f32.neg) s)

/-- FABS (R395). -/
def execOpFabs (e : Fin 16) (s : State) : Answer :=
  .next (Lintis.run e (enc 0x55 0 0) (un f32.abs) s)

/-- FSQRT (R395). -/
def execOpFsqrt (e : Fin 16) (s : State) : Answer :=
  .next (Lintis.run e (enc 0x56 0 0) (un f32.sqrt) s)

/-- FRINT (R395). -/
def execOpFrint (e : Fin 16) (s : State) : Answer :=
  .next (Lintis.run e (enc 0x57 0 0) (un f32.rint) s)

/-- DADD (R395). -/
def execOpDadd (e : Fin 16) (s : State) : Answer :=
  .next (Lintis.run e (enc 0x58 0 0) (bin2 f64.add) s)

/-- DSUB (R395). -/
def execOpDsub (e : Fin 16) (s : State) : Answer :=
  .next (Lintis.run e (enc 0x59 0 0) (bin2 f64.sub) s)

/-- DMUL (R395). -/
def execOpDmul (e : Fin 16) (s : State) : Answer :=
  .next (Lintis.run e (enc 0x5A 0 0) (bin2 f64.mul) s)

/-- DDIV (R395). -/
def execOpDdiv (e : Fin 16) (s : State) : Answer :=
  .next (Lintis.run e (enc 0x5B 0 0) (bin2 f64.div) s)

/-- DNEG (R395). -/
def execOpDneg (e : Fin 16) (s : State) : Answer :=
  .next (Lintis.run e (enc 0x5C 0 0) (un2 f64.neg) s)

/-- DABS (R395). -/
def execOpDabs (e : Fin 16) (s : State) : Answer :=
  .next (Lintis.run e (enc 0x5D 0 0) (un2 f64.abs) s)

/-- DSQRT (R395). -/
def execOpDsqrt (e : Fin 16) (s : State) : Answer :=
  .next (Lintis.run e (enc 0x5E 0 0) (un2 f64.sqrt) s)

/-- DRINT (R395). -/
def execOpDrint (e : Fin 16) (s : State) : Answer :=
  .next (Lintis.run e (enc 0x5F 0 0) (un2 f64.rint) s)

/-- ICEQ (R397). -/
def execOpIceq (e : Fin 16) (s : State) : Answer :=
  .next (Lintis.run e (enc 0x60 0 0) (cmp fun x y => decide (x = y)) s)

/-- ICLT (R397). -/
def execOpIclt (e : Fin 16) (s : State) : Answer :=
  .next (Lintis.run e (enc 0x61 0 0) (cmp fun x y => decide (i32 x < i32 y)) s)

/-- ICLE (R397). -/
def execOpIcle (e : Fin 16) (s : State) : Answer :=
  .next (Lintis.run e (enc 0x62 0 0) (cmp fun x y => decide (i32 x ≤ i32 y)) s)

/-- UCLT (R397). -/
def execOpUclt (e : Fin 16) (s : State) : Answer :=
  .next (Lintis.run e (enc 0x63 0 0) (cmp fun x y => decide (x < y)) s)

/-- UCLE (R397). -/
def execOpUcle (e : Fin 16) (s : State) : Answer :=
  .next (Lintis.run e (enc 0x64 0 0) (cmp fun x y => decide (x ≤ y)) s)

/-- LCEQ (R397). -/
def execOpLceq (e : Fin 16) (s : State) : Answer :=
  .next (Lintis.run e (enc 0x65 0 0) (cmp2 fun x y => decide (x = y)) s)

/-- LCLT (R397). -/
def execOpLclt (e : Fin 16) (s : State) : Answer :=
  .next (Lintis.run e (enc 0x66 0 0) (cmp2 fun x y => decide (i64 x < i64 y)) s)

/-- LCLE (R397). -/
def execOpLcle (e : Fin 16) (s : State) : Answer :=
  .next (Lintis.run e (enc 0x67 0 0) (cmp2 fun x y => decide (i64 x ≤ i64 y)) s)

/-- FCEQ (R397). -/
def execOpFceq (e : Fin 16) (s : State) : Answer :=
  .next (Lintis.run e (enc 0x68 0 0) (cmp f32.eq) s)

/-- FCLT (R397). -/
def execOpFclt (e : Fin 16) (s : State) : Answer :=
  .next (Lintis.run e (enc 0x69 0 0) (cmp f32.lt) s)

/-- FCLE (R397). -/
def execOpFcle (e : Fin 16) (s : State) : Answer :=
  .next (Lintis.run e (enc 0x6A 0 0) (cmp f32.le) s)

/-- DCEQ (R397). -/
def execOpDceq (e : Fin 16) (s : State) : Answer :=
  .next (Lintis.run e (enc 0x6B 0 0) (cmp2 f64.eq) s)

/-- DCLT (R397). -/
def execOpDclt (e : Fin 16) (s : State) : Answer :=
  .next (Lintis.run e (enc 0x6C 0 0) (cmp2 f64.lt) s)

/-- DCLE (R397). -/
def execOpDcle (e : Fin 16) (s : State) : Answer :=
  .next (Lintis.run e (enc 0x6D 0 0) (cmp2 f64.le) s)

/-- EQZ (R397). -/
def execOpEqz (e : Fin 16) (s : State) : Answer :=
  .next (Lintis.run e (enc 0x6E 0 0) (un fun x => Bits.b2n (decide (x = 0))) s)

/-- LEQZ (R397). -/
def execOpLeqz (e : Fin 16) (s : State) : Answer :=
  .next (Lintis.run e (enc 0x6F 0 0) (narrow fun x => Bits.b2n (decide (x = 0))) s)

/-- JMP (R393). -/
def execOpJmp (e : Fin 16) (j : BitVec 16) (s : State) : Answer :=
  .next (Lintis.run e (enc 0x70 2 j.toNat) (fun s t c => jump (branchTo c j.toNat) s t c) s)

/-- JMPL (R393). -/
def execOpJmpl (e : Fin 16) (k : BitVec 32) (s : State) : Answer :=
  .next (Lintis.run e (enc 0x71 4 k.toNat) (jump k.toNat) s)

/-- BZ (R393). -/
def execOpBz (e : Fin 16) (j : BitVec 16) (s : State) : Answer :=
  .next (Lintis.run e (enc 0x72 2 j.toNat) (branch true j.toNat) s)

/-- BNZ (R393). -/
def execOpBnz (e : Fin 16) (j : BitVec 16) (s : State) : Answer :=
  .next (Lintis.run e (enc 0x73 2 j.toNat) (branch false j.toNat) s)

/-- CALL (R401). -/
def execOpCall (e : Fin 16) (k : BitVec 32) (s : State) : Answer :=
  .next (Lintis.run e (enc 0x74 4 k.toNat) (call k.toNat) s)

/-- RET (R401). -/
def execOpRet (e : Fin 16) (s : State) : Answer :=
  .next (Lintis.run e (enc 0x75 0 0) ret s)

/-- CALLX (R401). -/
def execOpCallx (e : Fin 16) (s : State) : Answer :=
  .next (Lintis.run e (enc 0x76 0 0) callX s)

/-- JTAB (R401). -/
def execOpJtab (e : Fin 16) (w : BitVec 32) (s : State) : Answer :=
  .next (Lintis.run e (enc 0x77 4 w.toNat) (jumpTable w.toNat) s)

/-- I2L (R396). -/
def execOpI2l (e : Fin 16) (s : State) : Answer :=
  .next (Lintis.run e (enc 0x80 0 0) (widen fun x => w64 (i32 x)) s)

/-- U2L (R396). -/
def execOpU2l (e : Fin 16) (s : State) : Answer :=
  .next (Lintis.run e (enc 0x81 0 0) (widen fun x => x) s)

/-- L2I (R396). -/
def execOpL2i (e : Fin 16) (s : State) : Answer :=
  .next (Lintis.run e (enc 0x82 0 0) (narrow fun x => x) s)

/-- I2F (R396). -/
def execOpI2f (e : Fin 16) (s : State) : Answer :=
  .next (Lintis.run e (enc 0x83 0 0) (un fun x => f32.ofInt (i32 x)) s)

/-- U2F (R396). -/
def execOpU2f (e : Fin 16) (s : State) : Answer :=
  .next (Lintis.run e (enc 0x84 0 0) (un fun x => f32.ofInt x) s)

/-- L2F (R396). -/
def execOpL2f (e : Fin 16) (s : State) : Answer :=
  .next (Lintis.run e (enc 0x85 0 0) (narrow fun x => f32.ofInt (i64 x)) s)

/-- I2D (R396). -/
def execOpI2d (e : Fin 16) (s : State) : Answer :=
  .next (Lintis.run e (enc 0x86 0 0) (widen fun x => f64.ofInt (i32 x)) s)

/-- U2D (R396). -/
def execOpU2d (e : Fin 16) (s : State) : Answer :=
  .next (Lintis.run e (enc 0x87 0 0) (widen fun x => f64.ofInt x) s)

/-- L2D (R396). -/
def execOpL2d (e : Fin 16) (s : State) : Answer :=
  .next (Lintis.run e (enc 0x88 0 0) (un2 fun x => f64.ofInt (i64 x)) s)

/-- F2I (R396). -/
def execOpF2i (e : Fin 16) (s : State) : Answer :=
  .next (Lintis.run e (enc 0x89 0 0) (un fun x => w32 (toInt f32 (-(2 ^ 31)) (2 ^ 31 - 1) x)) s)

/-- F2L (R396). -/
def execOpF2l (e : Fin 16) (s : State) : Answer :=
  .next (Lintis.run e (enc 0x8A 0 0) (widen fun x => w64 (toInt f32 (-(2 ^ 63)) (2 ^ 63 - 1) x)) s)

/-- D2I (R396). -/
def execOpD2i (e : Fin 16) (s : State) : Answer :=
  .next (Lintis.run e (enc 0x8B 0 0) (narrow fun x => w32 (toInt f64 (-(2 ^ 31)) (2 ^ 31 - 1) x)) s)

/-- D2U (R396). -/
def execOpD2u (e : Fin 16) (s : State) : Answer :=
  .next (Lintis.run e (enc 0x8C 0 0) (narrow fun x => w32 (toInt f64 0 (2 ^ 32 - 1) x)) s)

/-- D2L (R396). -/
def execOpD2l (e : Fin 16) (s : State) : Answer :=
  .next (Lintis.run e (enc 0x8D 0 0) (un2 fun x => w64 (toInt f64 (-(2 ^ 63)) (2 ^ 63 - 1) x)) s)

/-- F2D (R396). -/
def execOpF2d (e : Fin 16) (s : State) : Answer :=
  .next (Lintis.run e (enc 0x8E 0 0) (widen fun x => Fmt.conv f32 f64 x) s)

/-- D2F (R396). -/
def execOpD2f (e : Fin 16) (s : State) : Answer :=
  .next (Lintis.run e (enc 0x8F 0 0) (narrow fun x => Fmt.conv f64 f32 x) s)

/-- SEL. -/
def execOpSel (e : Fin 16) (s : State) : Answer :=
  .next (Lintis.run e (enc 0x90 0 0) (pureOp 3 fun l => [if l.getD 0 0 ≠ 0 then l.getD 2 0 else l.getD 1 0]) s)

/-- LIMIT. -/
def execOpLimit (e : Fin 16) (s : State) : Answer :=
  .next (Lintis.run e (enc 0x91 0 0) (pureOp 3 fun l => [w32 (min (max (i32 (l.getD 2 0)) (i32 (l.getD 1 0))) (i32 (l.getD 0 0)))]) s)

/-- BOUND. -/
def execOpBound (e : Fin 16) (s : State) : Answer :=
  .next (Lintis.run e (enc 0x92 0 0) (stackOp 3 fun l =>
    if i32 (l.getD 1 0) ≤ i32 (l.getD 2 0) ∧ i32 (l.getD 2 0) ≤ i32 (l.getD 0 0) then .ok [l.getD 2 0] else .error 0x07) s)

/-- MOVE (R402). -/
def execOpMove (e : Fin 16) (s : State) : Answer :=
  .next (Lintis.run e (enc 0x93 0 0) move s)

/-- FILL (R402). -/
def execOpFill (e : Fin 16) (s : State) : Answer :=
  .next (Lintis.run e (enc 0x94 0 0) fill s)

/-- LDBIT. -/
def execOpLdbit (e : Fin 16) (a : BitVec 32) (b : BitVec 8) (s : State) : Answer :=
  .next (Lintis.run e (enc 0x95 5 (a.toNat + b.toNat * 2 ^ 32)) (load 1 (fun v => [(v >>> b.toNat) % 2]) a.toNat) s)

/-- STBIT. -/
def execOpStbit (e : Fin 16) (a : BitVec 32) (b : BitVec 8) (s : State) : Answer :=
  .next (Lintis.run e (enc 0x96 5 (a.toNat + b.toNat * 2 ^ 32)) (setBitAt a.toNat b.toNat) s)

end Sys2Proof.Machine
end

