-- ==== Sys2Proof/Machine/Areas.lean ====
section
/-!
DEFINITION. The Deck areas that subsystems configure, and which of them overlap (R283, R317, R341, R379, R557, R581).
-/

namespace Sys2Proof.Machine.Areas

/-- The four kinds of configured areas. -/
inductive Kind where
  | adc (d : Nat)
  | capture (e : Nat)
  | table (q : Nat)
  | program
  deriving DecidableEq, Repr

/-- A configured area: kind, enable bit of its subsystem, base, length. -/
structure Area where
  kind : Kind
  bit : Nat
  base : Nat
  len : Nat
  deriving DecidableEq, Repr

/-- Areas of one kind and unit. -/
def ofAdc (s : State) (d : Nat) : List Area :=
  let f := Tab.get s.acq.fdma d
  if f.adc then [⟨.adc d, 2, f.base, 2 ^ f.sizeLog2⟩, ⟨.adc d, 2, f.countAddr, 4⟩] else []

/-- The rolling store of a capture engine. -/
def ofCapture (s : State) (e : Nat) : List Area :=
  let g := (Tab.get s.acq.cap e).cfg
  if g.given then [⟨.capture e, 3, g.base, 2 ^ g.sizeLog2⟩] else []

/-- The table area of a sequencer. -/
def ofTable (s : State) (q : Nat) : List Area :=
  let x := Tab.get s.prog.seqs q
  if x.given then [⟨.table q, 5, x.base, 2 ^ x.sizeLog2⟩] else []

/-- The program area. -/
def ofProgram (s : State) : List Area :=
  if s.prog.sizeLog2 ≠ 0 then [⟨.program, 4, s.prog.base, 2 ^ s.prog.sizeLog2⟩] else []

/-- Every area configured in the Deck. -/
def all (s : State) : List Area :=
  ((List.range 32).flatMap (ofAdc s)) ++ ((List.range 64).flatMap (ofCapture s)) ++
    ((List.range 16).flatMap (ofTable s)) ++ ofProgram s

/-- Base and length of the recorder area, which always counts as an area of an enabled subsystem (R581). -/
def recorder : Nat × Nat := (0x01FA0000, 0x60000)

/-- Whether a range overlaps the recorder area. -/
def hitsRecorder (base len : Nat) : Bool := overlap base len recorder.1 recorder.2

/-- Whether an area overlaps an area of another unit, or the recorder area (R283, R341). Log: 36 (DEDUCED, unsafe). -/
def clash (s : State) (a : Area) : Bool :=
  hitsRecorder a.base a.len || (all s).any fun b => b.kind != a.kind && overlap a.base a.len b.base b.len

/-- Whether a range overlaps an area of an enabled subsystem (R557). -/
def hitsEnabled (s : State) (base len : Nat) : Bool :=
  hitsRecorder base len || (all s).any fun b => s.enabled b.bit && overlap base len b.base b.len

/-- Whether a field DMA channel serves a buffer: ADC_DMA or a capture configuration gives it one (R564). -/
def bound (s : State) (d : Nat) : Bool :=
  (Tab.get s.acq.fdma d).adc || s.acq.cap.any fun q => q.2.cfg.given && decide (q.2.cfg.dma = d)

end Sys2Proof.Machine.Areas
end

