-- ==== Sys2Proof/Machine/HbdCmd.lean ====
section
/-!
DEFINITION. The forms of the commands the HBD itself carries out: what it tests and how it completes them.
-/

namespace Sys2Proof.Machine.Ops

/-- The tests of R12 for a command of the HBD, which carries no pair flag and is accepted in the modes `ok`. -/
def hbdPre (c : Cmd) (named fmt : Bool) (ok : Mode → Bool) (s : State) (body : Reply) : Reply :=
  if !c.headerOk || !named || !fmt then .malformed
  else if !s.md.mode.afterBoot then .notReady
  else if !ok s.md.mode then .wrongMode
  else body

/-- Enters the completion of a command of the HBD. -/
def finishHbd (o : Origin) (s : State) : Reply → State
  | .malformed => completeHbd o .malformed 0 0 s
  | .notReady => completeHbd o .notReady 0 0 s
  | .wrongMode => completeHbd o .wrongMode 0 0 s
  | .locked => completeHbd o .locked 0 0 s
  | .refused r x => completeHbd o .refused r x s
  | .done t x => completeHbd o .done 0 x t
  | .config _ t => completeHbd o .done 0 0 t
  | .configLater _ _ t => t
  | .accepted t => pushCompl { org := o, status := .accepted, interim := true, atHbd := true } t
  | .ends t st x => completeHbd o st 0 x t
  | .quiet t => t

/-- Writes bytes to host memory (R535). -/
def hostWrite (addr : Nat) (bs : Bytes) (s : State) : State := { s with hbd.mem := Mem.write s.hbd.mem addr bs }

end Sys2Proof.Machine.Ops
end

