-- ==== Sys2Proof/Machine/Hdma.lean ====
section
/-!
DEFINITION. Host DMA and the Deck side of it (R555 to R566, R571, R572): DMA commands, chain and Deck descriptors, load
fetches on channel 15, pauses, bus errors, and what BULK_DOWN and BULK_UP move.
-/

namespace Sys2Proof.Machine.Dma

/-- A channel. -/
def chan (s : State) (h : Nat) : Hdma := Tab.get s.hbd.hdma h

/-- Replaces a channel. -/
def setChan (h : Nat) (d : Hdma) (s : State) : State := { s with hbd.hdma := Tab.set s.hbd.hdma h d }

/-! Messages to the field side. -/

/-- Sends a message that is applied at the boundary `wait` boundaries from now (R20). Log: 15 (DEDUCED, unsafe). -/
def send (wait : Nat) (b : DownBody) (s : State) : State :=
  { s with hbd.downNum := (s.hbd.downNum + 1) % 2 ^ 32, hbd.down := s.hbd.down ++ [⟨s.hbd.downNum, wait, b⟩] }

/-- Payload bytes of a bulk message. -/
def bulkBytes : DownBody → Nat
  | .bulk (.load _ _ _ d) => d.length
  | .bulk (.deck _ _ d) => d.length
  | .bulk (.image _ _ d) => d.length
  | _ => 0

/-- The latest application frame of the bulk messages on their way, in boundaries from now; at least 2. -/
def lastBulk (s : State) : Nat :=
  s.hbd.down.foldl (fun m x => if bulkBytes x.body = 0 then m else max m x.wait) 2

/-- Sends a bulk message: at most 12,288 bytes of payload per frame (R571). -/
def sendBulk (b : BulkDown) (s : State) : State :=
  let m := lastBulk s
  let used := (s.hbd.down.filter fun x => decide (x.wait = m)).foldl (fun n x => n + bulkBytes x.body) 0
  send (if used + bulkBytes (.bulk b) ≤ 12288 then m else m + 1) (.bulk b) s

/-- Cuts data into pieces of at most 4,096 bytes, each with its offset. -/
def pieces : Nat → Nat → Bytes → List (Nat × Bytes)
  | 0, _, _ => []
  | f + 1, off, bs => if bs.isEmpty then [] else (off, bs.take 4096) :: pieces f (off + 4096) (bs.drop 4096)

/-- The pieces of all data from an offset on. -/
def cut (off : Nat) (bs : Bytes) : List (Nat × Bytes) := pieces (bs.length / 4096 + 1) off bs

/-! Loads. -/

/-- Host address and length of the buffer a load names (R318, R409, R447). -/
def loadArea (e : Entry) : Nat × Nat :=
  (Arg.u e.cmd 0 8, if e.opcode = 0x0501 then Arg.u e.cmd 8 2 else Arg.u e.cmd 8 4)

/-- Whether an opcode names a load: SEQ_LOAD, PROG_LOAD, NET_SEND. -/
def isLoad (op : Nat) : Bool := decide (op = 0x0151) || decide (op = 0x0161) || decide (op = 0x0501)

/-- Where a command's completions go. -/
def originOf (e : Entry) : Origin := e.cmd.origin e.opcode.toNat

/-- Notes that a command has been sent to the field side (R125). -/
def markSent (o : Origin) (s : State) : State :=
  { s with hbd.outstanding := s.hbd.outstanding.map fun x => if x.org = o then { x with sent := true } else x }

/-- Sends a command whose load data is on its way, or which has none. -/
def sendCommand (e : Entry) (s : State) : State :=
  markSent (originOf e) (send (if isLoad e.opcode.toNat then lastBulk s else 2) (.command e) s)

/-- Starts the oldest load that waits, on channel 15 as a one-descriptor chain. Log: 85 (DEDUCED, unsafe). -/
def startLoad (s : State) : State :=
  let d := chan s 15
  match s.hbd.loadQueue with
  | [] => s
  | e :: rest =>
    if d.work.isSome then s
    else
      let a := loadArea e
      let st := if d.pause || decide (s.hbd.sess ≠ 1) then 3 else 1
      setChan 15 { d with
        st := st, bytes := 0, descs := 1
        work := some { org := originOf e, load := some e, addr := a.1, len := a.2, last := true, ending := some .done } }
        { s with hbd.loadQueue := rest }

/-- A load is to be fetched (R556); one of no bytes needs no fetch. -/
def queueLoad (e : Entry) (s : State) : State :=
  if (loadArea e).2 = 0 then sendCommand e s else startLoad { s with hbd.loadQueue := s.hbd.loadQueue ++ [e] }

/-! Ends of chains. -/

/-- The result of a DMA command (Table 15-7). -/
def resultOf (d : Hdma) (w : Chain) : Nat := d.bytes + d.descs * 2 ^ 32 + w.lastAddr * 2 ^ 64

/-- A chain ends: its command completes and the channel is idle. -/
def finish (h : Nat) (e : Status) (s : State) : State :=
  let d := chan s h
  match d.work with
  | none => s
  | some w =>
    let t := setChan h { d with st := 0, work := none } s
    match w.load with
    | some l =>
      startLoad (if e = .done then sendCommand l t else Ops.completeHbd w.org e 0 0 t)
    | none =>
      let t1 := if e = .chainLimit then Ops.hRaise Event.dmaChainLimit (mkSrc 0 2 h) h 0 t else t
      Ops.completeHbd w.org e 0 (resultOf d w) t1

/-- What a channel does once no data of it is on the way: it completes, or becomes PAUSED (R560, Table 15-9). -/
def settle (h : Nat) (s : State) : State :=
  let d := chan s h
  match d.work with
  | none => s
  | some w =>
    if decide (w.len ≠ 0) || decide (w.inFlight ≠ 0) then s
    else
      match w.ending with
      | some .aborted => finish h .aborted s
      | some .busError => finish h .busError s
      | some .chainLimit => if d.st = 1 ∨ d.st = 2 then finish h .chainLimit s else s
      | some e =>
        if d.st = 1 then finish h e s
        else if d.st = 2 then Ops.fire (32 + h) (setChan h { d with st := 3 } s) else s
      | none => if d.st = 2 then Ops.fire (32 + h) (setChan h { d with st := 3 } s) else s

/-! The Deck side. -/

/-- A field bus error (R565). Log: 86 (DEDUCED, unsafe). -/
def fieldBusError (fch off : Nat) (s : State) : State :=
  Ops.raiseMid Event.fdmaBusError (mkSrc 1 3 (96 + fch)) 0 0 { s with acq.fdmaStopped := 2 ^ 32 - 1, acq.fdmaErrAddr := off }

/-- Takes Deck places for `n` bytes, following the Deck chain (R564, R565): the chain, the places, and how the Deck side ends
the transfer early, with the offset of a field bus error. Log: 85 (DEDUCED, unsafe). -/
def places (deck : Mem) (limit : Nat) : Nat → Chain → Nat → List (Nat × Nat) → Chain × List (Nat × Nat) × Option (Status × Nat)
  | 0, w, _, acc => (w, acc, none)
  | f + 1, w, n, acc =>
    if n = 0 then (w, acc, none)
    else if !w.deckChain then ({ w with deck := w.deck + n }, acc ++ [(w.deck, n)], none)
    else if w.deckLeft ≠ 0 then
      let k := min n w.deckLeft
      places deck limit f { w with deck := w.deck + k, deckLeft := w.deckLeft - k } (n - k) (acc ++ [(w.deck, k)])
    else if w.deckLast then (w, acc, some (.malformed, 0))
    else if limit ≤ w.deckDescs then (w, acc, some (.chainLimit, 0))
    else if 2 ^ 25 < w.deckNext + 8 then (w, acc, some (.busError, w.deckNext))
    else
      let off := Mem.readLe deck w.deckNext 4
      let len := Mem.readLe deck (w.deckNext + 4) 3
      let fl := Mem.readLe deck (w.deckNext + 7) 1
      let w' : Chain := { w with
        deckNext := w.deckNext + 8, deckDescs := w.deckDescs + 1, deckLast := fl.testBit 0, deck := off, deckLeft := len }
      if decide (len = 0) || decide (2 ≤ fl) then (w', acc, some (.malformed, 0))
      else if 2 ^ 25 < off + len then (w', acc, some (.busError, off))
      else places deck limit f w' n acc

/-- Bytes a list of places takes. -/
def total (ps : List (Nat × Nat)) : Nat := ps.foldl (fun n p => n + p.2) 0

/-- The places of the next `n` bytes of a chain. -/
def take (s : State) (w : Chain) (n : Nat) : Chain × List (Nat × Nat) × Option (Status × Nat) :=
  places s.deck s.acq.fdmaLimit.toNat (2 * n + 2) w n []

/-- How a chain ends after data of a descriptor has been placed (R556, R564). Log: 85 (DEDUCED, unsafe). -/
def endOf (w : Chain) (err : Option (Status × Nat)) : Option Status :=
  match err with
  | some (e, _) => some e
  | none =>
    if w.deckChain && decide (w.len = 0) then
      let deckDone := w.deckLast && decide (w.deckLeft = 0)
      if w.last then (if deckDone then some .done else some .malformed)
      else if deckDone then some .malformed
      else w.ending
    else w.ending

/-- The steps of a field bus error that a placing found. Log: 86 (DEDUCED, unsafe). -/
def noteErr (fch : Nat) (err : Option (Status × Nat)) (s : State) : State :=
  match err with
  | some (.busError, off) => fieldBusError fch off s
  | _ => s

/-- Reads Deck bytes for BULK_UP, each aligned 8-byte word whole: the bytes, and the last word when only a part of it is
taken;
a word of which a part was taken before is not read again (R559). -/
def readWords (deck : Mem) (word : Nat × Bytes) (off n : Nat) : Bytes × (Nat × Bytes) :=
  let raw := Mem.read deck off n
  let held := !word.2.isEmpty
  let k := min n (8 - off % 8)
  let bs := if held && decide (word.1 = off / 8) then (word.2.drop (off % 8)).take k ++ raw.drop k else raw
  let last := (off + n) / 8
  (bs, if (off + n) % 8 = 0 then (0, []) else if held && decide (word.1 = last) then word else (last, Mem.read deck (8 * last) 8))

/-- BULK_UP: one message of at most 4,096 bytes of the active die's Deck reaches host memory (R559, R572). -/
def bulkUp (h : Nat) (s : State) : State :=
  let d := chan s h
  match d.work with
  | none => s
  | some w =>
    if w.toDeck || decide (w.len = 0) || decide (d.st ≠ 1) || !s.linkUp || decide (s.pair.active = 0) ||
        !Adc.mayWrite s w.fch then s
    else
      let q := take s w (min 4096 w.len)
      let k := total q.2.1
      let r := q.2.1.foldl (fun (a : Bytes × (Nat × Bytes)) p =>
        let x := readWords s.deck a.2 p.1 p.2
        (a.1 ++ x.1, x.2)) ([], w.word)
      let left := if q.2.2.isSome then 0 else w.len - k
      let w1 : Chain := { q.1 with addr := w.addr + k, len := left, word := r.2 }
      let s1 := setChan h { d with bytes := (d.bytes + k) % 2 ^ 32, work := some { w1 with ending := endOf w1 q.2.2 } }
        (Ops.hostWrite w.addr r.1 s)
      settle h (noteErr w.fch q.2.2 s1)

/-- BULK_UP as often as a descriptor's data needs. -/
def bulkUps (h : Nat) : Nat → State → State
  | 0, s => s
  | n + 1, s => bulkUps h n (bulkUp h s)

/-- Data of a descriptor has arrived from host memory: it is sent to both Decks (R559). -/
def sendData (h : Nat) (w : Chain) (data : Bytes) (s : State) : State :=
  let d := chan s h
  let q := take s w w.len
  let put := q.2.1.foldl (fun (a : State × Bytes) p =>
    ((cut p.1 (a.2.take p.2)).foldl (fun s x =>
      sendBulk (.deck (Fin.ofNat 16 h) (BitVec.ofNat 25 x.1) x.2) s) a.1, a.2.drop p.2)) (s, data)
  let w1 : Chain := { q.1 with addr := w.addr + w.len, len := 0, inFlight := w.inFlight + total q.2.1 }
  settle h (noteErr w.fch q.2.2 (setChan h { d with work := some { w1 with ending := endOf w1 q.2.2 } } put.1))

/-- Data of a load has arrived from host memory: it is sent ahead of its command (R556, R559). -/
def sendLoad (h : Nat) (w : Chain) (e : Entry) (data : Bytes) (s : State) : State :=
  let d := chan s h
  let s1 := (cut 0 data).foldl (fun s x => sendBulk (.load e.cmd.session e.cmd.tag x.1 x.2) s) s
  settle h (setChan h { d with bytes := data.length, work := some { w with len := 0 } } s1)

/-- HDMA_DATA_DONE (R559, R560). Log: 15 (DEDUCED, unsafe), 17 (DEDUCED, safe). -/
def dataDone (h : Nat) (data : Bytes) (s : State) : State :=
  let d := chan s h
  match d.work with
  | none => s
  | some w =>
    if decide (w.len = 0) || (decide (d.st ≠ 1) && decide (d.st ≠ 2)) then s
    else
      match w.load with
      | some e => if data.length = w.len then sendLoad h w e data s else s
      | none =>
        if !w.toDeck then bulkUps h (w.len / 4096 + 1) s
        else if data.length = w.len && Adc.mayWrite s w.fch then sendData h w data s else s

/-- HDMA_DESCRIPTOR_FETCHED (R556, R558). Log: 17 (DEDUCED, safe), 85 (DEDUCED, unsafe). -/
def descriptorFetched (h : Nat) (desc : BitVec 128) (s : State) : State :=
  let d := chan s h
  match d.work with
  | none => s
  | some w =>
    if decide (d.st ≠ 1) || decide (w.len ≠ 0) || w.ending.isSome || w.load.isSome || !Adc.mayWrite s w.fch then s
    else
      let v := desc.toNat
      let addr := v % 2 ^ 64
      let len := Bits.field v 95 64
      let fl := Bits.field v 127 96
      let last := fl.testBit 0
      let link := fl.testBit 1
      let n := (d.descs + 1) % 2 ^ 32
      let full := decide (d.limit ≤ d.descs + 1)
      let d1 : Hdma := { d with descs := n, chain := if link then addr else (d.chain + 16) % 2 ^ 64 }
      let w1 : Chain := { w with lastAddr := d.chain }
      let bad := decide (4 ≤ fl) || (last && link) || (link && (decide (len ≠ 0) || decide (addr % 16 ≠ 0))) ||
        (!link && (decide (len = 0) || decide (2 ^ 24 < len)))
      let lim : Option Status := if full && !last then some .chainLimit else none
      let w2 : Chain :=
        if bad then { w1 with ending := some .malformed }
        else if link then { w1 with ending := lim }
        else if w.deckChain then { w1 with addr := addr, len := len, last := last, ending := lim }
        else
          let k := min len w.left
          { w1 with addr := addr, len := k, last := last, left := w.left - k
                    ending := if w.left - k = 0 then some .done else if last then some .malformed else lim }
      settle h (Ops.countDie 0 2 16 1 (setChan h { d1 with work := some w2 } s))

/-! What bulk messages do on the field side. -/

/-- Load data joins what has arrived for its command. -/
def stage (session tag off : Nat) (data : Bytes) (s : State) : State :=
  let is (q : Nat × Nat × Bytes) : Bool := decide (q.1 = session) && decide (q.2.1 = tag)
  let old := match s.staged.find? is with
    | some q => q.2.2
    | none => []
  { s with staged := (s.staged.filter fun q => !is q) ++
      [(session, tag, Bits.patch (old ++ List.replicate (off - old.length) 0) off data)] }

/-- Takes the load data that has arrived for a command. -/
def unstage (c : Cmd) (s : State) : Option Bytes × State :=
  let is (q : Nat × Nat × Bytes) : Bool := decide (q.1 = c.session.toNat) && decide (q.2.1 = c.tag.toNat)
  ((s.staged.find? is).map (·.2.2), { s with staged := s.staged.filter fun q => !is q })

/-- BULK_DOWN at its application frame: written into both Decks, held for its command, or taken by a booting die (R139,
R559). Log: 119 (DESIGN CHOICE, safe). -/
def bulkDown (b : BulkDown) (s : State) : State :=
  match b with
  | .load session tag off data =>
    if s.pair.active = 0 then s else stage session.toNat tag.toNat off data s
  | .deck h off data =>
    let d := chan s h
    let s1 := if s.pair.active = 0 then s else { s with deck := Mem.write s.deck off.toNat (data.take (2 ^ 25 - off.toNat)) }
    match d.work with
    | none => s1
    | some w =>
      if w.inFlight = 0 then s1
      else
        let k := min data.length w.inFlight
        settle h (setChan h { d with bytes := (d.bytes + k) % 2 ^ 32, work := some { w with inFlight := w.inFlight - k } } s1)
  | .image die off data =>
    let up (x : DieBoot) : DieBoot :=
      if decide (x.st = 2) && decide (x.img.length = off) && s.linkUp then { x with img := x.img ++ data } else x
    match die with
    | .cda => { s with boot.cda := up s.boot.cda }
    | .cdb => { s with boot.cdb := up s.boot.cdb }

/-! Commands. -/

/-- The format of a DMA command: reserved fields zero (Table 15-7). Log: 85 (DEDUCED, unsafe). -/
def format (c : Cmd) : Bool := decide (Arg.u c 17 1 < 2) && Arg.zeroFrom c 18

/-- Whether a field DMA channel is buffer-bound, busy or stopped (R564). -/
def fchBusy (s : State) (f : Nat) : Bool :=
  Areas.bound s f || s.acq.fdmaStopped.testBit f ||
    s.hbd.hdma.any fun q => match q.2.work with
      | some w => w.load.isNone && decide (w.fch = f)
      | none => false

/-- DMA_TO_DECK and DMA_FROM_DECK (R554 to R557, R564). -/
def start (toDeck : Bool) (c : Cmd) (s : State) : Reply :=
  let h := c.unit
  let host := Arg.u c 0 8
  let deck := Arg.u c 8 4
  let len := Arg.u c 12 4
  let f := Arg.u c 16 1
  let dc := (Arg.u c 17 1).testBit 0
  if !s.linkUp then .notReady
  else if decide (h = 15) || decide (host % 16 ≠ 0) || decide (31 < f) ||
      (if dc then decide (len ≠ 0) else decide (len = 0) || decide (2 ^ 24 < len)) then .refuse 0xA3
  else if (chan s h).work.isSome then .refuse 0xA2
  else if !dc && (decide (2 ^ 25 < deck + len) || (toDeck && Areas.hitsEnabled s deck len)) then .refuse 0xA6
  else if fchBusy s f then .refuse 0xA4
  else
    let d := chan s h
    let w : Chain :=
      { org := c.origin (if toDeck then 0x0A10 else 0x0A11), toDeck := toDeck, left := len, deckChain := dc
        deck := if dc then 0 else deck, deckNext := if dc then deck else 0, fch := f, lastAddr := 0 }
    let open_ := decide (s.hbd.sess = 1)
    .accepted (setChan h { d with
      chain := host, bytes := 0, descs := 0, st := if d.pause || !open_ then 3 else 1, work := some w } s)

/-! Pauses, errors, aborts. -/

/-- HDMA_PAUSE (R560). -/
def pause (h : Nat) (s : State) : State :=
  Ops.hdmaPauseOne h (setChan h { chan s h with pause := true } s)

/-- A PAUSED or PAUSING channel goes on when neither PAUSE nor a closed session holds it. -/
def release (h : Nat) (s : State) : State :=
  let d := chan s h
  if d.pause || decide (s.hbd.sess ≠ 1) then s
  else if d.st = 2 ∨ d.st = 3 then settle h (setChan h { d with st := 1 } s)
  else s

/-- HDMA_PAUSE_CLEAR (R560). -/
def pauseClear (h : Nat) (s : State) : State := release h (setChan h { chan s h with pause := false } s)

/-- HDMA_RESUME (R563). -/
def resume (h : Nat) (s : State) : State :=
  let d := chan s h
  if d.st ≠ 4 then s else release h (setChan h { d with st := 3 } s)

/-- Chains paused by a close go on when a session opens (Table 15-9). -/
def sessionOpened (s : State) : State := startLoad ((List.range 16).foldl (fun s h => release h s) s)

/-- Whether a channel has a read of host memory outstanding: a descriptor, or data for the Decks or a load. -/
def reading (d : Hdma) : Bool :=
  match d.work with
  | none => false
  | some w => (decide (d.st = 1) || decide (d.st = 2)) &&
      ((decide (w.len = 0) && w.ending.isNone) || (decide (w.len ≠ 0) && w.toDeck))

/-- Code of a failed bus read (Table 15-17). -/
def causeCode : BusCause → Nat
  | .timeout => 1
  | .unsupported => 2
  | .abort => 3

/-- One channel at a bus error: the only one with reads outstanding completes BUS_ERROR, every other stops (R562). -/
def stopOne (sole : Option Nat) (s : State) (h : Nat) : State :=
  let d := chan s h
  match d.work with
  | none => s
  | some w =>
    if sole = some h then settle h (setChan h { d with work := some { w with len := 0, ending := some .busError } } s)
    else Ops.fire (32 + h) (setChan h { d with st := 4 } s)

/-- HDMA_BUS_ERROR (R562). Log: 86 (DEDUCED, unsafe). -/
def busError (addr mask : Nat) (cause : BusCause) (s : State) : State :=
  let hs := Bits.bitsOf mask 16
  if hs.isEmpty || !(hs.all fun h => reading (chan s h)) then s
  else
    let s1 := Ops.fire 48 (Ops.hRaise Event.hdmaBusError (mkSrc 0 2 (hs.headD 0)) (addr % 2 ^ 32) 0
      { s with hbd.hdmaErr := addr % 2 ^ 64, hbd.hdmaErrInfo := mask % 2 ^ 16 + causeCode cause * 2 ^ 16 })
    let sole := if hs.length = 1 then hs.head? else none
    startLoad ((List.range 16).foldl (stopOne sole) s1)

/-- The channel whose chain an ABORT names (R555). -/
def target (s : State) (tag session : Nat) : Option Nat :=
  (List.range 16).find? fun h => match (chan s h).work with
    | some w => w.load.isNone && decide (w.org.tag = tag) && decide (w.org.session = session)
    | none => false

/-- Whether a chain's last descriptor has been fetched (R555). -/
def lastFetched (w : Chain) : Bool := w.ending.isSome || w.last

/-- An ABORT of a chain, when the HBD reads it: the state, and whether it took effect (R555, Table 15-9). -/
def abortChain (h : Nat) (s : State) : State × Bool :=
  let d := chan s h
  match d.work with
  | none => (s, false)
  | some w =>
    if lastFetched w then (s, false)
    else (settle h (setChan h { d with work := some { w with len := 0, ending := some .aborted } } s), true)

/-- The waiting load an ABORT names: being fetched or queued, it has not reached its commit point (R51, R555). -/
def loadTarget (s : State) (tag session : Nat) : Option Entry :=
  let is (e : Entry) : Bool := decide (e.cmd.tag.toNat = tag) && decide (e.cmd.session.toNat = session)
  match s.hbd.loadQueue.find? is with
  | some e => some e
  | none => ((chan s 15).work.bind (·.load)).bind fun e => if is e then some e else none

/-- A load ends ABORTED before its command is sent. -/
def abortLoad (e : Entry) (s : State) : State :=
  if s.hbd.loadQueue.contains e then
    Ops.completeHbd (originOf e) .aborted 0 0 { s with hbd.loadQueue := s.hbd.loadQueue.erase e }
  else
    let d := chan s 15
    match d.work with
    | none => s
    | some w => settle 15 (setChan 15 { d with work := some { w with len := 0, ending := some .aborted } } s)

/-! Field DMA registers. -/

/-- FDMA_PAUSE (R566): it is in force from the next boundary. Log: 86 (DEDUCED, unsafe). -/
def fdmaPause (v : Nat) (s : State) : State := { s with acq.fdmaPause := v % 2 ^ 32 }

/-- The pauses written before a boundary are in force from it on. Log: 86 (DEDUCED, unsafe). -/
def fdmaBoundary (s : State) : State := { s with acq.fdmaPaused := s.acq.fdmaPause }

/-- FDMA_RESUME (R565). -/
def fdmaResume (v : Nat) (s : State) : State := { s with acq.fdmaStopped := Bits.w1c s.acq.fdmaStopped v 32 }

end Sys2Proof.Machine.Dma
end

