-- ==== Sys2Proof/Machine/LoopEng.lean ====
section
/-!
DEFINITION. The Loop region (R219 to R257): block-floating arithmetic, the ten stages, one evaluation of a slot, its
boundary, the commands and the consistency check of the chapter.
-/

namespace Sys2Proof.Machine

namespace Loop

/-- Whether a unit is a servo loop (R36). -/
def isServo (u : Nat) : Bool := decide (768 ≤ u)

/-- A number with the SAT flag of what made it. -/
abbrev V := Int × Bool

/-- Limits to n bits and tells whether the limit acted (R227, R228). -/
def limit (n : Nat) (z : Int) : V := (Bits.sat n z, !Bits.inS n z)

/-- One addition of the accumulator (R227). -/
def acc (a : V) (z : Int) : V :=
  let r := limit 48 (a.1 + z)
  (r.1, a.2 || r.2)

/-- Back to a signal (R228). -/
def renorm (a : V) : V :=
  let r := limit 24 (Bits.roundShift a.1 21)
  (r.1, a.2 || r.2)

/-- A signal at another exponent (R228). -/
def align (m : Int) (es e : Int) : V := limit 24 (Bits.scale2 m (es - e))

/-- The sum of products of coefficients and operands, in order, then renormalised (R227). -/
def sumOf (ts : List (Int × Int)) : V := renorm (ts.foldl (fun a t => acc a (t.1 * t.2)) (0, false))

/-- What a chain reads beside its stage input. -/
structure Ctx where
  /-- Input exponent of the stage, its index, and −IN1 at X0 for DPV. -/
  x : Int
  ein : Int
  dpv : V
  m2 : Int
  m3 : Int
  /-- Output of the linked slot (R245). -/
  link : Int
  /-- Integrators are held (R237, R242). -/
  held : Bool

/-- Gain of a gain-schedule stage (R232). -/
def gain (k : CoefSet) (s : Int) : V :=
  let bp (j : Nat) := Tab.get k.bp j
  let g (j : Nat) := Tab.get k.gain j
  let last := k.npts - 1
  if s ≤ bp 0 then (g 0, false)
  else if bp last ≤ s then (g last, false)
  else
    match (List.range last).find? fun j => decide (bp j ≤ s) && decide (s < bp (j + 1)) with
    | some j =>
      let w := bp (j + 1) - bp j
      limit 24 (g j + Bits.roundDiv ((g (j + 1) - g j) * (s - bp j)) w.toNat)
    | none => (g last, false)

/-- One stage (Table 6-3): its output, its new state, and whether anything saturated. -/
def evalStage (st : Stage) (k : CoefSet) (z : StageState) (c : Ctx) : Int × StageState × Bool :=
  let co (j : Nat) : Int := k.c.getD j 0
  let e := st.exp
  let xa := align c.x c.ein e
  match st.kind with
  | 0 =>
    let xd : V := if k.flag = 1 then c.dpv else (c.x, false)
    let dx := limit 24 (xd.1 - z.xd1)
    let d := sumOf [(co 3, z.d), (co 2, dx.1)]
    let v := acc (acc (acc (0, false) (co 0 * c.x)) z.i) (d.1 * 2 ^ 21)
    let r := renorm v
    let y := min (max r.1 (co 5)) (co 6)
    let w := limit 24 (Bits.roundShift (y * 2 ^ 21 - v.1) 21)
    let i := acc (acc (z.i, false) (co 1 * c.x)) (co 4 * w.1)
    (y, { z with i := if c.held then z.i else i.1, d := d.1, xd1 := xd.1 },
      xd.2 || dx.2 || d.2 || v.2 || r.2 || w.2 || (i.2 && !c.held))
  | 1 =>
    let y := sumOf [(co 0, c.x), (co 1, z.x1), (co 2, z.x2), (-co 3, z.y1), (-co 4, z.y2)]
    (y.1, { z with x1 := c.x, x2 := z.x1, y1 := y.1, y2 := z.y1 }, y.2)
  | 2 =>
    let y := sumOf [(co 0, c.x), (co 1, z.x1), (-co 2, z.y1)]
    (y.1, { z with x1 := c.x, y1 := y.1 }, y.2)
  | 3 =>
    let w := co 0
    let y := if xa.1.natAbs ≤ w then 0
      else if k.flag = 1 then xa.1
      else if 0 < xa.1 then xa.1 - w else xa.1 + w
    (y, z, xa.2)
  | 4 => (min (max xa.1 (co 0)) (co 1), z, xa.2)
  | 5 =>
    let y := limit 24 (z.y1 + min (max (xa.1 - z.y1) (-co 1)) (co 0))
    (y.1, { z with y1 := y.1 }, xa.2 || y.2)
  | 6 =>
    let y := sumOf [(co 0, c.x), (co 1, c.m2), (co 2, c.m3)]
    (y.1, z, y.2)
  | 7 =>
    let s := match k.flag with
      | 2 => c.m2
      | 3 => c.m3
      | _ => c.x
    let g := gain k s
    let y := sumOf [(g.1, c.x)]
    (y.1, z, g.2 || y.2)
  | 8 =>
    let y := sumOf [(co 0, c.x), (co 1, c.link)]
    (y.1, z, y.2)
  | _ =>
    let y := renorm (acc (acc (0, false) (co 0 * c.x)) (co 1 * 2 ^ 21))
    (y.1, z, y.2)

/-- The selected coefficient set of a stage (R238). -/
def setOf (x : Slot) (st : Stage) : CoefSet := if x.set1 then st.set1 else st.set0

/-- Difference of two dyadic values (R223). -/
def dyadicSub (a b : Int × Int) : Int × Int :=
  let e := min a.2 b.2
  (a.1 * 2 ^ (a.2 - e).toNat - b.1 * 2 ^ (b.2 - e).toNat, e)

/-- A dyadic value converted to a mantissa at an exponent (R223). -/
def toMant (a : Int × Int) (x : Int) : V := limit 24 (Bits.scale2 a.1 (a.2 + 23 - x))

/-- Key of a remote slot: node × 1024 + unit. -/
def remoteKey (loc : Nat) : Nat := locNode loc * 1024 + locUnit loc

/-- The most recent valid sample of a remote slot whose frame number is at most this boundary's; a link takes only samples at
its EC (R245). -/
def sampleOf (s : State) (key : Nat) (ec : Option Int) : Option LoopSample :=
  ((Tab.get s.loop.remote key).samples.filter fun z => decide (z.frame ≤ s.tm.frame) && ec.all fun e => decide (e = z.e)).getLast?

/-- Remote sources of a slot: the reader (0 an input of kind 4, k + 1 the link of stage k), the source and the exponent its
samples must have, if any (R245). -/
def remotes (x : Slot) (node : Nat) : List (Nat × Nat × Option Int) :=
  (if (x.cfg.src.any fun w => Bits.field w 31 28 = 4) then [(0, remoteKey x.cfg.remote, none)] else []) ++
    (List.range x.cfg.nstages).filterMap fun k =>
      let st := x.stage k
      if st.kind = 8 && decide (locNode st.link ≠ node) then some (k + 1, remoteKey st.link, some st.ec) else none

/-- Latches the remote samples of a slot (R245). -/
def latchRemotes (s : State) (x : Slot) : Slot :=
  (remotes x s.nodeId).foldl (fun x r =>
    match sampleOf s r.2.1 r.2.2 with
    | some z => { x with held := Tab.set x.held r.1 (z.m, z.e) }
    | none => x) x

/-- The value of input `j` of a unit as a dyadic number, and whether it reads a float that is NaN or infinite (Table 6-2,
R224, R288). -/
def input (s : State) (u : Nat) (x : Slot) (j : Nat) : (Int × Int) × Bool :=
  let w := x.cfg.src.getD j 0
  let idx := Bits.field w 27 0
  match Bits.field w 31 28 with
  | 1 => ((x.setpoint, x.cfg.x0 - 23), false)
  | 2 => let r := Taps.real (Taps.tap s idx); ((r.1, r.2.1), !r.2.2)
  | 3 => let y := s.slot idx; ((y.out, y.outExp - 23), false)
  | 4 => let h := Tab.get x.held 0; ((h.1, h.2 - 23), false)
  | 5 =>
    let a := s.axis (u - 768)
    match j with
    | 0 => ((a.p, -24), false)
    | 1 => ((actualPos a (s.chan (u - 768)), -24), false)
    | 2 => ((a.v, -32), false)
    | _ => ((a.a, -24), false)
  | 6 => let h := Tab.get s.loop.servoIn (u - 768); ((h.1, h.2 - 23), false)
  | _ => ((0, 0), false)

/-- One step of the oscillation detector (R241): the new detector, whether a half-period ended, whether it declares. -/
def detect (c : LoopCfg) (e : Int) (o : Osc) : Osc × Bool × Bool :=
  let n := o.nEval + 1
  let neg := if 0 < e then false else if e < 0 then true else o.lastNeg
  let l := n - o.tCross
  let half := neg != o.lastNeg
  let o1 := if half then
      { o with nEval := n, lastL := l, lastPeak := o.peak, tCross := n, peak := 0, lastNeg := neg
               run := if c.hpMin ≤ l ∧ l ≤ c.hpMax ∧ c.oscAmp ≤ o.peak then o.run + 1 else 0 }
    else { o with nEval := n, run := if c.hpMax < l then 0 else o.run }
  let o2 := { o1 with peak := max o1.peak e.natAbs }
  (o2, half, decide (c.oscN ≤ o2.run) && !o2.latch)

/-- The chain of a slot from its error (R225, R230): stage outputs, states and SAT. -/
def chain (s : State) (x : Slot) (dpv : V) (e m2 m3 : Int) (held : Bool) :
    Tab Int × Tab StageState × Bool × Int :=
  (List.range x.cfg.nstages).foldl (fun (r : Tab Int × Tab StageState × Bool × Int) k =>
    let st := x.stage k
    let ein := if k = 0 then x.cfg.x0 else (x.stage (k - 1)).exp
    let link := if locNode st.link = s.nodeId then (s.slot (locUnit st.link)).out
      else (Tab.get x.held (k + 1)).1
    let o := evalStage st (setOf x st) (Tab.get x.states k)
      { x := r.2.2.2, ein := ein, dpv := dpv, m2 := m2, m3 := m3, link := link, held := held }
    (Tab.set r.1 k o.1, Tab.set r.2.1 k o.2.1, r.2.2.1 || o.2.2, o.1)) ([], [], false, e)

/-- One evaluation of a unit from the inputs of this boundary (R220, R223, R236, R242). -/
def eval (s : State) (u : Nat) (x : Slot) : LoopEval × Int :=
  let i0 := input s u x 0
  let i1 := input s u x 1
  let i2 := input s u x 2
  let i3 := input s u x 3
  let e := toMant (dyadicSub i0.1 i1.1) x.cfg.x0
  let pv := toMant i1.1 x.cfg.x0
  let m2 := toMant i2.1 x.cfg.x2
  let m3 := toMant i3.1 x.cfg.x3
  let d := if x.cfg.oscEn then detect x.cfg e.1 x.osc else (x.osc, false, false)
  let latched := x.osc.latch || d.2.2
  let held := x.manual || (latched && decide (x.cfg.oscAction = 1))
  let r := chain s x (-pv.1, pv.2) e.1 m2.1 m3.1 held
  let out := if x.safeHeld || (latched && decide (x.cfg.oscAction = 3)) then x.cfg.safe
    else if x.manual then x.man else r.2.2.2
  ({ out := out, e := e.1, ys := r.1, states := r.2.1, osc := { d.1 with latch := latched }
     sat := e.2 || m2.2 || m3.2 || r.2.2.1 || i0.2 || i1.2 || i2.2 || i3.2
     declared := d.2.2, stale := x.inputStale }, pv.1)

/-- Applies one change at the slot's boundary and completes its command (R221, R249, R250). Log: 47 (DEDUCED, unsafe). -/
def applyOp (u : Nat) (s : State) (q : Origin × SlotOp) : State :=
  let x := s.slot u
  let ok (x : Slot) : State := Ops.complete q.1 .done 0 s.tm.frame (s.setSlot u x)
  match q.2 with
  | .slot g sp => ok { x with cfg := g, setpoint := sp }
  | .stage k st => ok { x with stages := Tab.set x.stages k st }
  | .mode m v => ok (if m then { x with manual := true, man := v } else
      { x with manual := false, safeHeld := false, failing := x.failing && x.failNow })
  | .set one => if x.osc.latch && !x.latchNow then Ops.complete q.1 .refused 0x27 0 s else ok { x with set1 := one }
  | .preset k i => ok { x with states := Tab.modify x.states k fun z => { z with i := i } }
  | .oscClear => ok { x with osc := { x.osc with latch := x.latchNow } }

/-- What an output map delivers when the unit's output takes effect (R233, R244). -/
def deliver (u : Nat) (s : State) : State :=
  let x := s.slot u
  let k := x.cfg.nstages - 1
  let st := x.stage k
  let c := setOf x st
  if st.kind ≠ 9 then s
  else
    match c.dest with
    | 1 => { s with loop.pwm := Tab.set s.loop.pwm c.index (some (x.out, st.exp)) }
    | 2 => { s with loop.servoIn := Tab.set s.loop.servoIn c.index (x.out, st.exp) }
    | 3 => { s with loop.pubs := Tab.set s.loop.pubs c.index { m := x.out, e := st.exp, frame := s.tm.frame } }
    | 4 => { s with loop.vars := Tab.set s.loop.vars c.index (f32.ofScaled x.out (st.exp - 23)) }
    | _ => s

/-- Period and phase of a unit in frames (R219). -/
def period (s : State) (u : Nat) (x : Slot) : Nat × Nat :=
  if isServo u then (s.tickFrames, 0) else (2 ^ x.cfg.rate, x.cfg.phase)

/-- Whether slots are evaluated in a mode (R235). -/
def evaluates (m : Mode) : Bool :=
  match m with
  | .commission => true
  | .run => true
  | .hold => true
  | .degraded => true
  | .safeStop => true
  | _ => false

/-- Invokes the fail action at the boundary of the affected output (R240): `cause` 1 overrun, 2 input stale. -/
def failAction (u cause : Nat) (s : State) : State :=
  let x := s.slot u
  let s1 := if x.failing then s
    else Ops.raise Event.loopFail (mkSrc 1 2 u) cause (Bits.b2n x.cfg.failSafe) s
  if x.cfg.failSafe then
    let s2 := s1.setSlot u { x with failing := true, failNow := true, out := x.cfg.safe }
    if isServo u && !x.failing then Mot.axisFault (u - 768) s2 else s2
  else s1.setSlot u { x with failing := true }

/-- The output of the last evaluation takes effect, or is discarded, at a boundary of the unit; a map delivers only an output
that takes effect (R220, R236, R239 to R242, R244). Log: 47 (DEDUCED, unsafe). -/
def takeEffect (u : Nat) (s : State) : State :=
  let x := s.slot u
  match x.next with
  | none => s
  | some r =>
    if x.missed then
      let x1 := { x with next := none, missed := false, stale := true, misses := min 2 (x.misses + 1)
                         missTotal := Bits.satInc 16 x.missTotal }
      let s1 := Ops.raiseLimited Event.loopOverrun (mkSrc 1 2 u) 0 { s.setSlot u x1 with loop.fStale := true }
      if x1.misses < 2 then s1
      else
        let s2 := failAction u 1 s1
        if x.cfg.failSafe && !x.failing then deliver u s2 else s2
    else
      let x1 := { x with next := none, stale := false, misses := 0, states := r.states, osc := r.osc, ys := r.ys
                         shown := r.states, sat := r.sat, evals := x.evals + 1, latchNow := r.declared
                         set1Now := r.declared && decide (x.cfg.oscAction = 2) }
      let s1 := s.setSlot u x1
      let s2 := if r.sat then Ops.count 2 18 1 { s1 with loop.fSat := true } else s1
      let s3 := if r.declared then
          Ops.raise Event.loopOsc (mkSrc 1 2 u) r.osc.lastL r.osc.lastPeak { s2 with loop.fOsc := true }
        else s2
      let s4 := if r.osc.tCross = r.osc.nEval && decide (x.osc.tCross ≠ r.osc.tCross) then Ops.count 2 19 1 s3 else s3
      let y := s4.slot u
      if r.stale then
        let s5 := failAction u 2 s4
        if x.cfg.failSafe then deliver u s5 else s5
      else
        deliver u (s4.setSlot u
          { y with out := if y.safeHeld then y.cfg.safe else r.out, failing := y.failing && y.safeHeld })

/-- Every output due at this boundary takes effect, before any unit latches its inputs (R220). -/
def takeEffectAll (s0 : State) : State :=
  if !s0.enabled 1 || !evaluates s0.md.mode then s0
  else s0.loop.slots.foldl (fun s q =>
    let pp := period s q.1 q.2
    if q.2.cfg.inUse && s.tm.due pp.1 pp.2 then takeEffect q.1 s else s) s0

/-- Whether every remote source of a slot has a valid sample again (R246). -/
def sourcesBack (s : State) (x : Slot) : Bool :=
  (remotes x s.nodeId).all fun r => decide (Tab.get x.missing r.1 < x.cfg.loss) ||
    match (Tab.get s.loop.remote r.2.1).got with
    | some e => r.2.2.all fun ec => decide (ec = e)
    | none => false

/-- Whether a unit is evaluated (R235). -/
def evaluated (s : State) (x : Slot) : Bool := s.enabled 1 && evaluates s.md.mode && x.cfg.inUse

/-- Whether a unit has a boundary here that it has not taken yet (R219). -/
def boundaryDue (s : State) (u : Nat) (x : Slot) : Bool :=
  let pp := period s u x
  s.tm.due pp.1 pp.2 && decide (x.lastB ≠ s.tm.frame + 1)

/-- The shadow is copied into the working copy, in barrier sequence order (R221, R249). -/
def copyIn (u : Nat) (s : State) : State :=
  let x := s.slot u
  x.ops.foldl (applyOp u) (s.setSlot u { x with ops := [] })

/-- Units that are not evaluated copy their shadows at their boundaries all the same (R221, R250). -/
def copyIdle (s0 : State) : State :=
  s0.loop.slots.foldl (fun s q =>
    if !q.2.ops.isEmpty && !evaluated s q.2 && boundaryDue s q.1 q.2 then copyIn q.1 s else s) s0

/-- Table 6-10 as the unit stands. -/
def statusOf (x : Slot) : Nat :=
  let held := x.manual || (x.osc.latch && decide (x.cfg.oscAction = 1))
  let safe := x.safeHeld || x.failNow || (x.osc.latch && decide (x.cfg.oscAction = 3))
  let st := Bits.b2n x.stale + 2 * Bits.b2n x.manual + 4 * Bits.b2n safe + 8 * Bits.b2n x.osc.latch +
    16 * Bits.b2n x.set1 + 32 * Bits.b2n held + 64 * Bits.b2n x.inputStale + 128 * Bits.b2n x.sat
  Bits.unsigned 24 x.out + Bits.unsigned 8 x.outExp * 2 ^ 24 + Bits.unsigned 24 x.e * 2 ^ 32 + st * 2 ^ 56 +
    x.misses * 2 ^ 64 + min 255 x.osc.run * 2 ^ 72 + x.missTotal * 2 ^ 80 + x.evals % 2 ^ 32 * 2 ^ 96

/-- LOOP_SLOT_BOUNDARY (R220, R221, R249): the shadow is copied in, inputs latched, then actions of this boundary applied. -/
def slotBoundary (u : Nat) (s : State) : State :=
  let x0 := s.slot u
  if !boundaryDue s u x0 then s
  else
    let s1 := copyIn u (s.setSlot u { x0 with lastB := s.tm.frame + 1 })
    if !evaluated s1 (s1.slot u) then s1
    else
      let x1 := latchRemotes s1 (s1.slot u)
      let x2 := { x1 with
        safeHeld := x1.safeHeld || x1.failNow, failNow := false
        inputStale := x1.inputStale && !sourcesBack s1 x1
        set1 := x1.set1 || x1.set1Now, set1Now := false, latchNow := false }
      let r := eval s1 u x2
      let x3 := { x2 with next := some r.1, e := r.1.e, pv := r.2 }
      Ops.count 2 17 1 (Ops.count 2 16 x2.cfg.nstages (s1.setSlot u { x3 with status := statusOf x3 }))

/-- LOOP_INPUT_STALE (R246): a remote source has missed LOSS_CYCLES network cycles. -/
def inputStale (u : Nat) (s : State) : State :=
  let x := s.slot u
  if x.cfg.inUse && !x.inputStale && x.missing.any fun q => decide (x.cfg.loss ≤ q.2) then
    Ops.raise Event.loopInputStale (mkSrc 1 2 u) 0 0
      { s.setSlot u { x with inputStale := true } with loop.fInput := true }
  else s

/-- A network cycle has ended: counts the missing cycles of every remote source (R246); `inSync` says whether this node and
the source's are in sync. -/
def netCycle (inSync : Nat → Bool) (s0 : State) : State :=
  let s1 := s0.loop.slots.foldl (fun s q =>
    let x := s.slot q.1
    let rs := remotes x s.nodeId
    if rs.isEmpty || !x.cfg.inUse then s
    else
      let missing := rs.foldl (fun t r =>
        let got := match (Tab.get s.loop.remote r.2.1).got with
          | some e => inSync (r.2.1 / 1024) && r.2.2.all fun ec => decide (ec = e)
          | none => false
        Tab.set t r.1 (if got then 0 else Tab.get t r.1 + 1)) x.missing
      s.setSlot q.1 { x with missing := missing }) s0
  { s1 with loop.remote := Tab.mapVals s1.loop.remote fun _ r => { r with got := none } }

/-- The samples that a later boundary may still latch: the last one due of each exponent, and those to come (R245). -/
def keepSamples (frame : Nat) : List LoopSample → List LoopSample
  | [] => []
  | z :: t => if t.any fun y => decide (y.e = z.e) && decide (y.frame ≤ frame) then keepSamples frame t
      else z :: keepSamples frame t

/-- A sample of a remote slot arrives (R245). -/
def remoteSample (key : Nat) (z : LoopSample) (s : State) : State :=
  { s with loop.remote := Tab.modify s.loop.remote key fun r =>
      { r with got := some z.e, samples := keepSamples s.tm.frame (r.samples ++ [z]) } }

/-- The slot with every waiting configuration change copied in: what the shadow holds (R221). -/
def shadow (x : Slot) : Slot :=
  x.ops.foldl (fun x q => match q.2 with
    | .slot g sp => { x with cfg := g, setpoint := sp }
    | .stage k st => { x with stages := Tab.set x.stages k st }
    | _ => x) x

/-- The configuration as written: every slot's shadow (R221, R136). -/
def shadows (s : State) : State :=
  { s with loop.slots := Tab.mapVals s.loop.slots fun _ x => { shadow x with ops := [] } }

/-- Evaluation starts on entry from CONFIGURE: every state is 0 and every output SAFE, which the maps deliver (R235,
R236). -/
def start (s : State) : State :=
  let s1 := { s with
    loop.slots := Tab.mapVals s.loop.slots fun _ x =>
      let y := { x with
        states := [], shown := [], ys := [], out := (shadow x).cfg.safe, next := none, missed := false, osc := {}
        manual := false, safeHeld := false, failing := false, failNow := false, set1Now := false, latchNow := false
        stale := false, inputStale := false, sat := false, misses := 0, e := 0, pv := 0, missing := [], held := [] }
      { y with status := statusOf y }
    loop.pwm := [], loop.servoIn := [], loop.vars := [] }
  s1.loop.slots.foldl (fun s q => if q.2.cfg.inUse then deliver q.1 s else s) s1

/-- LOOP takes effect (R238, Table 6-10). -/
def enable (s : State) : State :=
  { s with loop.slots := Tab.mapVals s.loop.slots fun _ x => { x with set1 := false, missTotal := 0, evals := 0 } }

/-- Loops stop: an evaluation in progress has no effect. Changes that wait are copied at the slot's next boundary (R221). -/
def stop (s : State) : State :=
  { s with loop.slots := Tab.mapVals s.loop.slots fun _ x => { x with next := none, missed := false } }

/-- A signed argument byte. -/
def arg8 (c : Cmd) (off : Nat) : Int := Arg.s c off 1

/-- An M24 argument field. -/
def arg24 (c : Cmd) (off : Nat) : Int := Arg.s c off 3

/-- Whether a source word's kind is allowed on input `j` of a unit (Table 6-2). -/
def kindAllowed (u j w : Nat) : Bool :=
  match Bits.field w 31 28 with
  | 0 => true
  | 1 => decide (j = 0) && !isServo u
  | 2 => true
  | 3 => decide (Bits.field w 27 0 < 832) && decide (Bits.field w 27 0 ≠ u)
  | 4 => true
  | 5 => isServo u && decide (Bits.field w 27 0 = u - 768)
  | 6 => isServo u && decide (j = 0)
  | _ => false

/-- Puts a configuration change into the slot's shadow (R221, R250). -/
def putOp (c : Cmd) (op : Nat) (o : SlotOp) (s : State) : Reply :=
  let x := s.slot c.unit
  let t := s.setSlot c.unit { x with ops := x.ops ++ [(c.origin op, o)] }
  .configLater 1 t t

/-- LOOP_SLOT: fields out of range, then kinds that an input does not allow (R222, R251). Log: 36 (DEDUCED, unsafe). -/
def loopSlot (c : Cmd) (s : State) : Reply :=
  let u := c.unit
  let fl := Arg.u c 1 1
  let g : LoopCfg :=
    { inUse := fl.testBit 0, rate := Arg.u c 0 1, failSafe := fl.testBit 1, phase := Arg.u c 2 2, nstages := Arg.u c 4 1
      x0 := arg8 c 5, x2 := arg8 c 6, x3 := arg8 c 7, src := (List.range 4).map fun j => Arg.u c (8 + 4 * j) 4
      remote := Arg.u c 24 4, loss := Arg.u c 31 1, safe := arg24 c 32, oscAction := Arg.u c 35 1 % 4
      oscEn := (Arg.u c 35 1).testBit 7, oscN := Arg.u c 36 1, hpMin := Arg.u c 38 2, hpMax := Arg.u c 40 2
      oscAmp := arg24 c 42 }
  let rateOk := if isServo u then decide (g.rate = 15) && decide (g.phase = 0)
    else decide (g.rate ≤ 10) && decide (g.phase < 2 ^ g.rate)
  let oscOk := decide (1 ≤ g.oscN) && decide (g.oscN ≤ 32) && decide (1 ≤ g.hpMin) && decide (g.hpMin ≤ g.hpMax) &&
    decide (0 ≤ g.oscAmp)
  let remotes := (g.src.filter fun w => decide (Bits.field w 31 28 = 4)).length
  if !(rateOk && decide (1 ≤ g.nstages) && decide (g.nstages ≤ 8) && decide (1 ≤ g.loss) && decide (g.loss ≤ 8) &&
      oscOk) then .refuse 0x29
  else if remotes = 0 && decide (g.remote ≠ 0) then .refuse 0x29
  else if ((List.range 4).any fun j => !kindAllowed u j (g.src.getD j 0)) || decide (1 < remotes) then .refuse 0x25
  else putOp c 0x0120 (.slot g (arg24 c 28)) s

/-- The coefficient set in the arguments of LOOP_STAGE, when every parameter is in range (Table 6-8). -/
def setArgs (c : Cmd) (u k kind : Nat) (old : CoefSet) : Option CoefSet :=
  let m (offs : List Nat) : List Int := offs.map (arg24 c)
  match kind with
  | 0 =>
    let v := m [4, 7, 10, 13, 16, 19, 22]
    let f := Arg.u c 25 1
    if v.getD 5 0 ≤ v.getD 6 0 ∧ (f = 0 ∨ k = 0) then some { given := true, c := v, flag := f } else none
  | 1 => some { given := true, c := m [4, 7, 10, 13, 16] }
  | 2 => some { given := true, c := m [4, 7, 10] }
  | 3 => if 0 ≤ arg24 c 4 ∧ Arg.u c 7 1 ≤ 1 then some { given := true, c := m [4], flag := Arg.u c 7 1 } else none
  | 4 => if arg24 c 4 ≤ arg24 c 7 then some { given := true, c := m [4, 7] } else none
  | 5 => if 0 ≤ arg24 c 4 ∧ 0 ≤ arg24 c 7 then some { given := true, c := m [4, 7] } else none
  | 6 => some { given := true, c := m [4, 7, 10] }
  | 7 =>
    let f := Arg.u c 4 1
    let n := Arg.u c 5 1
    if (f = 0 ∨ f = 2 ∨ f = 3) ∧ 2 ≤ n ∧ n ≤ 16 then
      some { given := true, flag := f, npts := n, bp := old.bp, gain := old.gain }
    else none
  | 8 => some { given := true, c := m [4, 7] }
  | 9 =>
    let d := Arg.u c 10 1
    let i := Arg.u c 11 2
    let top := match d with
      | 0 => 1
      | 1 => 32
      | 2 => if isServo u then 0 else 64
      | 3 => 256
      | 4 => 1024
      | _ => 0
    if i < top then some { given := true, c := m [4, 7], dest := d, index := i } else none
  | _ => none

/-- Bytes of the argument area a LOOP_STAGE of a kind uses (Table 6-8). -/
def stageBytes (kind : Nat) : Nat :=
  match kind with
  | 0 => 26
  | 1 => 19
  | 2 => 13
  | 3 => 8
  | 4 => 10
  | 5 => 10
  | 6 => 13
  | 7 => 6
  | 8 => 15
  | 9 => 13
  | _ => 48

/-- Whether the unused argument bytes of LOOP_STAGE, and the reserved bits of a PID's FLAGS, are zero (R6, R252). -/
def stageFormat (c : Cmd) : Bool :=
  Arg.zeroFrom c (stageBytes (Arg.u c 1 1)) && (decide (Arg.u c 1 1 ≠ 0) || decide (Arg.u c 25 1 < 2))

/-- LOOP_STAGE (R238, R252). -/
def loopStage (c : Cmd) (s : State) : Reply :=
  let u := c.unit
  let k := Arg.u c 0 1
  let kind := Arg.u c 1 1
  let one := Arg.u c 2 1
  let exp := arg8 c 3
  let old := (shadow (s.slot u)).stage k
  let link := if kind = 8 then Arg.u c 10 4 else 0
  let ec := if kind = 8 then arg8 c 14 else 0
  let oldSet := if one = 1 then old.set1 else old.set0
  if decide (7 < k) || decide (1 < one) || decide (9 < kind) then .refuse 0x22
  else if decide (one = 1) && old.set0.given && (decide (kind ≠ old.kind) || decide (exp ≠ old.exp)) then .refuse 0x22
  else
    match setArgs c u k kind oldSet with
    | none => .refuse 0x22
    | some g =>
      if decide (s.md.mode ≠ .configure) && (decide (kind ≠ old.kind) || decide (exp ≠ old.exp) || !old.set0.given ||
          decide (link ≠ old.link) || (decide (kind = 9) && decide (g.dest ≠ (if oldSet.given then oldSet else old.set0).dest))) then .refuse 0x26
      else
        let keep := decide (kind = old.kind) && decide (exp = old.exp)
        let st : Stage := { kind := kind, exp := exp, link := link, ec := ec
                            set0 := if one = 0 then g else old.set0
                            set1 := if one = 1 then g else if keep then old.set1 else {} }
        putOp c 0x0121 (.stage k st) s

/-- LOOP_TABLE (R253). -/
def loopTable (c : Cmd) (s : State) : Reply :=
  let u := c.unit
  let k := Arg.u c 0 1
  let one := Arg.u c 1 1
  let first := Arg.u c 2 1
  let n := Arg.u c 3 1
  let st := (shadow (s.slot u)).stage k
  let g := if one = 1 then st.set1 else st.set0
  if decide (7 < k) || decide (1 < one) || decide (15 < first) || decide (n = 0) || decide (7 < n) ||
      decide (16 < first + n) || decide (st.kind ≠ 7) then .refuse 0x22
  else
    let g1 := (List.range n).foldl (fun (g : CoefSet) j =>
      { g with bp := Tab.set g.bp (first + j) (arg24 c (4 + 6 * j))
               gain := Tab.set g.gain (first + j) (arg24 c (7 + 6 * j)) }) g
    putOp c 0x0122 (.stage k (if one = 1 then { st with set1 := g1 } else { st with set0 := g1 })) s

/-- Why a run-time command on a unit is refused (R250, Table 6-14). -/
def runReason (s : State) (x : Slot) : Option Nat :=
  if !s.enabled 1 then some 0x20 else if !x.cfg.inUse then some 0x25 else none

/-- LOOP_SETPOINT (R221, R254). -/
def loopSetpoint (c : Cmd) (s : State) : Reply :=
  let x := s.slot c.unit
  match runReason s x with
  | some r => .refuse r
  | none =>
    if Bits.field (x.cfg.src.getD 0 0) 31 28 = 1 then .done (s.setSlot c.unit { x with setpoint := arg24 c 0 }) 0
    else .refuse 0x25

/-- Queues a change for the slot's boundary (R221, R250). -/
def queueOp (c : Cmd) (op : Nat) (o : SlotOp) (s : State) : Reply :=
  let x := s.slot c.unit
  match runReason s x with
  | some r => .refuse r
  | none => .quiet (s.setSlot c.unit { x with ops := x.ops ++ [(c.origin op, o)] })

/-- LOOP_MODE (R237). -/
def loopMode (c : Cmd) (s : State) : Reply :=
  queueOp c 0x0302 (.mode (decide (Arg.u c 0 1 = 1)) (arg24 c 1)) s

/-- LOOP_SET (R238, R243). -/
def loopSet (c : Cmd) (s : State) : Reply := queueOp c 0x0303 (.set (decide (Arg.u c 0 1 = 1))) s

/-- LOOP_PRESET (R254): names a stage. -/
def loopPreset (c : Cmd) (s : State) : Reply :=
  let k := locItem c.locN - 1
  let st := (s.slot c.unit).stage k
  if s.enabled 1 && (s.slot c.unit).cfg.inUse && (decide (st.kind ≠ 0) || !st.set0.given) then .refuse 0x28
  else queueOp c 0x0304 (.preset k (Arg.s c 0 6)) s

/-- LOOP_OSC_CLEAR (R243). -/
def loopOscClear (c : Cmd) (s : State) : Reply := queueOp c 0x0305 .oscClear s

/-- LOOP_STATUS: as of the slot's last boundary (R255). Log: 47 (DEDUCED, unsafe). -/
def loopStatus (c : Cmd) (s : State) : Reply :=
  let x := s.slot c.unit
  if !s.enabled 1 then .refuse 0x20 else .done s (if evaluated s x then x.status else statusOf x)

/-- Units in use. -/
def inUse (s : State) : List (Nat × Slot) := s.loop.slots.filter fun q => q.2.cfg.inUse

/-- The load in 1/1,024 stage evaluations per second (R248). -/
def load (s : State) : Nat :=
  (inUse s).foldl (fun n q =>
    n + q.2.cfg.nstages * 64000 * (if isServo q.1 then 1024 / 2 ^ (s.mot.cfg.toNat % 4) else 2 ^ (10 - q.2.cfg.rate))) 0

/-- LOOP_COUNTS, LOOP_FLAGS and LOOP_LOAD (R256). -/
def counts (s : State) : Nat :=
  (inUse s).length + ((inUse s).filter fun q => q.2.safeHeld || (q.2.osc.latch && decide (q.2.cfg.oscAction = 3))).length *
    2 ^ 16

/-- LOOP_FLAGS (Table 6-12). -/
def flags (s : State) : Nat :=
  Bits.b2n s.loop.fSat + 2 * Bits.b2n s.loop.fStale + 4 * Bits.b2n s.loop.fOsc + 8 * Bits.b2n s.loop.fInput

/-- A W1C write to LOOP_FLAGS. -/
def flagsWrite (v : Nat) (s : State) : State :=
  { s with loop.fSat := s.loop.fSat && !v.testBit 0, loop.fStale := s.loop.fStale && !v.testBit 1
           loop.fOsc := s.loop.fOsc && !v.testBit 2, loop.fInput := s.loop.fInput && !v.testBit 3 }

/-- LOOP_LOAD (Table 6-13): in thousands, rounded up. -/
def loadK (s : State) : Nat := if s.enabled 1 then (load (shadows s) + 1023999) / 1024000 else 0

/-- The first fault of one stage (R229, R232, R234, R233, R245): reason and item. Log: 99 (DEDUCED, unsafe). -/
def checkStage (published : Nat → Bool) (s : State) (x : Slot) (k : Nat) : Option (Nat × Nat) :=
  let st := x.stage k
  let ein := if k = 0 then x.cfg.x0 else (x.stage (k - 1)).exp
  let far (a b : Int) : Bool := decide (23 < (a - b).natAbs)
  let rises (g : CoefSet) : Bool := (List.range (g.npts - 1)).all fun j => decide (Tab.get g.bp j < Tab.get g.bp (j + 1))
  let item := k + 1
  if !st.set0.given then some (0x23, item)
  else if decide (st.kind = 9) && decide (k + 1 ≠ x.cfg.nstages) then some (0x23, item)
  else if far st.exp ein || (decide (st.kind = 6) && (far st.exp x.cfg.x2 || far st.exp x.cfg.x3)) ||
      (decide (st.kind = 8) && far st.exp st.ec) then some (0x24, item)
  else if decide (st.kind = 7) && (!rises st.set0 || (st.set1.given && !rises st.set1)) then some (0x22, item)
  else if decide (st.kind = 8) then
    let y := s.slot (locUnit st.link)
    let named := decide (locRegion st.link = 2) && decide (locDie st.link = 1) && decide (locUnit st.link < 832)
    if !named then some (0x25, item)
    else if locNode st.link = s.nodeId then
      if y.cfg.inUse && decide (y.outExp = st.ec) then none else some (0x25, item)
    else if published st.link then none else some (0x25, item)
  else if st.kind = 9 then
    let fed (g : CoefSet) : Bool :=
      let y := s.slot (768 + g.index)
      !g.given || decide (g.dest ≠ 2) || (y.cfg.inUse && decide (Bits.field (y.cfg.src.getD 0 0) 31 28 = 6))
    if fed st.set0 && fed st.set1 then none else some (0x25, item)
  else none

/-- The first fault of a unit's inputs (R222, R247). Log: 36 (DEDUCED, unsafe), 99 (DEDUCED, unsafe). -/
def checkInputs (published : Nat → Bool) (s : State) (u : Nat) (x : Slot) : Option Nat :=
  let bad (j : Nat) : Bool :=
    let w := x.cfg.src.getD j 0
    let idx := Bits.field w 27 0
    !kindAllowed u j w || match Bits.field w 31 28 with
    | 2 => decide (4095 < idx) || (decide (512 ≤ idx) && decide (idx < 3840) && !(s.slot ((idx - 512) / 4)).cfg.inUse)
    | 3 => !(s.slot idx).cfg.inUse
    | 4 => !published x.cfg.remote
    | _ => false
  let remotes := (x.cfg.src.filter fun w => decide (Bits.field w 31 28 = 4)).length
  if (List.range 4).any bad || decide (1 < remotes) then some 0x25 else none

/-- Output-map destinations of a slot, in either set. -/
def destsOf (x : Slot) : List (Nat × Nat) :=
  let st := x.stage (x.cfg.nstages - 1)
  let one (g : CoefSet) : List (Nat × Nat) := if g.given && decide (g.dest ≠ 0) then [(g.dest, g.index)] else []
  if st.kind = 9 then one st.set0 ++ one st.set1 else []

end Loop

end Sys2Proof.Machine
end

