-- ==== Sys2Proof/Machine/Pair.lean ====
section
/-!
DEFINITION. Active and standby (R456 to R486): checkers, the frame digest, replay, switchover, resynchronisation, the
health report, the links, and the commands of that chapter.
-/

namespace Sys2Proof.Machine.Pair

/-- Die code of a control die (R41). -/
def dieOf : Die → Nat
  | .cda => 1
  | .cdb => 2

/-- What a die holds of its own. -/
def own (s : State) (d : Nat) : DieSt := if d = 1 then s.pair.cda else s.pair.cdb

/-- Replaces it. -/
def setOwn (d : Nat) (x : DieSt) (s : State) : State :=
  if d = 1 then { s with pair.cda := x } else { s with pair.cdb := x }

/-- Start-up state of a die. -/
def bootOf (s : State) (d : Nat) : DieBoot := if d = 1 then s.boot.cda else s.boot.cdb

/-- Replaces it. -/
def setBoot (d : Nat) (x : DieBoot) (s : State) : State :=
  if d = 1 then { s with boot.cda := x } else { s with boot.cdb := x }

/-- Whether a die computes frames: active, or the other die in step or rejoining (Table 13-1). -/
def runs (s : State) (d : Nat) : Bool :=
  decide (s.pair.st ≠ 0) && (decide (s.pair.active = d) || decide (s.pair.st = 1) || decide (s.pair.st = 3))

/-- The die that is not active. -/
def other (s : State) : Nat := 3 - s.pair.active

/-- SELFTEST_EN. -/
def selfTestOn (s : State) : Bool := s.pair.redundancyCfg.toNat.testBit 0

/-- Sets a bit of PAIR_FLAGS. Log: 68 (DEDUCED, unsafe). -/
def flag (i : Nat) (s : State) : State := { s with pair.flags := Bits.setBit s.pair.flags i true }

/-- Unit index that names a marked extent in an event's source: the unit, the first unit of its cluster, or 0 (R29).
Log: 65 (DEDUCED, unsafe). -/
def extentUnit (x : Extent) (unit : Nat) : Nat :=
  match x with
  | .unit => unit
  | .cluster => unit / 8 * 8
  | .region => 0

/-- Code of a checker (Table 13-4). -/
def checkerCode : Checker → Nat
  | .ecc => 1
  | .residue => 2
  | .handshake => 3
  | .slack => 4
  | .dupPath => 5
  | .link => 6

/-- Records DIE_FAULT for the next boundary and notes it as the last fault (R463, Table 13-7). Log: 92 (DEDUCED, unsafe). -/
def record (q : FlagFault) (s : State) : State :=
  let f := (s.tm.frame + 1) % 2 ^ 32
  Ops.raiseMid Event.dieFault q.src q.checker f
    { s with pair.lastFault := q.src + q.checker * 2 ^ 16, pair.lastFaultFrame := f }

/-- Marks a unit of a control die faulted (R29). -/
def markUnit (d region unit : Nat) (s : State) : State :=
  let y := own s d
  setOwn d { y with marks := y.marks ++ [(region, .unit, unit)] } s

/-- A unit's fault that no checker of Table 13-4 has found: it is marked, the die is faulted, and DIE_FAULT names the
unit with
checker code 0 (R29, R30). `late` tells that it was flagged behind lattice point 6,150. Log: 69 (DEDUCED, unsafe). -/
def unitFault (d region unit : Nat) (late : Bool) (s : State) : State :=
  let q : FlagFault := { die := d, src := mkSrc d region unit }
  let s1 := markUnit d region unit s
  if late && decide (s.pair.st = 1) then { s1 with pair.flaggedLate := s1.pair.flaggedLate ++ [q] }
  else record q { s1 with pair.flagged := s1.pair.flagged ++ [q] }

/-- DIE_FAULT (R463, R465). Log: 66 (DESIGN CHOICE, safe), 92 (DEDUCED, unsafe). -/
def dieFault (d : Nat) (k : Checker) (region : Nat) (x : Extent) (unit : Nat) (late : Bool) (s : State) : State :=
  if !runs s d then s
  else
    let u := extentUnit x unit
    let y := own s d
    let q : FlagFault :=
      { die := d, safety := decide (region = 6), checker := checkerCode k, src := mkSrc d region u }
    let s0 := if x = .region then Ops.regionReset d region s else s
    let s1 := setOwn d { y with lastChecker := checkerCode k, marks := y.marks ++ [(region, x, u)] } s0
    -- whether the self-test found it is the die's own: a free value
    let s2 := if selfTestOn s1 then
        let t := s1.draw
        if Config.unstated s1.free = 0 then t else flag 3 t
      else s1
    if late && decide (s.pair.st = 1) then { s2 with pair.flaggedLate := s2.pair.flaggedLate ++ [q] }
    else record q { s2 with pair.flagged := s2.pair.flagged ++ [q] }

/-- ECC_CORRECTED (R464). Log: 41 (DEDUCED, unsafe). -/
def eccCorrected (d : Nat) (s : State) : State :=
  if !runs s d then s
  else
    let y := own s d
    let p := match y.planted.find? fun q => decide (q.1 = 1) with
      | some q => y.planted.erase q
      | none => y.planted
    Ops.raiseLimitedWithMid Event.eccCorrected (mkSrc d 0 0) 0 0
      (Ops.countDie d 0 6 1 (flag 2 (setOwn d { y with ecc := Bits.satInc 16 y.ecc, planted := p }
        { s with pair.eccCorr := Bits.satInc 16 s.pair.eccCorr, pair.eccWin := Bits.satInc 16 s.pair.eccWin })))

/-- FID_FAULT (R476, R31). Log: 65 (DEDUCED, unsafe). -/
def fidFault (region : Nat) (x : Extent) (unit : Nat) (s : State) : State :=
  if !s.tm.lock then s
  else
    let u := extentUnit x unit
    let src := mkSrc 3 region u
    let f := (s.tm.frame + 1) % 2 ^ 32
    let s1 := if x = .region then Ops.regionReset 3 region s else s
    Ops.raiseMid (Event.fidFault region) src src 0
      { s1 with pair.fidMarks := s.pair.fidMarks ++ [(region, x, u)]
                pair.fidReset := if x = .region then s.pair.fidReset ++ [region] else s.pair.fidReset
                pair.lastFault := src, pair.lastFaultFrame := f }

/-- FID_REGION_RETURN: the reset of a faulted FID region has completed (R31). -/
def fidRegionReturn (region : Nat) (s : State) : State :=
  if s.pair.fidReset.contains region then { s with pair.fidReturn := s.pair.fidReturn ++ [region] } else s

/-- The FID regions whose reset has completed return to service. Log: 65 (DEDUCED, unsafe). -/
def fidBack (s : State) : State :=
  { s with
    pair.fidReset := s.pair.fidReset.filter fun r => !s.pair.fidReturn.contains r
    pair.fidMarks := s.pair.fidMarks.filter fun m => !(s.pair.fidReturn.contains m.1 && decide (m.2.1 = .region))
    pair.fidReturn := [] }

/-! Digests and replay. -/

/-- A die's frame digest over its six lane digests (R461). -/
def frameDigest (lanes : List (BitVec 64)) : Nat :=
  Crypto.crc64 ((List.range 6).flatMap fun i => Bits.toLe 8 (lanes.getD i 0).toNat)

/-- Mask of the lanes whose digests differ. -/
def laneMask (a b : List (BitVec 64)) : Nat :=
  ((List.range 6).map fun i => if a.getD i 0 = b.getD i 0 then 0 else 2 ^ i).sum

/-- FRAME_DIGEST_EXCHANGE (R462, R466, R468). Log: 9 (DESIGN CHOICE, safe). -/
def digestExchange (a b : List (BitVec 64)) (fidDiffers : Bool) (s : State) : State :=
  if decide (s.pair.st ≠ 1) || (decide (frameDigest a = frameDigest b) && !fidDiffers) then s
  else
    let m := laneMask a b
    let f := s.tm.frame + 1
    let s1 := Ops.raiseMid Event.digestMismatch (mkSrc 1 7 0) (m + 256 * Bits.b2n fidDiffers) f
      (flag 1 { s with pair.disagrees := Bits.satInc 16 s.pair.disagrees })
    if s1.pair.disagree.isSome || s1.pair.judged.isSome || !s1.pair.flagged.isEmpty then s1
    else { s1 with pair.disagree := some { frame := f } }

/-- Whether a replay finds its die faulty (R467). -/
def differs : Replay → Bool
  | .same => false
  | .differs => true
  | .notJudged => false

/-- REPLAY_RESULT (R467, Table 13-5). Log: 94 (DESIGN CHOICE, safe). -/
def replayResult (a b : Replay) (s : State) : State :=
  match s.pair.disagree with
  | none => s
  | some q =>
    if decide (s.pair.st ≠ 1) || decide (s.tm.frame < q.frame) then s
    else
      let act := if s.pair.active = 1 then differs a else differs b
      let stb := if s.pair.active = 1 then differs b else differs a
      let out := if act && !stb then s.pair.active else if !act && stb then 3 else if act then 5 else 4
      let bad := if act && !stb then s.pair.active else other s
      let s1 := Ops.raiseMid Event.replayResult (mkSrc 1 7 0) out 0
        { s with pair.disagree := none, pair.judged := some bad }
      if 4 ≤ out then Ops.raiseMid Event.pairDisagree (mkSrc 1 7 0) 0 0 s1 else s1

/-- ADC_TEST_END (R274): a die whose mean code is out of range has its converter faulted (R29, R30); if every die that
ran the
test passes, the input is suspect. Log: 69 (DEDUCED, unsafe). -/
def converterTestEnd (c : Nat) (t : Instant) (s : State) : State :=
  let x := s.conv c
  match x.tested with
  | none => s
  | some k =>
    let s1 := s.setConv c { x with tested := none, mismatchRun := 0 }
    let v := Adc.testVerdict k
    let bad := (if v.1 then [1] else []) ++ (if v.2 then [2] else [])
    let hit := bad.filter (runs s)
    if hit.isEmpty then
      Ops.raiseMid Event.adcInputSuspect (mkSrc 1 3 c) c x.lastMux
        { s1 with acq.suspect := Bits.setBit s1.acq.suspect c true }
    else
      hit.foldl (fun s d => unitFault d 3 c (decide (6150 < t.lp)) s) s1

/-! What the dies keep for a replay (R459). -/

/-- The state of the digested regions as it stands. -/
def regionsOf (s : State) : RegionState :=
  { mot := s.mot, loop := s.loop, acq := s.acq, out := s.out, prog := s.prog, net := s.net }

/-- The lines of the Deck whose contents have changed, with what they held. -/
def changedLines (old new : Mem) : List (Nat × Bytes) :=
  if old = new then []
  else
    let line (m : Mem) (l : Nat) : Bytes := Mem.read m (64 * l) 64
    ((((old ++ new).map (·.1 / 64)).eraseDups).filter fun l => line old l != line new l).map fun l => (l, line old l)

/-- At the end of a frame: its journal, which stands until the next one ends or its replay does, and the inputs of the
boundary,
of the last two or, while a die rejoins, of 1,024 (R459, R473). Log: 117 (DESIGN CHOICE, safe). -/
def retain (inp : FieldInputs) (s : State) : State :=
  if s.pair.st = 0 then s
  else
    let f := s.tm.frame + 1
    let kept : KeptInputs :=
      { frame := f, field := inp, msgs := s.hbd.down.filter (fun d => decide (d.wait ≤ 1)), frames := s.net.rx }
    let j : Journal := { frame := f, lines := changedLines s.rep.deck s.deck, region := s.rep.region }
    let replayed (j : Journal) : Bool := s.pair.disagree.any fun q => decide (q.frame = j.frame)
    { s with rep := { inputs := (kept :: s.rep.inputs).take (if s.pair.st = 3 then 1024 else 2)
                      journals := j :: s.rep.journals.filter replayed
                      deck := s.deck, region := regionsOf s } }

/-! What happens at a frame boundary. -/

/-- A die leaves the pair: it is reset, its counters and its safety channel with it (R30, R456, R619).
Log: 65 (DEDUCED, unsafe). -/
def removeDie (d : Nat) (s : State) : State :=
  let y := own s d
  let s1 := Safe.channelLost d 3 false s
  let s2 := setOwn d { lastChecker := y.lastChecker } (setBoot d {} s1)
  { s2 with
    pair.st := 2, pair.tries := 0, pair.resync := {}, pair.disagree := none, pair.judged := none, pair.pct := 0
    pair.coverage := 0
    md.lossCauses := s2.md.lossCauses ++ [3]
    tm.slack := s2.tm.slack.filter fun q => !decide (q.1 / 16 = d)
    tm.floorWait := s2.tm.floorWait.filter fun q => !decide (q.1 / 16 = d)
    log.counters := Tab.mapVals s2.log.counters fun k c =>
      if k / 8 = d then { c with busy := 0, cnt := [], ovf := 0 } else c }

/-- The FID drives the other die from this boundary on (R465, R483). -/
def takeOver (s : State) : State :=
  let n := other s
  Ops.raise Event.failover (mkSrc 1 7 0) n 0
    (flag 0 { s with pair.active := n, pair.failovers := Bits.satInc 16 s.pair.failovers })

/-- Switchover: the active die is faulted (R465). -/
def switchover (s : State) : State :=
  let old := s.pair.active
  removeDie old (takeOver s)

/-- A fault in the active die while no peer is in step (R469); one marked in the Safety region loses its channel (R508).
Log: 68 (DEDUCED, unsafe). -/
def soloFault (safety : Bool) (s : State) : State :=
  let s1 := { s with md.stopCauses := s.md.stopCauses ++ [3] }
  if safety then Safe.allOff (Safe.channelLost s.pair.active 3 false s1) else s1

/-- A rejoining die starts again from self-test (Table 13-6). -/
def restart (s : State) : State :=
  let d := other s
  let y := own s d
  setOwn d { lastChecker := y.lastChecker } (setBoot d {}
    { s with pair.st := 2, pair.resync := {}, pair.pct := 0
             tm.slack := s.tm.slack.filter fun q => !decide (q.1 / 16 = d)
             tm.floorWait := s.tm.floorWait.filter fun q => !decide (q.1 / 16 = d) })

/-- Applies the faults flagged for this boundary (R465, R468, R469). -/
def applyFaults (s : State) : State :=
  let act := s.pair.flagged.filter fun q => decide (q.die = s.pair.active)
  let oth := s.pair.flagged.filter fun q => decide (q.die ≠ s.pair.active)
  let saf := act.any (·.safety)
  let s1 := { s with pair.flagged := [], pair.decided := s.tm.frame + 1 }
  if s.pair.st = 1 then
    if act.isEmpty then removeDie (other s1) s1
    else if oth.isEmpty then switchover s1
    else soloFault saf (removeDie (other s1) s1)
  else
    let s2 := if !oth.isEmpty && decide (s.pair.st = 3) then restart s1 else s1
    if act.isEmpty then s2 else soloFault saf s2

/-- The judgement of a replay applies (R467). -/
def applyJudged (s : State) : State :=
  match s.pair.judged with
  | none => s
  | some d =>
    let s1 := { s with pair.judged := none }
    if s.pair.st ≠ 1 then s1 else if d = s.pair.active then switchover s1 else removeDie d s1

/-- The rejoined die is the standby from this boundary (R472). -/
def join (s : State) : State :=
  let d := other s
  Ops.raise Event.pairRestored (mkSrc 1 7 0) 0 0
    (setBoot d { st := 3, verified := true } { s with pair.st := 1, pair.resync := {}, pair.pct := 0 })

/-- A faulted die's reset, held for one frame, is released into its self-test (R470). -/
def release (d : Nat) (s : State) : State :=
  let b := bootOf s d
  if decide (b.st = 0) && !b.held then setBoot d { b with st := 1 } s else s

/-- RESYNC_PCT: how far the present pass has come is the die's own, a free value (Table 13-7).
Log: 66 (DESIGN CHOICE, safe). -/
def percent (s : State) : State :=
  if s.pair.st = 3 then { s.draw with pair.pct := (Config.unstated s.free % 101).toNat } else s

/-- One more frame boundary without a message on a link, and in a resynchronisation (R473, R478). -/
def age (s : State) : State :=
  let r := s.pair.resync
  { s with
    pair.quietA := min 640 (s.pair.quietA + 1), pair.quietB := min 640 (s.pair.quietB + 1)
    pair.resync := if s.pair.st = 3 then { r with age := r.age + 1, cutAge := if r.cut then r.cutAge + 1 else 0 } else r }

/-- What the pair does at a frame boundary. -/
def boundary (sb : State) : State :=
  let s0 := age sb
  if s0.pair.st = 0 then fidBack s0
  else
    let s1 := fidBack s0
    let s2 := if s1.pair.st = 2 then release (other s1) s1 else s1
    let s3 := if s2.pair.st = 3 && s2.pair.resync.cutDue then
        { s2 with pair.resync.cutDue := false, pair.resync.cut := true }
      else s2
    let s4 := if s3.pair.flagged.isEmpty then applyJudged s3 else applyFaults s3
    let s5 := if s4.pair.st = 3 && s4.pair.resync.joinDue then join s4 else s4
    let late := s5.pair.flaggedLate
    percent (late.foldl (fun s q => record q s) { s5 with pair.flagged := late, pair.flaggedLate := [] })

/-! Resynchronisation. -/

/-- RESYNC_PASS_END with the number of dirty blocks (R471). Log: 67 (DEDUCED, unsafe), 94 (DESIGN CHOICE, safe). -/
def passEnd (dirty : Nat) (s : State) : State :=
  let r := s.pair.resync
  if decide (s.pair.st ≠ 3) || r.cut || r.cutDue then s
  else if dirty ≤ 256 then { s with pair.resync := { r with pass := r.pass + 1, dirty := dirty, cutDue := true } }
  else
    { s with pair.resync := { r with pass := r.pass + 1, dirty := dirty
                                     fullRate := r.fullRate || (decide (r.pass ≠ 0) && decide (r.dirty < 2 * dirty)) } }

/-- PAIR_RESTORED: the die has executed the frame that ends at the present boundary (R472). -/
def restored (s : State) : State :=
  if decide (s.pair.st = 3) && s.pair.resync.cut then { s with pair.resync.joinDue := true } else s

/-- A resynchronising die is held in reset (R470, R473). -/
def hold (verify : Bool) (s : State) : State :=
  let d := other s
  Ops.raiseMid Event.resyncFail (mkSrc d 7 0) 0 0
    (flag 4 (setBoot d { held := true, failVerify := verify } { s with pair.st := 2, pair.resync := {}, pair.pct := 0 }))

/-- RESYNC_RETRY (R470, R473). -/
def resyncRetry (cause : RetryCause) (s : State) : State :=
  match cause with
  | .selfTestFailed => if decide (s.pair.st = 2) && decide ((bootOf s (other s)).st ≠ 0) then hold false s else s
  | .timeout => if 25600 ≤ s.pair.resync.age then again s else s
  | .digestDiffers => if s.pair.resync.cut then again s else s
  | .fellBehind => if s.pair.resync.cut && decide (1024 ≤ s.pair.resync.cutAge) then again s else s
where
  again (s : State) : State :=
    if s.pair.st ≠ 3 then s
    else
      let s1 := { s with pair.tries := s.pair.tries + 1 }
      if 3 ≤ s1.pair.tries then hold false s1
      else Ops.raiseMid Event.resyncRetry (mkSrc (other s) 7 0) 0 0
        { s1 with pair.resync := { age := s.pair.resync.age }, pair.pct := 0 }

/-! The health report. -/

/-- GUARANTEE: the five conditions of R482, the temperature as R649 observes it. -/
def guarantee (m : HealthMeas) (s : State) : Bool :=
  decide (s.pair.st = 1) && m.supplies && s.pwr.fieldValid && s.pwr.hostValid && selfTestOn s &&
    decide (s.pair.cda.tj ≤ 428) && decide (s.pair.cdb.tj ≤ 428) && decide (s.pair.fidTj ≤ 428)

/-- Bit r: FID region r holds a marked fault. -/
def fidFaults (s : State) : Nat :=
  ((List.range 6).map fun r => if s.pair.fidMarks.any fun m => decide (m.1 = r) then 2 ^ r else 0).sum

/-- Bytes 0 to 27 of the type 9 entry (Table 13-7). -/
def entry9 (m : HealthMeas) (s : State) : Nat :=
  let g := Bits.b2n (selfTestOn s) + 2 * Bits.b2n (guarantee m s) + 4 * Bits.b2n s.pair.linkA + 8 * Bits.b2n s.pair.linkB +
    16 * Bits.b2n s.pair.girder + 32 * Bits.b2n (s.pair.linkA || s.pair.linkB)
  0x9000 + s.pair.active * 2 ^ 16 + s.pair.st * 2 ^ 24 + s.tm.frame % 2 ^ 64 * 2 ^ 32 + s.md.mode.code * 2 ^ 96 +
    g * 2 ^ 104 + s.tm.gov.out % 2 ^ 16 * 2 ^ 112 + Bits.unsigned 16 (Bits.sat 16 s.pair.slackWin) * 2 ^ 128 +
    Bits.unsigned 16 (Bits.sat 16 s.pair.tjWin) * 2 ^ 144 + Bits.fitU 32 s.pair.passes * 2 ^ 160 +
    s.pair.failovers * 2 ^ 192 + s.pair.disagrees * 2 ^ 208

/-- Bytes 0 to 27 of the type 10 entry. -/
def entry10 (m : HealthMeas) (s : State) : Nat :=
  0xA000 + s.pair.eccWin * 2 ^ 16 + min s.pair.coverage 1000 * 2 ^ 32 + s.pair.pct * 2 ^ 48 + fidFaults s * 2 ^ 56 +
    s.pair.lastFault * 2 ^ 64 + s.pair.lastFaultFrame * 2 ^ 96 + min m.blaErr 65535 * 2 ^ 128 +
    min m.blbErr 65535 * 2 ^ 144 + min m.girderRetry 65535 * 2 ^ 160

/-- HEALTH_REPORT (R477). The HBD takes it into HEALTH_SUMMARY while a link is up. Log: 69 (DEDUCED, unsafe). -/
def healthReport (m : HealthMeas) (s : State) : State :=
  let cfg := s.pair.redundancyCfg.toNat
  if !cfg.testBit 15 || decide (s.pair.st = 0) || !s.tm.due 6400 0 || decide (s.pair.healthFrame = s.tm.frame + 1) then s
  else
    let ring := Bits.field cfg 12 8
    let s1 := Ops.streamPush ring (entry10 m s) (Ops.streamPush ring (entry9 m s) s)
    let s2 := { s1 with pair.healthFrame := s.tm.frame + 1, pair.eccWin := 0, pair.slackWin := 32767
                        pair.tjWin := -32768 }
    if !s.linkUp then s2
    else
      Ops.fire 56 { s2 with
        hbd.healthBits := s.pair.st + 4 * s.pair.active + 16 * Bits.b2n (selfTestOn s) + 32 * Bits.b2n (guarantee m s)
        hbd.reports := (s2.hbd.reports + 1) % 2 ^ 16
        hbd.healthAge := 0 }

/-! Links. -/

/-- Whether a link is up. -/
def linkOf (s : State) : Die → Bool
  | .cda => s.pair.linkA
  | .cdb => s.pair.linkB

/-- Sets a link's state; a change fires source 52 (Table 15-2). -/
def setLink (l : Die) (up : Bool) (s : State) : State :=
  if linkOf s l = up then s
  else Ops.fire 52 (match l with
    | .cda => { s with pair.linkA := up, pair.quietA := 0 }
    | .cdb => { s with pair.linkB := up, pair.quietB := 0 })

/-- HEARTBEAT: a message received on a link that is up (R478). -/
def heartbeat (l : Die) (s : State) : State :=
  if linkOf s l then
    Ops.countDie (dieOf l) 7 19 1 (match l with
      | .cda => { s with pair.quietA := 0 }
      | .cdb => { s with pair.quietB := 0 })
  else s

/-- Whether a link end has had no valid message for 640 frames. -/
def silent (s : State) (l : Die) : Bool :=
  decide (640 ≤ match l with
    | .cda => s.pair.quietA
    | .cdb => s.pair.quietB)

/-- BARRIER_LINK_DOWN (R478, R480): at once on loss of training, else after 640 frames with no valid message.
Log: 42 (DEDUCED, unsafe). -/
def linkDown (l : Die) (lost : Bool) (s : State) : State :=
  if !linkOf s l || !(lost || silent s l) then s
  else
    let s0 := setBoot (dieOf l) { bootOf s (dieOf l) with img := [] } s
    let s1 := flag 5 (Ops.raiseMid Event.barrierLinkDown (mkSrc (dieOf l) 7 0) (dieOf l - 1) 0 (setLink l false s0))
    if s1.linkUp then s1
    else Ops.raiseMid Event.hostLost (mkSrc 1 7 0) 0 0 (flag 7 { s1 with pair.hostLost := true })

/-- BARRIER_LINK_RETRAIN: training of a down link is begun again; it changes nothing until the link returns (R478). -/
def linkRetrain (_ : Die) (s : State) : State := s

/-- BARRIER_LINK_UP (R478, R480). -/
def linkBack (l : Die) (s : State) : State :=
  if linkOf s l || decide (s.pair.st = 0) || !s.pwr.hostValid || s.pwr.perst then s
  else
    let s1 := Ops.raiseMid Event.barrierLinkUp (mkSrc (dieOf l) 7 0) 0 0 (setLink l true s)
    if s1.pair.hostLost then Ops.raiseMid Event.hostRestored (mkSrc 1 7 0) 0 0 { s1 with pair.hostLost := false } else s1

/-- GIRDER_DOWN: the standby is removed, its link end marked; the event that names the fault is GIRDER_DOWN (R29, R481).
Log: 69 (DEDUCED, unsafe). -/
def girderDown (s : State) : State :=
  if !s.pair.girder || decide (s.pair.st = 0) then s
  else
    let s1 := Ops.raiseMid Event.girderDown (mkSrc 1 7 1) 0 0 (flag 6 { s with pair.girder := false })
    if s.pair.st = 2 then s1 else markUnit (other s) 7 1 { s1 with pair.flagged := s1.pair.flagged ++ [{ die := other s }] }

/-- GIRDER_RETRAIN (R481). -/
def girderRetrain (ok : Bool) (s : State) : State := if ok then { s with pair.girder := true } else s

/-! Commands. -/

/-- PAIR_SWAP (R483). Log: 65 (DEDUCED, unsafe). -/
def swap (s : State) : Reply := if s.pair.st = 1 then .done (takeOver s) 0 else .refuse 0x75

/-- A fault flagged for this boundary decides the selection, and PAIR_SWAP is refused before its mode is judged
(Table 13-6). -/
def swapLost (s : State) : Bool := decide (s.pair.decided = s.tm.frame + 1)

/-- DIE_RETRY (R484). Log: 65 (DEDUCED, unsafe). -/
def retry (s : State) : Reply :=
  if s.pair.st = 3 then .refuse 0x7D
  else if decide (s.pair.st ≠ 2) || !(bootOf s (other s)).held then .refuse 0x7C
  else .done (setBoot (other s) { st := 1 } { s with pair.tries := 0 }) 0

/-- DIAG_INJECT (R624): an error planted in one die, or a write discarded and logged. -/
def inject (d value : Nat) (s : State) : State :=
  let kind := value % 4
  let region := Bits.field value 12 10
  if decide (s.md.mode ≠ .commission) || decide (s.pair.st ≠ 1) || decide (Bits.field value 31 24 ≠ 0x5C) ||
      (decide (kind = 3) && decide (region = 0)) then
    Ops.violation (if d = 1 then 0x800C else 0xC00C) 4 true 15 s
  else if kind = 0 then s
  else
    let y := own s d
    setOwn d { y with planted := y.planted ++ [(kind, if kind = 3 then region else Bits.field value 9 2)] } s

/-- Step 1 of the check of REDUNDANCY_CFG (R485). -/
def cfgBad (s : State) (v : Nat) : Bool :=
  decide (Bits.field v 19 16 < 1) || decide (8 < Bits.field v 19 16) ||
    (v.testBit 15 && !s.hbd.isStream (Bits.field v 12 8))

/-- PAIR_STATUS (Table 13-11). -/
def statusReg (s : State) : Nat :=
  s.pair.st + 4 * s.pair.active + s.pair.pct * 2 ^ 8 + min 255 s.pair.tries * 2 ^ 16

/-- PAIR_COUNTS (Table 13-13). -/
def countsReg (s : State) : Nat :=
  min 255 s.pair.failovers + min 255 s.pair.disagrees * 2 ^ 8 + s.pair.eccCorr * 2 ^ 16

/-- HEALTH_SUMMARY (Table 13-9). Log: 69 (DEDUCED, unsafe). -/
def summaryReg (s : State) : Nat :=
  s.hbd.healthBits + min 255 (s.hbd.healthAge / 6400) * 2 ^ 8 + s.hbd.reports * 2 ^ 16

end Sys2Proof.Machine.Pair
end

