-- ==== Sys2Proof/Machine/Seq.lean ====
section
/-!
DEFINITION. Recipes and Keystone commits: the step table, preparation, commits and deferrals, end conditions, group steps as
a node sees them, and the sequencer commands (R317 to R345).
-/

namespace Sys2Proof.Machine

/-- A step sequencer. -/
def State.seqr (s : State) (q : Nat) : Sequencer := Tab.get s.prog.seqs q

/-- Replaces a step sequencer. -/
def State.setSeqr (s : State) (q : Nat) (x : Sequencer) : State := { s with prog.seqs := Tab.set s.prog.seqs q x }

namespace Seq

/-- A step directory entry (Table 9-2). -/
structure Step where
  first : Nat
  nent : Nat
  kind : Nat
  holdPoint : Bool
  group : Bool
  a : Nat
  b : Nat
  c : Nat
  timeout : Nat
  onTimeout : Nat

/-- A step from its 32 bytes. -/
def stepOf (bs : Bytes) : Step :=
  { first := Bits.leAt bs 0 4, nent := Bits.leAt bs 4 2, kind := Bits.leAt bs 6 1
    holdPoint := (Bits.leAt bs 7 1).testBit 0, group := (Bits.leAt bs 7 1).testBit 1
    a := Bits.leAt bs 8 4, b := Bits.leAt bs 12 4, c := Bits.leAt bs 16 4, timeout := Bits.leAt bs 20 4
    onTimeout := Bits.leAt bs 24 2 }

/-- A step of the loaded table, read from the Deck (R317). -/
def step (s : State) (x : Sequencer) (n : Nat) : Step := stepOf (Mem.read s.deck (x.base + 32 + 32 * n) 32)

/-- The bytes of a step's action entries. -/
def entries (s : State) (x : Sequencer) (d : Step) : Bytes :=
  Mem.read s.deck (x.base + 32 + 32 * x.steps + 16 * d.first) (16 * d.nent)

/-- An action: its entry index in the step, KIND, TARGET, VALUE, and the three entries that follow an axis move. -/
structure Action where
  idx : Nat
  kind : Nat
  target : Nat
  value : Nat
  more : Nat
  /-- Its own reserved bytes are zero. -/
  clean : Bool
  deriving DecidableEq, Repr

/-- The actions of a list of entries; an axis move takes four (R322). The flag is false when a move straddles the end. -/
def actionsOf (fuel i : Nat) (bs : Bytes) : List Action × Bool :=
  match fuel with
  | 0 => ([], true)
  | fuel + 1 =>
    if bs.length < 16 then ([], true)
    else
      let a : Action :=
        { idx := i, kind := Bits.leAt bs 0 1, target := Bits.leAt bs 4 4, value := Bits.leAt bs 8 8, more := 0
          clean := decide (Bits.leAt bs 1 3 = 0) }
      if a.kind = 3 then
        let r := actionsOf fuel (i + 4) (bs.drop 64)
        ({ a with more := Bits.leAt bs 16 48, clean := a.clean && decide (a.value = 0) } :: r.1, r.2 && decide (64 ≤ bs.length))
      else
        let r := actionsOf fuel (i + 1) (bs.drop 16)
        (a :: r.1, r.2)

/-- The actions of a step. -/
def actions (s : State) (x : Sequencer) (d : Step) : List Action := (actionsOf (d.nent + 1) 0 (entries s x d)).1

/-- The origin of a recipe's own moves: no ring. -/
def noRing : Origin := { sq := 32 }

/-- The submission entry an axis move stands for (Table 9-5). Log: 54 (DEDUCED, unsafe). -/
def moveCmd (a : Action) : Cmd :=
  { (default : Cmd) with loc := BitVec.ofNat 32 a.target, flags := 1, args := BitVec.ofNat 384 a.more }

/-- Applies an action: the state after it, or the reason code its own command would be refused with (R322, R326). -/
def apply (a : Action) (s : State) : Except Nat State :=
  match a.kind with
  | 1 =>
    let u := locUnit a.target
    let x := s.slot u
    if !s.enabled 1 then .error 0x20
    else if !x.cfg.inUse || Bits.field (x.cfg.src.getD 0 0) 31 28 ≠ 1 then .error 0x25
    else .ok (s.setSlot u { x with setpoint := Bits.signed 24 a.value })
  | 2 =>
    if (s.valve a.target).cfg.drive ≠ 1 then .error 0x87
    else .ok (s.setValve a.target { s.valve a.target with cmd := decide (a.value % 256 = 1) })
  | 3 =>
    match Mot.moveWith noRing (moveCmd a) s with
    | .refused r _ => .error r
    | .accepted t => .ok t
    | .quiet t => .ok t
    | .done t _ => .ok t
    | _ => .error 0x11
  | 4 => if (s.pwm a.target).drive ≠ 2 then .error 0x87 else .ok (Out.setDuty a.target (a.value % 2 ^ 32) s)
  | _ =>
    let b := Tab.get s.prog.recipeVars a.target
    let t := s.task b.task
    if !b.given then .error 0x83
    else .ok (s.setTask b.task { t with recipes := t.recipes ++ [(a.target, a.value)] })

/-- The reason code of the first action that would be refused, each judged after the ones before it; 0 none (R326). -/
def wouldFail (s : State) (as : List Action) : Nat :=
  match as with
  | [] => 0
  | a :: rest =>
    match apply a s with
    | .error r => r
    | .ok t => wouldFail t rest

/-- Result bytes of SEQ_START (Table 9-9). -/
def result (frame step flags cause deferrals reason : Nat) : Nat :=
  frame % 2 ^ 64 + step * 2 ^ 64 + flags * 2 ^ 80 + cause * 2 ^ 88 + min deferrals 65535 * 2 ^ 96 + reason * 2 ^ 112

/-- Bits of RFLAGS. -/
def rflags (final fail ended paused : Bool) : Nat :=
  Bits.b2n final + 2 * Bits.b2n fail + 4 * Bits.b2n ended + 8 * Bits.b2n paused

/-- The event source of a sequencer. -/
def src (q : Nat) : Nat := mkSrc 1 4 (16 + q)

/-- Whether no step commits: HOLD, and DEGRADED with return mode HOLD (R337). -/
def held (s : State) : Bool := decide (s.permMode = .hold)

/-- The planned completion of a step's preparation (R324). -/
def planned (s : State) (x : Sequencer) : Nat := x.prepP + max 1 (((step s x x.nxt).nent + 63) / 64)

/-- Whether the pending step is coordinated by the cascade master. Log: 54 (DEDUCED, unsafe). -/
def isGroup (s : State) (x : Sequencer) : Bool := decide (x.group ≠ 0) && (step s x x.nxt).group

/-- Makes a step pending: its preparation begins at this boundary; `k` is its earliest Keystone instant (R324).
Log: 54 (DEDUCED, unsafe). -/
def await (x : Sequencer) (n frame : Nat) : Sequencer :=
  { x with pend := true, nxt := n, k := none, prepP := frame, prepDone := false, prepMissed := false, prepFail := 0, deferrals := 0 }

/-- Sets the Keystone instant of the pending step from an earliest one; a group step waits for its announcement (R324,
R329). -/
def plan (s : State) (x : Sequencer) (earliest : Nat) : Sequencer :=
  if isGroup s x then x else { x with k := some (max (planned s x) earliest) }

/-- Pauses before the pending step (R336); between two boundaries it takes the next one's frame number (R342, R578).
Log: 52 (DEDUCED, unsafe). -/
def pause (q cause : Nat) (mid : Bool) (s : State) : State :=
  let x := s.seqr q
  let s1 := s.setSeqr q { x with st := 2, cause := cause, running := false, k := none }
  let s2 := Ops.interim x.org .done (result (s.tm.frame + Bits.b2n mid) x.nxt (rflags false false false true) cause x.deferrals
    (if cause = 2 then x.prepFail else 0)) s1
  if mid then Ops.raiseMid Event.seqPause (src q) cause x.nxt s2 else Ops.raise Event.seqPause (src q) cause x.nxt s2

/-- Ends the recipe: SEQ_START completes and the sequencer is idle (R321). Log: 52 (DEDUCED, unsafe). -/
def finish (q : Nat) (st : Status) (ended : Bool) (s : State) : State :=
  let x := s.seqr q
  let s1 := s.setSeqr q { x with st := 0, running := false, pend := false, k := none, stopped := !ended }
  let n := if x.running then x.cur else x.nxt
  Ops.complete x.org st 0 (result s.tm.frame n (rflags true (x.running && x.actionFail) ended false)
    0 x.deferrals 0) s1

/-- The preparation of the pending step ends (R324, R326): one whose action would be refused pauses the sequencer before the
step, at the end of the step that still runs if there is one. Log: 52 (DEDUCED, unsafe). -/
def prepared (q : Nat) (mid : Bool) (s : State) : State :=
  let x := s.seqr q
  let r := wouldFail s (actions s x (step s x x.nxt))
  let s1 := Ops.count 4 21 1 (s.setSeqr q { x with prepDone := true, prepFail := r })
  if r ≠ 0 ∧ x.running = false then pause q 2 mid s1 else s1

/-- STEP_PREPARED: a preparation that ends behind the deadline of its frame does not count at the boundary that follows
(R325). -/
def stepPrepared (q : Nat) (t : Instant) (s : State) : State :=
  let x := s.seqr q
  if x.st = 1 ∧ x.pend ∧ ¬x.prepDone then
    prepared q true (s.setSeqr q { x with prepMissed := x.prepMissed || decide (5850 < t.lp) })
  else s

/-- The end condition of kinds 1 to 4 at this boundary (Table 9-3). -/
def met (s : State) (x : Sequencer) (d : Step) : Bool :=
  match d.kind with
  | 1 => s.prog.conds.testBit d.a == decide (d.b = 0)
  | 2 => decide (d.c ≤ x.settled)
  | 3 =>
    (List.range 64).all fun a =>
      let on := if a < 32 then d.a.testBit a else d.b.testBit (a - 32)
      let y := s.axis a
      !on || (decide (y.code s.tm.control = 0) && y.queue.isEmpty && y.standstill && decide (y.fe.natAbs ≤ d.c * 2 ^ 24))
  | 4 => x.trig
  | _ => false

/-- What a boundary adds to the observation of an end condition: settled loops and trigger edges after K (R319). -/
def observe (s : State) (x : Sequencer) : Sequencer :=
  let d := step s x x.cur
  match d.kind with
  | 2 =>
    let all := (List.range (d.a / 65536)).all fun i =>
      decide ((Taps.tap s (512 + 4 * (d.a % 65536 + i) + 2)).v.natAbs ≤ (Bits.signed 24 d.b).natAbs)
    { x with settled := if all then x.settled + 1 else 0 }
  | 4 =>
    let hit := (Tab.get s.out.trigIn d.a).edges.any fun e => (e.level == decide (d.b = 0)) && decide (x.lastK * frame256 < e.time)
    { x with trig := x.trig || hit }
  | _ => x

/-- The end of the running step at boundary E: the recipe ends, pauses, or the next step's Keystone instant is set (R319 to
R321, R327, R337). -/
def endStep (q earliest : Nat) (s : State) : State :=
  let x := s.seqr q
  if !x.pend then finish q .done true s
  else if x.actionFail then pause q 3 false s
  else if decide (s.md.mode = .degraded) && (step s x x.cur).holdPoint then pause q 1 false s
  else if x.prepDone && decide (x.prepFail ≠ 0) then pause q 2 false (s.setSeqr q { x with running := false })
  else s.setSeqr q { plan s x earliest with running := false }

/-- STEP_END: the end condition of kinds 1 to 4 holds at this boundary; the next Keystone instant is E + 1.
Log: 53 (DEDUCED, unsafe). -/
def stepEnd (q : Nat) (s : State) : State :=
  let x := s.seqr q
  if decide (x.st = 1) && x.running && met s (observe s x) (step s x x.cur) then endStep q (s.tm.frame + 1) s else s

/-- SEQ_TIMEOUT (R320): the timed-out step does not end at this boundary. -/
def seqTimeout (q : Nat) (s : State) : State :=
  let x := s.seqr q
  let d := step s x x.cur
  if decide (x.st = 1) && x.running && decide (d.timeout ≠ 0) && decide (d.timeout ≤ x.cnt) &&
      !(met s (observe s x) d) && !(decide (d.kind = 0) && decide (d.a ≤ x.cnt)) then
    let s1 := Ops.raise Event.seqTimeout (src q) x.cur 0 { s with prog.seqFlags := Bits.setBit s.prog.seqFlags 2 true }
    if d.onTimeout = 0xFFFF then pause q 4 false (s1.setSeqr q (await x x.cur s.tm.frame))
    else
      let y := { await x d.onTimeout s.tm.frame with running := false }
      s1.setSeqr q (plan s1 y (s.tm.frame + 1))
  else s

/-- At the start of a frame boundary: what the last boundary decides for the steps that run, if its rows have not, and the
preparations that are complete by the deadline of the ended frame. Log: 53 (DEDUCED, unsafe). -/
def closeBoundary (s : State) : State :=
  if !s.enabled 5 then s
  else s.prog.seqs.foldl (fun s p =>
    let q := p.1
    let s1 := seqTimeout q (stepEnd q s)
    let x := s1.seqr q
    let s2 := if decide (x.st = 1) && x.running then s1.setSeqr q (observe s1 x) else s1
    let y := s2.seqr q
    if decide (y.st = 1) && y.pend && !y.prepDone && !y.prepMissed && decide (planned s2 y ≤ s2.tm.frame + 1) then
      prepared q true s2
    else s2) s

/-- Boundaries counted by DURATION and TIMEOUT (R319): not those reached in HOLD. Log: 53 (DEDUCED, unsafe). -/
def countFrames (wasHeld : Bool) (s : State) : State :=
  if wasHeld then s
  else { s with prog.seqs := Tab.mapVals s.prog.seqs fun _ x => if x.running then { x with cnt := x.cnt + 1 } else x }

/-- Commits the pending step (R322, R327, R328): the next step's preparation begins. -/
def commit (q : Nat) (s : State) : State :=
  let x := s.seqr q
  let d := step s x x.nxt
  let as := actions s x d
  let r := as.foldl (fun (r : State × Bool) a =>
    match apply a r.1 with
    | .ok t => (Ops.count 4 22 1 t, r.2)
    | .error _ => (Ops.raise Event.seqActionFail (src q) x.nxt a.idx r.1, true)) (s, false)
  let s1 := if r.2 then { r.1 with prog.seqFlags := Bits.setBit r.1.prog.seqFlags 1 true } else r.1
  let f := s.tm.frame
  let y : Sequencer :=
    { x with running := true, cur := x.nxt, lastK := f, cnt := 0, settled := 0, trig := false, actionFail := r.2
             pend := false, k := none }
  let z := if x.nxt + 1 < x.steps then await y (x.nxt + 1) f else y
  Ops.raise Event.seqStep (src q) x.nxt (f % 2 ^ 32)
    (Ops.interim x.org .done (result f x.nxt (rflags false r.2 false false) 0 x.deferrals 0) (s1.setSeqr q z))

/-- A deferral of the pending step at its instant `k` (R325, R331). Log: 52 (DEDUCED, unsafe). -/
def defer (q k : Nat) (next : Option Nat) (s : State) : State :=
  let x := s.seqr q
  let n := Bits.satInc 16 x.deferrals
  Ops.raise Event.stepDeferred (src q) x.nxt (k % 2 ^ 32)
    (Ops.interim x.org .deferred (result k x.nxt 0 0 n 0)
      { s.setSeqr q { x with deferrals := n, k := next } with prog.seqFlags := Bits.setBit s.prog.seqFlags 0 true })

/-- The group decision a node acts on: the cascade master's, else the backup's (R444). -/
def decision (s : State) (g : Nat) : GroupDec :=
  let m := Tab.get s.net.decM g
  if m.dec ≠ 0 then m else Tab.get s.net.decB g

/-- A group step at a network-cycle boundary (R329 to R332, R334, R335). Log: 61 (DEDUCED, unsafe). -/
def groupStep (q : Nat) (s : State) : State :=
  let x := s.seqr q
  let g := decision s x.group
  let f := s.tm.frame
  match g.dec with
  -- a PAUSE that names its K comes from the master's DEFER_MAX, one that names none from a peer (R331, R335)
  | 4 => pause q (if g.k ≠ 0 then 5 else 6) false s
  | 5 => s.setSeqr q { x with k := none }
  | 1 => if x.k = none ∧ g.step = x.nxt then s.setSeqr q { x with k := some g.k } else s
  | d =>
    match x.k with
    | none => s
    | some k =>
      if f < k || held s then s
      else if d = 2 ∧ g.k = k then commit q s
      else if d = 3 then defer q k (some g.k) s
      else
        pause q 7 false (Ops.raise Event.keystoneNoDecision (src q) x.nxt (k % 2 ^ 32)
          { s with prog.seqFlags := Bits.setBit s.prog.seqFlags 3 true })

/-- Length of the network cycle in frames. -/
def cycleLen (s : State) : Nat := 2 ^ s.net.sys.cycleN

/-- KEYSTONE_COMMIT: the pending step at its Keystone instant (R325, R326, R328, R330 to R332, R337). -/
def keystone (q : Nat) (s : State) : State :=
  let x := s.seqr q
  let f := s.tm.frame
  if x.st ≠ 1 ∨ ¬x.pend then s
  else if isGroup s x then
    if x.prepDone ∧ x.prepFail ≠ 0 ∧ ¬x.running then pause q 2 false s
    else if s.tm.due (cycleLen s) 0 then groupStep q s
    else s
  else
    match x.k with
    | none => s
    | some k0 =>
      if f < k0 || held s then s
      else
        let skipped := decide (s.tm.first ≤ k0) && decide (k0 < f)
        let s1 := if skipped then defer q k0 (some f) s else s
        let k := if skipped then f else k0
        if !x.prepDone || x.prepMissed then defer q k (some (f + 1)) s1
        else if x.prepFail ≠ 0 then pause q 2 false s1
        else commit q s1

/-- KEYSTONE_COMMIT as a row of its own: what the boundary's commit phase has not done. Log: 98 (DEDUCED, safe). -/
def keystoneCommit (q : Nat) (s : State) : State := if s.enabled 5 then keystone q s else s

/-- The commit phase of a frame boundary: duration ends, then the steps whose instant has come, in sequencer order (R319,
R323). Log: 21 (DEDUCED, unsafe), 53 (DEDUCED, unsafe). -/
def commitAll (s : State) : State :=
  if !s.enabled 5 then s
  else
    let s1 := s.prog.seqs.foldl (fun s p =>
      let q := p.1
      let x := s.seqr q
      let d := step s x x.cur
      let s1 := if decide (x.st = 1) && x.running && decide (d.kind = 0) && decide (d.a ≤ x.cnt) then endStep q s.tm.frame s else s
      keystone q s1) s
    if s1.tm.due (cycleLen s1) 0 then { s1 with net.decM := [], net.decB := [] } else s1

/-- The steps whose instants a TIME_SET of this boundary has skipped (R89, R325): `label` is the number the boundary had.
Log: 21 (DEDUCED, unsafe). -/
def commitSkipped (label : Nat) (s : State) : State :=
  if s.tm.frame = label ∨ ¬s.enabled 5 then s else s.prog.seqs.foldl (fun s p => keystone p.1 s) s

/-- At the end of a frame boundary a refused preparation of a pending step is judged again, against the state as it now
stands
(R326); a successful one stays so, and what fails at K after it is skipped (R327). A miss counts for its boundary only.
Log: 52 (DEDUCED, unsafe). -/
def judge (s0 : State) : State :=
  let s := { s0 with prog.seqs := Tab.mapVals s0.prog.seqs fun _ x => { x with prepMissed := false } }
  s.prog.seqs.foldl (fun s p =>
    let x := s.seqr p.1
    if decide (x.st = 1) && x.pend && x.prepDone && decide (x.prepFail ≠ 0) then
      s.setSeqr p.1 { x with prepFail := wouldFail s (actions s x (step s x x.nxt)) }
    else s) s

/-- A step's preparation misses the deadline of the frame in progress in one die: what the other has completed is discarded
(R80, R81, R325). -/
def miss (q : Nat) (s : State) : State :=
  let x := s.seqr q
  if x.pend then s.setSeqr q { x with prepMissed := true, prepDone := false } else s

/-- Every sequencer stops: SAFE_STOP and every mode in which recipes do not run (R337). -/
def stopAll (s : State) : State :=
  s.prog.seqs.foldl (fun s p => if (s.seqr p.1).st = 0 then s else finish p.1 .aborted false s) s

/-- An abort command naming SEQ_START (R339): its own status, none when no sequencer has that origin. -/
def abort (hit : Origin → Bool) (s : State) : Option (State × Status) :=
  match s.prog.seqs.find? fun p => decide (p.2.st ≠ 0) && hit p.2.org with
  | none => none
  | some p =>
    let x := s.seqr p.1
    if x.running && decide (x.lastK = s.tm.frame) then some (finish p.1 .done true s, .nothingToAbort)
    else some (finish p.1 .aborted false s, .done)

/-- The group status of this node's sequencer (Table 12-4, KIND 5): GSTATE, STEP and K. -/
def groupStatus (s : State) (g : Nat) : GroupStatus :=
  match s.prog.seqs.find? fun p => p.2.given && decide (p.2.group = g) with
  | none => {}
  | some p =>
    let x := p.2
    let pend := decide (x.st = 1) && x.pend && isGroup s x
    let endMet := pend && !x.running && decide (x.k = none)
    let ready := pend && x.prepDone && decide (x.prepFail = 0)
    { got := true
      state := Bits.b2n endMet + 2 * Bits.b2n ready + 4 * Bits.b2n (pend && held s) + 8 * Bits.b2n (decide (x.st = 2)) +
        16 * Bits.b2n x.stopped
      step := if x.pend then x.nxt else x.cur
      k := (x.k.getD 0) % 2 ^ 32 }

/-! Commands. -/

/-- Sequencer a command names. -/
def unitOf (c : Cmd) : Nat := c.unit - 16

/-- SEQ_CFG (R317, R340): a new area discards the loaded table. -/
def seqCfg (c : Cmd) (s : State) : Reply :=
  let n := Arg.u c 4 1
  if n < 12 ∨ 24 < n then .refuse 0x81
  else
    let q := unitOf c
    let x := s.seqr q
    let base := Arg.u c 0 4
    let same := x.given && decide (x.base = base) && decide (x.sizeLog2 = n)
    .config 5 (s.setSeqr q { x with
      given := true, base := base, sizeLog2 := n, group := Arg.u c 5 1, loaded := x.loaded && same })

/-- A table as its bytes give it. -/
def header (bs : Bytes) : Nat × Nat × Nat × Nat := (Bits.leAt bs 0 2, Bits.leAt bs 4 4, Bits.leAt bs 8 4, Bits.leAt bs 12 4)

/-- Whether a step's end fields are within Table 9-3 and its reserved fields zero. Log: 54 (DEDUCED, unsafe). -/
def stepClean (bs : Bytes) (d : Step) : Bool :=
  decide (Bits.leAt bs 7 1 < 4) && decide (Bits.leAt bs 26 6 = 0) && decide (d.nent ≤ 256) &&
  match d.kind with
  | 0 => decide (1 ≤ d.a) && decide (d.b = 0) && decide (d.c = 0)
  | 1 => decide (d.a ≤ 1023) && decide (d.b ≤ 1) && decide (d.c = 0)
  | 2 => decide (1 ≤ d.a / 65536) && decide (d.a / 65536 ≤ 64) && decide (1 ≤ d.c) && decide (d.c ≤ 65535)
  | 3 => true
  | 4 => decide (d.a ≤ 7) && decide (d.b ≤ 1) && decide (d.c = 0)
  | _ => false

/-- Whether Table 9-5 allows an action's target: 0x83, or 0x87 (R318, R322). -/
def targetReason (s : State) (a : Action) : Option Nat :=
  match a.kind with
  | 1 =>
    let x := s.slot (locUnit a.target)
    if locDefined a.target && decide (locNode a.target = s.nodeId) && decide (locDie a.target = 1) &&
        decide (locRegion a.target = 2) && decide (locItem a.target = 0) && x.cfg.inUse &&
        decide (Bits.field (x.cfg.src.getD 0 0) 31 28 = 1) then none
    else some 0x83
  | 2 => if 63 < a.target then some 0x83 else if (s.valve a.target).cfg.drive = 1 then none else some 0x87
  | 3 =>
    if locDefined a.target && decide (locNode a.target = s.nodeId) && decide (locDie a.target = 1) &&
        decide (locRegion a.target = 1) && decide (locItem a.target = 0) then none
    else some 0x83
  | 4 => if 31 < a.target then some 0x83 else if (s.pwm a.target).drive = 2 then none else some 0x87
  | 5 => if a.target ≤ 1023 ∧ (Tab.get s.prog.recipeVars a.target).given then none else some 0x83
  | _ => some 0x83

/-- Whether an action's value is as Table 9-5 gives it. -/
def valueClean (a : Action) : Bool :=
  a.clean &&
  match a.kind with
  | 1 => decide (a.value < 2 ^ 24)
  | 2 => decide (a.value ≤ 1)
  | 3 => decide (a.more / 2 ^ 352 < 4)
  | 4 => decide (a.value < 2 ^ 32)
  | _ => true

/-- Two actions that name one target. -/
def twice : List Action → Bool
  | [] => false
  | a :: rest => (rest.any fun b => decide (b.kind = a.kind) && decide (b.target = a.target)) || twice rest

/-- The checks of SEQ_LOAD on a table (R318). Log: 54 (DEDUCED, unsafe). -/
def checkTable (s : State) (x : Sequencer) (bs : Bytes) : Option Nat :=
  let (steps, acts, crc, _) := header bs
  let total := 32 + 32 * steps + 16 * acts
  if steps < 1 ∨ 4096 < steps ∨ Bits.leAt bs 2 2 ≠ 0 ∨ Bits.leAt bs 16 16 ≠ 0 ∨ 2 ^ x.sizeLog2 < total ∨ bs.length < total ∨
      Crypto.crc32c (Bits.slice bs 16 (total - 16)) ≠ crc then some 0x82
  else
    let dir := (List.range steps).map fun i => Bits.slice bs (32 + 32 * i) 32
    let acts' (d : Step) := actionsOf (d.nent + 1) 0 (Bits.slice bs (32 + 32 * steps + 16 * d.first) (16 * d.nent))
    let bad (b : Bytes) : Bool :=
      let d := stepOf b
      !stepClean b d || decide (acts < d.first + d.nent) || !(acts' d).2 || ((acts' d).1.any fun a => !valueClean a) ||
        !(decide (d.onTimeout = 0xFFFF) || decide (d.onTimeout < steps))
    if dir.any bad then some 0x82
    else if dir.any fun b => twice (acts' (stepOf b)).1 then some 0x86
    else dir.findSome? fun b => (acts' (stepOf b)).1.findSome? (targetReason s)

/-- SEQ_LOAD (R318, R340). -/
def seqLoad (c : Cmd) (load : Option Bytes) (s : State) : Reply :=
  let q := unitOf c
  let x := s.seqr q
  if !s.enabled 5 then .refuse 0x80
  else if !x.given || decide (2 ^ x.sizeLog2 < Arg.u c 8 4) then .refuse 0x81
  else if x.st ≠ 0 then .refuse 0x85
  else
    match load with
    | none => .ends s .busError 0
    | some bs =>
      match checkTable s x bs with
      | some r => .refuse r
      | none =>
        let (steps, _, _, id) := header bs
        .done { s.setSeqr q { x with loaded := true, recipe := id, steps := steps } with
          deck := Mem.write s.deck x.base bs } 0

/-- Nanoseconds of a 12-byte Forard time at an argument offset. -/
def time12 (c : Cmd) (off : Nat) : Nat := Arg.u c off 8 * 1000000000 + Arg.u c (off + 8) 4

/-- START_AT is zero or a frame boundary (R341). -/
def startFormat (c : Cmd) : Bool :=
  Arg.zero c 2 2 && decide (time12 c 4 % 15625 = 0) && decide (Arg.u c 12 4 < 1000000000) && Arg.zeroFrom c 16

/-- SEQ_START (R340, R341). -/
def seqStart (c : Cmd) (s : State) : Reply :=
  let q := unitOf c
  let x := s.seqr q
  let n := Arg.u c 0 2
  let at_ := time12 c 4 / 15625
  if !s.enabled 5 then .refuse 0x80
  else if x.st ≠ 0 then .refuse 0x85
  else if !x.given || !x.loaded then .refuse 0x82
  else if x.steps ≤ n then .refuse 0x81
  else if x.group ≠ 0 ∧ at_ % cycleLen s ≠ 0 then .refuse 0x8B
  else
    let y : Sequencer :=
      await { x with st := 1, cause := 0, org := c.origin 0x0801, running := false, stopped := false } n s.tm.frame
    let z := if isGroup s y then (if s.tm.frame < at_ then { y with k := some at_ } else y) else plan s y at_
    .accepted (s.setSeqr q z)

/-- SEQ_RESUME (R336). -/
def seqResume (c : Cmd) (s : State) : Reply :=
  let q := unitOf c
  let x := s.seqr q
  if !s.enabled 5 then .refuse 0x80
  else if x.st ≠ 2 then .refuse 0x8A
  else .done (s.setSeqr q (plan s { await x x.nxt s.tm.frame with st := 1 } 0)) 0

/-- SEQ_STATUS (R343). -/
def seqStatus (c : Cmd) (s : State) : Reply :=
  let x := s.seqr (unitOf c)
  if !s.enabled 5 then .refuse 0x80
  else
    .done s ((if x.loaded then x.recipe else 0) + (if x.running then x.cur else x.nxt) * 2 ^ 32 + x.st * 2 ^ 48 +
      x.cause * 2 ^ 56 + x.lastK % 2 ^ 64 * 2 ^ 64)

/-- SEQ_STATE (Table 9-10). -/
def state (s : State) : Nat :=
  s.prog.seqs.foldl (fun n p =>
    if p.2.st = 1 then Bits.setBit n p.1 true else if p.2.st = 2 then Bits.setBit n (16 + p.1) true else n) 0

end Seq

end Sys2Proof.Machine
end

