-- ==== Sys2Proof/Machine/Acq.lean ====
section
/-!
DEFINITION. Acquisition (R287 to R316): reductions, stream blocks, capture engines and their measurements.
-/

namespace Sys2Proof.Machine

namespace AcqOps

/-- The sign-ordered key of a float's bits: −0 below +0 (R293). -/
def floatKey (w : Nat) (b : Int) : Int := if b < 2 ^ (w - 1) then b else -(b - 2 ^ (w - 1)) - 1

/-- Width of a float format in bits. -/
def floatBits (fmt : Nat) : Nat := if fmt = 7 then 32 else 64

/-- Whether a float sample is a NaN. -/
def isNaN (fmt : Nat) (b : Int) : Bool :=
  if fmt = 7 then decide (0x7F800000 < b.toNat % 2 ^ 31) else decide (0x7FF0000000000000 < b.toNat % 2 ^ 63)

/-- A float sample as binary64 bits. -/
def toF64 (fmt : Nat) (b : Int) : Nat := if fmt = 7 then f32.conv f64 b.toNat else b.toNat

/-- Adds one sample to an interval (R292, R293, R295). Log: 50 (DEDUCED, unsafe). -/
def add (fmt : Nat) (x : Int) (xchk clip : Bool) (a : RedAcc) : RedAcc :=
  let a1 := { a with n := a.n + 1, last := x, xchk := a.xchk || xchk, clip := a.clip || clip }
  if Taps.isFloat fmt then
    if isNaN fmt x then a1
    else
      let w := floatBits fmt
      let y : Int := toF64 fmt x
      if a.good = 0 then { a1 with good := 1, min := x, max := x, sum := y }
      else
        { a1 with good := a.good + 1
                  min := if floatKey w x < floatKey w a.min then x else a.min
                  max := if floatKey w a.max < floatKey w x then x else a.max
                  sum := f64.add a.sum.toNat y.toNat }
  else if a.n = 0 then { a1 with min := x, max := x, sum := x }
  else { a1 with min := min a.min x, max := max a.max x, sum := a.sum + x }

/-- The samples of a tap at this boundary (R292). -/
def samples (s : State) (tap : Nat) (a : RedAcc) : RedAcc :=
  if tap < 128 then
    (s.acq.fresh.filter fun r => decide (r.input = tap)).foldl (fun a r => add 0 r.value r.xchk r.clip a) a
  else
    let v := Taps.tap s tap
    add v.fmt v.v false false a

/-- One tap's reduction at the present boundary: a new setting, a new interval, and its samples (R291, R299). -/
def sampleTap (s : State) (tap : Nat) (r0 : Reduction) : Reduction :=
  let r1 := match r0.acc, r0.newCfg with
    | none, some c => if s.tm.due (2 ^ c.m) 0 then { r0 with cfg := c, newCfg := none } else r0
    | _, _ => r0
  let r2 := match r1.acc with
    | some _ => r1
    | none =>
      if r1.cfg.on && s.tm.due (2 ^ r1.cfg.m) 0 then
        let i := 2 ^ r1.cfg.m
        { r1 with acc := some { s := s.tm.frame / i * i, first := Taps.tap s tap, cfg := r1.cfg } }
      else r1
  match r2.acc with
  | some a => { r2 with acc := some (samples s tap a) }
  | none => r2

/-- Samples every reducing tap at the present boundary. -/
def sampleAll (s : State) : State :=
  if s.enabled 3 then { s with acq.red := Tab.mapVals s.acq.red (sampleTap s) } else s

/-- Intervals that end at the boundary reached. -/
def closeIntervals (s : State) : State :=
  { s with acq.red := Tab.mapVals s.acq.red fun _ r =>
      match r.acc with
      | some a => if a.s + 2 ^ a.cfg.m ≤ s.tm.frame then { r with acc := none, ended := some a } else r
      | none => r }

/-- REDUCTION_INTERVAL_END (R297). -/
def intervalEnd (tap : Nat) (s : State) : State :=
  let r := Tab.get s.acq.red tap
  match r.ended with
  | none => s
  | some a =>
    { s with acq.red := Tab.set s.acq.red tap { r with ended := none }
             acq.done := s.acq.done ++ [{ tap := tap, acc := a, due := s.tm.frame + 1 }] }

/-- A reduction that missed its deadline makes its block late (R297). -/
def miss (tap : Nat) (s : State) : State :=
  match s.acq.done.find? fun d => decide (d.tap = tap) && !d.late with
  | none => s
  | some d0 =>
    let same (d : RedDone) : Bool := decide (d.acc.cfg.ring = d0.acc.cfg.ring) && decide (d.acc.cfg.m = d0.acc.cfg.m) &&
      decide (d.acc.s = d0.acc.s) && !d.late
    { s with acq.done := s.acq.done.map fun d => if same d then { d with late := true, due := d.due + 1 } else d }

/-- MIN, MAX, MEAN and LAST of an interval (R293, R294). Log: 50 (DEDUCED, unsafe). -/
def results (a : RedAcc) : Int × Int × Int × Int :=
  let fmt := a.first.fmt
  if a.n = 0 then (a.first.v, a.first.v, a.first.v, a.first.v)
  else if Taps.isFloat fmt then
    if a.good = 0 then
      let q : Int := if fmt = 7 then 0x7FC00000 else 0x7FF8000000000000
      (q, q, q, a.last)
    else
      let m := f64.div a.sum.toNat (f64.ofInt a.good)
      (a.min, a.max, (if fmt = 7 then ((f64.conv f32 m : Nat) : Int) else (m : Int)), a.last)
  else (a.min, a.max, Bits.roundDiv a.sum a.n, a.last)

/-- Stream entries of one tap's interval: bodies of 28 bytes (Table 8-6). -/
def entries (d : RedDone) : List Nat :=
  let a := d.acc
  let fmt := a.first.fmt
  let fl := Bits.b2n d.late + 2 * Bits.b2n (decide (a.n = 0)) +
    4 * Bits.b2n (Taps.isFloat fmt && decide (a.good < a.n)) + 8 * Bits.b2n a.xchk + 16 * Bits.b2n a.clip +
    32 * Bits.b2n a.cfg.fwd
  let exp := if fmt = 3 then Bits.unsigned 8 a.first.e else 0
  let head (ty : Nat) : Nat := ty * 2 ^ 12 + d.tap + fmt * 2 ^ 16 + fl * 2 ^ 24 + a.n % 2 ^ 24 * 2 ^ 32
  let tail := a.s % 2 ^ 32 * 2 ^ 192
  let (mn, mx, mean, last) := results a
  if a.cfg.fwd then
    let m := if a.n = 0 then a.first.v * 2 ^ a.cfg.xbits else Bits.roundDiv (a.sum * 2 ^ a.cfg.xbits) a.n
    [head 0 + exp * 2 ^ 56 + Bits.unsigned 64 (Bits.fit 64 m) * 2 ^ 64 + a.cfg.xbits * 2 ^ 128 + tail]
  else if Taps.width fmt = 8 then
    [head 0 + Bits.unsigned 64 mn * 2 ^ 64 + Bits.unsigned 64 mx * 2 ^ 128 + tail,
      head 1 + Bits.unsigned 64 mean * 2 ^ 64 + Bits.unsigned 64 last * 2 ^ 128 + tail]
  else
    [head 0 + exp * 2 ^ 56 + Bits.unsigned 32 mn * 2 ^ 64 + Bits.unsigned 32 mx * 2 ^ 96 + Bits.unsigned 32 mean * 2 ^ 128 +
      Bits.unsigned 32 last * 2 ^ 160 + tail]

/-- Pushes stream entries of a ring and counts them. -/
def pushAll (ring : Nat) (bodies : List Nat) (s : State) : State :=
  Ops.count 3 18 bodies.length (bodies.foldl (fun s b => Ops.streamPush ring b s) s)

/-- One block: a header and the taps' entries in ascending tap number (R298, Table 8-5). -/
def block (ring m start : Nat) (late : Bool) (ds : List RedDone) (s : State) : State :=
  let sorted := (List.range 4096).flatMap fun t => ds.filter fun d => decide (d.tap = t)
  let es := sorted.flatMap entries
  let time := start * frame256
  let head := 0x2000 + m + s.pair.active * 2 ^ 16 + Bits.b2n late * 2 ^ 24 + es.length * 2 ^ 32 + start * 2 ^ 64 +
    Time.secs time * 2 ^ 128 + Time.nanos time * 2 ^ 192
  pushAll ring (head :: es) (if late then { s with acq.late := true } else s)

/-- The keys of a list without repeats, in order of first appearance. -/
def keysOf (ds : List RedDone) : List (Nat × Nat × Nat × Bool) :=
  ds.foldl (fun l d =>
    let k := (d.acc.cfg.ring, d.acc.cfg.m, d.acc.s, d.late)
    if l.contains k then l else l ++ [k]) []

/-- Blocks due at this boundary are handed to the barrier, in ascending m (R297, R298). -/
def handOver (s0 : State) : State :=
  let now := s0.acq.done.filter fun d => decide (d.due ≤ s0.tm.frame)
  let s1 := { s0 with acq.done := s0.acq.done.filter fun d => !decide (d.due ≤ s0.tm.frame) }
  (List.range 17).foldl (fun s m =>
    ((keysOf now).filter fun k => decide (k.2.1 = m)).foldl (fun s k =>
      block k.1 m k.2.2.1 k.2.2.2
        (now.filter fun d => decide ((d.acc.cfg.ring, d.acc.cfg.m, d.acc.s, d.late) = k)) s) s) s1

/-- One capture engine. -/
def cap (s : State) (e : Nat) : Capture := Tab.get s.acq.cap e

/-- Replaces one capture engine. -/
def setCap (s : State) (e : Nat) (x : Capture) : State := { s with acq.cap := Tab.set s.acq.cap e x }

/-- Bytes of a sample, lowest first (Table 8-2). -/
def sampleBytes (v : TapVal) : Bytes := Bits.toLe (Taps.width v.fmt) (Bits.unsigned 64 v.v)

/-- A row's bytes. -/
def rowBytes (row : List TapVal) : Bytes := row.flatMap sampleBytes

/-- Writes bytes through a circular store. -/
def writeRing (base size off : Nat) (bs : Bytes) (m : Mem) : Mem :=
  (bs.zipIdx.foldl (fun m b => Tab.set m (base + (off + b.2) % size) b.1)) m

/-- Whether an engine's trigger is met by a sample x at or after ready (Table 8-7). -/
def met (t : CapTrig) (c : Capture) (x : Int) : Bool :=
  let inside (y : Int) : Bool := decide (t.level ≤ y) && decide (y ≤ t.hi)
  let act := if t.pol then decide (x ≤ t.level) else decide (t.level ≤ x)
  match t.kind with
  | 0 => act
  | 1 =>
    let rise := decide (t.level ≤ x) && c.low
    let fall := decide (x ≤ t.level) && c.high
    if t.either then rise || fall else if t.pol then fall else rise
  | 2 => decide (0 < c.taken) && (if t.leave then inside c.prev && !inside x else !inside c.prev && inside x)
  | 3 =>
    match c.pulse with
    | some w => !act && decide (t.wmin ≤ w) && decide (w ≤ t.wmax)
    | none => false
  | _ => c.evHit

/-- What an engine remembers of a sample for its trigger (Table 8-7). -/
def track (t : CapTrig) (ready : Bool) (c : Capture) (x : Int) : Capture :=
  let act := if t.pol then decide (x ≤ t.level) else decide (t.level ≤ x)
  let c1 := { c with prev := x, taken := c.taken + 1 }
  if !ready then c1
  else
    { c1 with
      low := c.low || decide (x ≤ t.level - t.hyst), high := c.high || decide (t.level + t.hyst ≤ x)
      pulse := if !act then none else match c.pulse with
        | some w => some (w + 1)
        | none => if c.idle then some 1 else none
      idle := !act }

/-- An engine at its arming or re-arming (R303, R304). -/
def rearm (c : Capture) : Capture :=
  { c with rows := [], taken := 0, readyFrame := none, hit := none, low := false, high := false, pulse := none
           idle := false, evHit := false }

/-- The result of CAPTURE_ARM (Table 8-11). -/
def armResult (c : Capture) : Nat := Bits.fitU 32 c.records + c.lastTrig * 2 ^ 64

/-- A record is complete: it is handed over at the next boundary, as it was taken; the arming's last one leaves the
engine idle
(R304, R307). -/
def recordDone (tf : Nat) (c : Capture) : Capture :=
  let last := !c.normal || c.stopMark
  let c1 := { c with records := c.records + 1, lastTrig := tf }
  let r : CapRecord :=
    { cfg := c.cfg, kind := c.trig.kind, normal := c.normal, arm := if last then c.arm else none, result := armResult c1
      num := c.records, trigFrame := tf, rows := c.rows.reverse, stopped := c.stopMark }
  let c2 := rearm { c1 with out := some r }
  if last then { c2 with arm := none, stopMark := false } else c2

/-- Completes an engine's arm command, and the CAPTURE_STOPs that wait, and makes it idle (R304, R305). -/
def endArm (e : Nat) (st : Status) (s : State) : State :=
  let c := cap s e
  let s1 := match c.arm with
    | some o => Ops.complete o st 0 (armResult c) s
    | none => s
  let s2 := c.stops.foldl (fun s o => Ops.complete o .done 0 0 s) s1
  setCap s2 e { rearm c with arm := none, stops := [], stopMark := false }

/-- CAPTURE_STOPs that waited for an engine's record complete once the engine is idle (R305). -/
def releaseStops (e : Nat) (s : State) : State :=
  let c := cap s e
  if c.arm.isSome then s
  else c.stops.foldl (fun s o => Ops.complete o .done 0 0 s) (setCap s e { c with stops := [] })

/-- Whether a trigger of the arming has been accepted and its record is still open. -/
def recording (c : Capture) : Bool := c.hit.isSome

/-- A CAPTURE_STOP acts: after an accepted trigger it waits for the record, else the arming ends (R305). -/
def actStop (e : Nat) (o : Origin) (s : State) : State :=
  let c := cap s e
  if c.arm.isNone then Ops.complete o .done 0 0 s
  else if recording c then setCap s e { c with stops := c.stops ++ [o], stopMark := true }
  else Ops.complete o .done 0 0 (endArm e (if c.records = 0 then .aborted else .done) s)

/-- An abort acts: before the first trigger of the arming it ends the engine ABORTED, after it nothing happens (R306). -/
def actAbort (e : Nat) (o : Origin) (s : State) : State :=
  let c := cap s e
  if c.arm.isNone || recording c || decide (c.records ≠ 0) then Ops.complete o .nothingToAbort 0 0 s
  else Ops.complete o .done 0 0 (endArm e .aborted s)

/-- Stops and aborts that waited for the sample of their boundary act, in their order. Log: 51 (DEDUCED, unsafe). -/
def actEnds (e : Nat) (s : State) : State :=
  let c := cap s e
  c.ends.foldl (fun s q => if q.1 then actAbort e q.2 s else actStop e q.2 s) (setCap s e { c with ends := [] })

/-- Those whose boundary has passed. -/
def actAllEnds (s0 : State) : State :=
  s0.acq.cap.foldl (fun s q => if q.2.ends.isEmpty then s else actEnds q.1 s) s0

/-- Whether an engine still takes a sample at this boundary. Log: 51 (DEDUCED, unsafe). -/
def sampleDue (e : Nat) (s : State) : Bool :=
  let c := cap s e
  s.enabled 3 && c.arm.isSome && s.tm.due c.cfg.div 0 && !decide (c.lastB = s.tm.frame + 1)

/-- CAPTURE_SAMPLE (R302 to R306); a field DMA channel that is paused or stopped writes no row (R278). -/
def captureSample (e : Nat) (s : State) : State :=
  let c := cap s e
  let t := c.trig
  if !sampleDue e s then s
  else
    let row := c.cfg.taps.map (Taps.tap s)
    let l := c.cfg.pre + c.cfg.post
    let bs := rowBytes row
    let x := (Taps.tap s t.tap).v
    let s1 := if Adc.mayWrite s c.cfg.dma then
        { s with deck := writeRing c.cfg.base (2 ^ c.cfg.sizeLog2) (c.total * bs.length) bs s.deck }
      else s
    let c1 := { c with rows := (row :: c.rows).take l, total := c.total + 1, lastB := s.tm.frame + 1 }
    let c2 := match c1.hit with
      | some (tf, left) => if left ≤ 1 then recordDone tf c1 else { c1 with hit := some (tf, left - 1) }
      | none =>
        let ready := decide (c1.cfg.pre ≤ c1.taken)
        let c3 := if c1.taken = c1.cfg.pre then { c1 with readyFrame := some s.tm.frame } else c1
        if ready && met t c3 x then
          if c3.cfg.post ≤ 1 then recordDone s.tm.frame c3 else { c3 with hit := some (s.tm.frame, c3.cfg.post - 1) }
        else track t ready c3 x
    actEnds e (releaseStops e (Ops.count 3 19 c.cfg.taps.length (setCap s1 e c2)))

/-- A record committed by the recorder may be an engine's trigger (Table 8-7, kind 4). -/
def onEvent (code stamp : Nat) (s : State) : State :=
  { s with acq.cap := Tab.mapVals s.acq.cap fun _ c =>
      if c.trig.kind = 4 && c.arm.isSome && (c.readyFrame.any fun f => decide (f ≤ stamp)) &&
          decide (code &&& c.trig.mask = c.trig.code &&& c.trig.mask) then { c with evHit := true } else c }

/-- An exact quotient with a positive denominator. -/
abbrev Q := Int × Nat

/-- Order of quotients. -/
def qle (a b : Q) : Bool := decide (a.1 * b.2 ≤ b.1 * a.2)

/-- A crossing of level `lv` (in tenths) between samples i and i + 1: its time in units of Ts (R310). -/
def crossing (lv : Int) (i : Nat) (a b : Int) (up : Bool) : Option Q :=
  let hit := if up then decide (10 * a < lv) && decide (lv ≤ 10 * b) else decide (lv < 10 * a) && decide (10 * b ≤ lv)
  if hit then
    let den := (10 * (b - a)).natAbs
    let num := if a < b then lv - 10 * a else 10 * a - lv
    some ((i : Int) * den + num, den)
  else none

/-- All crossings of a level in order, with their sample index. -/
def crossings (lv : Int) (up : Bool) (xs : List Int) : List (Nat × Q) :=
  (List.zip xs (xs.drop 1)).zipIdx.filterMap fun p => (crossing lv p.2 p.1.1 p.1.2 up).map fun q => (p.2, q)

/-- The time between the first crossing of one level and the last crossing of another at or before it (R311). -/
def span (first before : List (Nat × Q)) : Option Q :=
  match first.head? with
  | none => none
  | some (_, t) =>
    match (before.filter fun b => qle b.2 t).getLast? with
    | none => none
    | some (_, u) => some (t.1 * u.2 - u.1 * t.2, t.2 * u.2)

/-- The crossings of L50 that count for the period (R311). -/
def counted (l10 : Int) (xs : List Int) : List (Nat × Q) → Option Nat → List Q
  | [], _ => []
  | (i, q) :: rest, none => q :: counted l10 xs rest (some i)
  | (i, q) :: rest, some j =>
    if ((xs.drop (j + 1)).take (i - j)).any fun x => decide (10 * x ≤ l10) then q :: counted l10 xs rest (some i)
    else counted l10 xs rest (some j)

/-- Limits to an unsigned field. -/
def satU (n : Nat) (z : Int) : Nat := (Bits.clamp 0 (2 ^ n - 1) z).toNat

/-- The measurement block of one tap's samples as a number of 72 bytes (R308 to R311, Table 8-10).
Log: 14 (DESIGN CHOICE, safe). -/
def measure (ts : Nat) (xs : List Int) : Nat :=
  let l := xs.length
  let mn := xs.foldl min (xs.headD 0)
  let mx := xs.foldl max (xs.headD 0)
  let mean := Bits.roundDiv xs.sum l
  let q := ((xs.map fun x => x * x).sum / l).toNat
  let r := Bits.isqrt q
  let rms := if r < q - r * r then r + 1 else r
  let mid := (mn + mx) / 2
  let lows := xs.filter fun x => decide (x ≤ mid)
  let highs := xs.filter fun x => decide (mid < x)
  let base := Bits.roundDiv lows.sum lows.length
  let top := if highs.isEmpty then base else Bits.roundDiv highs.sum highs.length
  let amp := top - base
  let l10 := 10 * base + amp
  let l50 := 10 * base + 5 * amp
  let l90 := 10 * base + 9 * amp
  let ok := decide (amp ≠ 0)
  let rise := if ok then span (crossings l90 true xs) (crossings l10 true xs) else none
  let fall := if ok then span (crossings l10 false xs) (crossings l90 false xs) else none
  let cs := if ok then counted l10 xs (crossings l50 true xs) none else []
  let period : Option Q :=
    match cs.head?, cs.getLast? with
    | some a, some b =>
      let num := (b.1 * a.2 - a.1 * b.2) * ts
      if 2 ≤ cs.length ∧ 0 < num then some (num, a.2 * b.2 * (cs.length - 1)) else none
    | _, _ => none
  let timeOf (x : Option Q) : Nat := match x with
    | some v => Bits.fitU 32 (Bits.roundDiv (v.1 * ts) v.2).toNat
    | none => 0
  let per := match period with
    | some v => satU 32 (Bits.roundDiv v.1 v.2)
    | none => 0
  let freq := match period with
    | some v => satU 32 (Bits.roundDiv (10 ^ 12 * v.2) v.1.toNat)
    | none => 0
  let beyond := if ok then Bits.unsigned 16 (Bits.sat 16 (Bits.roundDiv ((mx - top) * 10000 * (if amp < 0 then -1 else 1)) amp.natAbs))
    else 0
  let fl := Bits.b2n period.isNone + 2 * Bits.b2n rise.isNone + 4 * Bits.b2n fall.isNone + 8 * Bits.b2n (!ok)
  Bits.unsigned 64 mn + Bits.unsigned 64 mx * 2 ^ 64 + Bits.unsigned 64 mean * 2 ^ 128 + Bits.fitU 64 rms * 2 ^ 192 +
    Bits.unsigned 64 (Bits.fit 64 amp) * 2 ^ 256 + Bits.unsigned 64 base * 2 ^ 320 + per * 2 ^ 384 + freq * 2 ^ 416 +
    timeOf rise * 2 ^ 448 + timeOf fall * 2 ^ 480 + beyond * 2 ^ 512 + fl * 2 ^ 528

/-- The stream entries of a completed record: bodies of 28 bytes (R307, Table 8-9). -/
def recordEntries (e : Nat) (r : CapRecord) : List Nat :=
  let g := r.cfg
  let head := 0x3000 + e + g.taps.length * 2 ^ 16 + (Bits.b2n r.normal + 2 * Bits.b2n r.stopped) * 2 ^ 24 +
    Bits.fitU 32 r.num * 2 ^ 32 + r.trigFrame * 2 ^ 64 + g.pre * 2 ^ 128 + g.post * 2 ^ 160 + g.div * 2 ^ 192 +
    r.kind * 2 ^ 208 + g.meas * 2 ^ 216
  let row0 := r.rows.headD []
  let fmtByte (v : TapVal) : Nat := if v.fmt = 3 then 3 + Bits.unsigned 4 (v.e + 8) * 16 else v.fmt
  let taps := (List.range 8).map fun j => (g.taps.getD j 0xFFFF) * 2 ^ (32 + 16 * j)
  let fmts := (List.range 8).map fun j => match row0.drop j with
    | v :: _ => fmtByte v * 2 ^ (160 + 8 * j)
    | [] => 0
  let bs := r.rows.flatMap rowBytes
  let n := (bs.length + 23) / 24
  let data := (List.range n).map fun i =>
    0x5000 + e + i % 2 ^ 16 * 2 ^ 16 + Bits.leAt bs (24 * i) 24 * 2 ^ 32
  let meas := (List.range g.taps.length).flatMap fun j =>
    if g.meas.testBit j then
      let m := measure (g.div * 15625) (r.rows.map fun row => (row.getD j {}).v)
      (List.range 3).map fun p => 0x6000 + e + j * 2 ^ 16 + p * 2 ^ 24 + m / 2 ^ (192 * p) % 2 ^ 192 * 2 ^ 32
    else []
  [head, 0x4000 + e + taps.sum + fmts.sum] ++ data ++ meas

/-- Records are handed to the barrier at the boundary after their last sample (R307). -/
def deliver (s0 : State) : State :=
  s0.acq.cap.foldl (fun s q =>
    let c := cap s q.1
    match c.out with
    | none => s
    | some r =>
      let s1 := pushAll r.cfg.ring (recordEntries q.1 r) (setCap s q.1 { c with out := none })
      match r.arm with
      | some o => Ops.complete o .done 0 r.result s1
      | none => s1) s0

/-- The setting of a tap's reduction that a check judges. -/
def redOf (r : Reduction) : RedCfg := r.newCfg.getD r.cfg

/-- A clear of ACQ takes effect: reductions and armings end; no tap reduces until ACQ is set again. -/
def disable (s0 : State) : State :=
  let s1 := s0.acq.cap.foldl (fun s q =>
    if q.2.arm.isSome then endArm q.1 (if q.2.records = 0 ∧ q.2.hit.isNone then .aborted else .done) s else s) s0
  { s1 with acq.red := Tab.mapVals s1.acq.red fun _ r => { newCfg := some (redOf r) }, acq.done := [] }

/-- ACQ_TAP_ASSIGN (R290, R314). -/
def tapAssign (c : Cmd) (s : State) : Reply :=
  let t := Arg.u c 0 2
  let a : TapAssign := { src := Arg.u c 2 1, state := Arg.u c 3 1, loc := Arg.u c 4 4, recno := Arg.u c 8 2 }
  let stage := decide (a.src = 1) || decide (a.src = 2)
  let locOk := if stage then decide (locDie a.loc = 1) && decide (locRegion a.loc = 2) && decide (locNode a.loc = s.nodeId) &&
      decide (locUnit a.loc < 832) && decide (1 ≤ locItem a.loc) && decide (locItem a.loc ≤ 8)
    else decide (a.loc = 0)
  if decide (t < 3840) || decide (4095 < t) || decide (3 < a.src) || !locOk || decide (1023 < a.recno) ||
      (decide (a.src ≠ 3) && decide (a.recno ≠ 0)) then .refuse 0x39
  else .config 3 { s with acq.assign := Tab.set s.acq.assign t a }

/-- ACQ_REDUCE (R291, R296, R299, R314). -/
def reduce (c : Cmd) (s : State) : Reply :=
  let first := Arg.u c 0 2
  let n := Arg.u c 2 2
  let f := Arg.u c 5 1
  let g : RedCfg := { on := f.testBit 0, fwd := f.testBit 1, m := Arg.u c 4 1, xbits := Arg.u c 6 1, ring := Arg.u c 7 1 }
  if decide (4095 < first) || decide (n = 0) || decide (4096 < first + n) || decide (g.m < 3) || decide (16 < g.m) ||
      decide (8 < g.xbits) || decide (31 < g.ring) then .refuse 0x3A
  else if !s.hbd.isStream g.ring then .refuse 0x3C
  else if g.fwd && (List.range n).any fun i => Taps.isFloat (Taps.tap s (first + i)).fmt then .refuse 0x3B
  else
    let red := (List.range n).foldl (fun t i => Tab.modify t (first + i) fun r => { r with newCfg := some g }) s.acq.red
    .config 3 { s with acq.red := red }

/-- Bytes of a row of an engine's taps. -/
def rowSize (s : State) (g : CapCfg) : Nat := (g.taps.map fun t => Taps.width (Taps.tap s t).fmt).sum

/-- An engine's fault that its command is refused for: ring, float measurement, store too small (R308, R314). -/
def cfgBad (s : State) (g : CapCfg) : Option Nat :=
  if !s.hbd.isStream g.ring then some 0x3C
  else if (List.range g.taps.length).any fun j => g.meas.testBit j && Taps.isFloat (Taps.tap s (g.taps.getD j 0)).fmt then
    some 0x3B
  else if 2 ^ g.sizeLog2 < (g.pre + g.post) * rowSize s g then some 0x3E
  else none

/-- An engine's own fault as the consistency check finds it (R308, R314). -/
def checkCap (s : State) (g : CapCfg) : Option Nat :=
  let size := 2 ^ g.sizeLog2
  (cfgBad s g).or (if g.base % size ≠ 0 ∨ 2 ^ 25 < g.base + size then some 0x34 else none)

/-- CAPTURE_CFG (R302, R314). -/
def captureCfg (c : Cmd) (s : State) : Reply :=
  let e := c.unit - 32
  let x := cap s e
  let n := Arg.u c 16 1
  let g : CapCfg :=
    { given := true, taps := (List.range n).map fun j => Arg.u c (2 * j) 2, meas := Arg.u c 17 1, div := Arg.u c 18 2
      pre := Arg.u c 20 4, post := Arg.u c 24 4, dma := Arg.u c 28 1, sizeLog2 := Arg.u c 29 1, ring := Arg.u c 30 1
      base := Arg.u c 32 4 }
  if x.arm.isSome then .refuse 0x3D
  else if decide (n = 0) || decide (8 < n) || g.taps.any (fun t => decide (4095 < t)) || decide (2 ^ n ≤ g.meas) ||
      decide (g.div = 0) || decide (65535 < g.pre) || decide (g.post = 0) || decide (65536 < g.pre + g.post) ||
      decide (31 < g.dma) || decide (g.sizeLog2 < 8) || decide (24 < g.sizeLog2) || decide (31 < g.ring) then .refuse 0x3E
  else
    match cfgBad s g with
    | some r => .refuse r
    | none => .config 3 (setCap s e { x with cfg := g, total := 0 })

/-- CAPTURE_TRIGGER (R303, R314). -/
def captureTrigger (c : Cmd) (s : State) : Reply :=
  let e := c.unit - 32
  let x := cap s e
  let f := Arg.u c 1 1
  let t : CapTrig :=
    { kind := Arg.u c 0 1, pol := f.testBit 0, either := f.testBit 1, leave := f.testBit 2, tap := Arg.u c 2 2
      wmin := Arg.u c 4 2, wmax := Arg.u c 6 2, level := Arg.s c 8 8, hi := Arg.s c 16 8, hyst := Arg.s c 24 8
      code := Arg.u c 32 2, mask := Arg.u c 34 2 }
  if x.arm.isSome then .refuse 0x3D
  else if decide (4 < t.kind) || decide (4095 < t.tap) || decide (t.wmax < t.wmin) ||
      (decide (t.kind = 2) && decide (t.hi < t.level)) || decide (t.hyst < 0) then .refuse 0x3E
  else if Taps.isFloat (Taps.tap s t.tap).fmt then .refuse 0x3B
  else .config 3 (setCap s e { x with trig := t })

/-- CAPTURE_ARM (R303, R304). -/
def captureArm (c : Cmd) (s : State) : Reply :=
  let e := c.unit - 32
  let x := cap s e
  if !s.enabled 3 then .refuse 0x3F
  else if x.arm.isSome then .refuse 0x3D
  else if !x.cfg.given then .refuse 0x3E
  else
    .accepted (setCap s e { rearm x with arm := some (c.origin 0x0401), normal := decide (Arg.u c 0 1 = 1), records := 0
                                         lastTrig := 0, stopMark := false })

/-- CAPTURE_STOP (R305): a trigger sample of the same boundary comes first. Log: 51 (DEDUCED, unsafe). -/
def captureStop (c : Cmd) (s : State) : Reply :=
  let e := c.unit - 32
  let x := cap s e
  let o := c.origin 0x0402
  if !s.enabled 3 then .refuse 0x3F
  else if sampleDue e s then .quiet (setCap s e { x with ends := x.ends ++ [(false, o)] })
  else .quiet (actStop e o s)

/-- The stream load as a quotient (R312). -/
def load (s : State) : Q :=
  let taps := s.acq.red.filter fun q => (redOf q.2).on
  let tapLoad := (taps.map fun q =>
    let g := redOf q.2
    (if Taps.width (Taps.tap s q.1).fmt = 8 && !g.fwd then 64 else 32) * 64000 * 2 ^ (16 - g.m)).sum
  let pairs := taps.foldl (fun l q =>
    let k := ((redOf q.2).ring, (redOf q.2).m)
    if l.contains k then l else k :: l) []
  let heads := (pairs.map fun k => 32 * 64000 * 2 ^ (16 - k.2)).sum
  let caps := (s.acq.cap.filter fun q => q.2.cfg.given).map fun q =>
    let g := q.2.cfg
    let l := g.pre + g.post
    let n := (List.range g.taps.length).filter fun j => g.meas.testBit j
    (((64 + 32 * ((l * rowSize s g + 23) / 24) + 96 * n.length) * 64000 : Nat), l * g.div)
  caps.foldl (fun (a : Q) c => (a.1 * c.2 + (c.1 : Int) * a.2, a.2 * c.2))
    (((tapLoad + heads : Nat) : Int) + 16000000 * 2 ^ 16, 2 ^ 16)

/-- An assignable tap whose source is absent (Table 8-16). -/
def assignBad (s : State) (a : TapAssign) : Bool :=
  let x := s.slot (locUnit a.loc)
  let k := locItem a.loc - 1
  (decide (a.src = 1) || decide (a.src = 2)) &&
    (!x.cfg.inUse || decide (x.cfg.nstages ≤ k) ||
      (decide (a.src = 2) && decide (Taps.stateCount (x.stage k).kind ≤ a.state)))

/-- ACQ_FLAGS (Table 8-13). -/
def flags (s : State) : Nat := Bits.b2n s.acq.drop + 2 * Bits.b2n s.acq.late

/-- A W1C write to ACQ_FLAGS. -/
def flagsWrite (v : Nat) (s : State) : State :=
  { s with acq.drop := s.acq.drop && !v.testBit 0, acq.late := s.acq.late && !v.testBit 1 }

/-- ACQ_BW (Table 8-14): in 10^6 bytes per second, rounded up. -/
def loadMb (s : State) : Nat :=
  if s.enabled 3 then
    let q := load s
    ((q.1 + (1000000 * q.2 : Nat) - 1) / (1000000 * q.2 : Nat)).toNat
  else 0

/-- ACQ_COUNTS (Table 8-15). -/
def counts (s : State) : Nat :=
  (s.acq.red.filter fun q => q.2.cfg.on).length + (s.acq.cap.filter fun q => q.2.arm.isSome).length * 2 ^ 16

end AcqOps

end Sys2Proof.Machine
end

