-- ==== Sys2Proof/Machine/NetCfg.lean ====
section
/-!
DEFINITION. The network's system configuration: its tables, hash and consistency check, and the configuration commands (R414,
R420, R421, R425, R426, R445, R450 to R452, R455).
-/

namespace Sys2Proof.Machine.Net

/-- Frames of a cycle (R420). -/
def cyc (s : State) : Nat := 2 ^ s.net.sys.cycleN

/-- Frame number of the start of the present cycle. -/
def cycleStart (s : State) : Nat := s.tm.frame - s.tm.frame % cyc s

/-- A slot's or minislot's start after the cycle start, in ns. -/
def slotOfs (g : NetSys) (mini : Bool) (k : Nat) : Nat := if mini then g.ns * g.slotNs + k * g.miniNs else k * g.slotNs

/-- PATH_MAX in half nanoseconds (R421). -/
def path2 (g : NetSys) : Nat := (2 * g.depth - 1) * 805 + 4 * g.depth * g.cable

/-- Minislots a DYNAMIC frame of LENGTH occupies (R425). -/
def minislots (g : NetSys) (len : Nat) : Nat :=
  if g.miniNs = 0 then 0
  else (2 * (8 * (39 + len) + 2 * g.guard) + path2 g + 2 * g.miniNs - 1) / (2 * g.miniNs)

/-- Owner of a static slot or a minislot. -/
def owner (s : State) (mini : Bool) (k : Nat) : Option Nat :=
  let o := Tab.get (if mini then s.net.minis else s.net.slots) k
  if o = 0 then none else some (o - 1)

/-- Whether a node owns a slot that the configuration has. -/
def owns (s : State) (node : Nat) (mini : Bool) (k : Nat) : Bool :=
  decide (k < (if mini then s.net.sys.nm else s.net.sys.ns)) && decide (owner s mini k = some node)

/-- A node's first owned static slot. -/
def firstSlot (s : State) (node : Nat) : Option Nat := (List.range s.net.sys.ns).find? (owns s node false)

/-- A node of the topology. -/
def node (s : State) (n : Nat) : NetNode := Tab.get s.net.nodes n

/-- Whether a node is another or an ancestor of it (R429). -/
def isAncestor (s : State) (a n : Nat) : Nat → Bool
  | 0 => decide (a = n)
  | fuel + 1 => decide (a = n) || ((node s n).given && decide ((node s n).parent ≠ 0xFFFF) && isAncestor s a (node s n).parent fuel)

/-- Whether a node lies in another's subtree. -/
def inSubtree (s : State) (root n : Nat) : Bool := isAncestor s root n 8

/-- The child cabled to one of this node's external ports (R414). -/
def childAt (s : State) (port : Nat) : Option Nat :=
  (s.net.nodes.find? fun q => q.2.given && decide (q.2.parent = s.nodeId) && decide (q.2.port = port)).map (·.1)

/-- This node's parent. -/
def parent (s : State) : Option Nat :=
  let x := node s s.nodeId
  if x.given && decide (x.parent ≠ 0xFFFF) then some x.parent else none

/-- The publications of a static slot, in the order they are packed (R426). -/
def insertPub (p : NetPub) : List NetPub → List NetPub
  | [] => [p]
  | q :: t =>
    if decide (p.publisher < q.publisher) || (decide (p.publisher = q.publisher) &&
        (decide (p.kind < q.kind) || (decide (p.kind = q.kind) && decide (p.index < q.index)))) then p :: q :: t
    else q :: insertPub p t

/-- The bytes the hash covers (R452). -/
def hashed (s : State) : Bytes :=
  let g := s.net.sys
  let own (mini : Bool) (k : Nat) : Bytes := Bits.toLe 2 ((owner s mini k).getD 0xFFFF)
  Bits.toLe 48 g.raw ++ (s.net.nodes.filter fun q => q.2.given).flatMap (fun q => Bits.toLe 8 q.2.raw) ++
    (List.range g.ns).flatMap (own false) ++ (List.range g.nm).flatMap (own true) ++
    s.net.pubs.flatMap fun p => Bits.toLe 12 p.raw

/-- The system configuration hash. -/
def hashOf (s : State) : Nat := Bits.leAt (Crypto.sha512 (hashed s)) 0 8

/-! The consistency check (R421, R445, R451). -/

/-- Depth of a node: Piers from the root's to its own; a station has its parent's; 0 when its chain is broken. -/
def depthOf (s : State) (n : Nat) : Nat → Nat
  | 0 => 0
  | fuel + 1 =>
    let x := node s n
    if !x.given then 0
    else if x.parent = 0xFFFF then 1
    else
      let d := depthOf s x.parent fuel
      if d = 0 || (node s x.parent).station then 0 else if x.station then d else d + 1

/-- 0x58: whether the topology is the tree of R414. -/
def treeOk (s : State) : Bool :=
  let all := s.net.nodes.filter fun q => q.2.given
  let one (q : Nat × NetNode) : Bool :=
    let x := q.2
    let d := depthOf s q.1 6
    decide (1 ≤ d) && decide (d ≤ s.net.sys.depth) &&
      (if x.parent = 0xFFFF then decide (x.port = 0xFF) && !x.station else decide (x.port ≤ 7)) &&
      !(all.any fun r => decide (r.1 ≠ q.1) && decide (x.parent ≠ 0xFFFF) && decide (r.2.parent = x.parent) && decide (r.2.port = x.port))
  decide ((all.filter fun q => q.2.parent = 0xFFFF).length = 1) && decide (all.length = s.net.sys.nodes) && all.all one

/-- Bytes a section takes in its slot: header and body (Table 12-4). -/
def sectionBytes (p : NetPub) : Nat :=
  2 + match p.kind with
    | 1 => 14
    | 2 => 36
    | 3 => 2 + p.size
    | 4 => p.size
    | 5 => 8
    | _ => 12

/-- 0x57: whether a publication entry is valid. -/
def pubOk (s : State) (p : NetPub) : Bool :=
  let g := s.net.sys
  let x := node s p.publisher
  let total := (s.net.pubs.filter fun q => q.slot = p.slot).foldl (fun n q => n + sectionBytes q) 0
  owns s p.publisher false p.slot && decide (total ≤ g.staticLen) &&
    decide ((s.net.pubs.filter fun q => q.publisher = p.publisher ∧ q.kind = p.kind ∧ q.index = p.index).length = 1) &&
    (decide (p.kind ≠ 6) || decide (p.publisher = g.casc) || decide (p.publisher = g.backup)) &&
    (decide (p.kind ≠ 4) || x.station) && (decide (p.kind ≠ 3) || !x.station)

/-- Whether a role node is in the topology and no station. -/
def roleOk (s : State) (n : Nat) : Bool := (node s n).given && !(node s n).station

/-- Bytes per second of dynamic reception (R448), as a quotient. -/
def rxLoad (s : State) : Nat × Nat := if s.net.rxRing = 0xFF then (0, 1) else (1408 * s.net.sys.nm * 64000, cyc s)

/-- The NETWORK check, stream load and PPS apart: reason and Locator. Log: 63 (DEDUCED, unsafe). -/
def check (s : State) : Option (Nat × Nat) :=
  let g := s.net.sys
  let l := pairLoc s.nodeId 5 0 0
  let caps := s.net.nodes.filter fun q => q.2.given && q.2.coldstart && !q.2.station
  let me := node s s.nodeId
  let end2 (p : NetPub) : Nat := 2 * ((p.slot + 1) * g.slotNs) + path2 g
  if !g.given then some (0x5B, l)
  else if !treeOk s then some (0x58, l)
  else if decide (2 ≤ g.nodes) && decide (caps.length < 2) then some (0x56, l)
  else if !me.given || me.station || (firstSlot s s.nodeId).isNone then some (0x5C, l)
  else if !roleOk s g.timeMaster || !roleOk s g.casc || (decide (g.backup ≠ 0xFFFF) && !roleOk s g.backup) then some (0x5B, l)
  else if s.net.pubs.any fun p => !pubOk s p then some (0x57, l)
  else if decide (s.net.rxRing ≠ 0xFF) && !s.hbd.isStream s.net.rxRing then some (0x5F, l)
  else if decide (2 * g.slotNs < 2 * (8 * (39 + g.staticLen)) + 4 * g.guard + path2 g) ||
      (decide (0 < g.nm) && decide (2 * g.miniNs < 544 + 4 * g.guard + path2 g)) then some (0x54, l)
  else if cyc s * 15625 < g.ns * g.slotNs + g.nm * g.miniNs + 4000 then some (0x55, l)
  else if s.net.pubs.any fun p => decide (p.kind = 6) && (decide (p.slot * g.slotNs < 15625) ||
      decide (2 * cyc s * 15625 < end2 p + 31250)) then some (0x59, l)
  else none

/-! Configuration commands. -/

/-- An accepted change while NETWORK is enabled places the hash of what results (R452). -/
def rehash (s : State) : State := if s.enabled 6 then { s with net.hash := hashOf s } else s

/-- Reserved bytes of NET_SYSTEM. -/
def systemFormat (c : Cmd) : Bool := Arg.zero c 1 1 && Arg.zero c 19 1 && Arg.zero c 29 1 && Arg.zeroFrom c 32

/-- NET_SYSTEM (Table 12-9). -/
def netSystem (c : Cmd) (s : State) : Reply :=
  let g : NetSys :=
    { given := true, cycleN := Arg.u c 0 1, staticLen := Arg.u c 2 2, ns := Arg.u c 4 2, nm := Arg.u c 6 2, slotNs := Arg.u c 8 4
      miniNs := Arg.u c 12 4, guard := Arg.u c 16 2, depth := Arg.u c 18 1, cable := Arg.u c 20 2, timeMaster := Arg.u c 22 2
      casc := Arg.u c 24 2, backup := Arg.u c 26 2, stnLoss := Arg.u c 28 1, nodes := Arg.u c 30 2, raw := Arg.u c 0 48 }
  let ok := decide (1 ≤ g.cycleN) && decide (g.cycleN ≤ 8) && decide (g.staticLen % 8 = 0) && decide (8 ≤ g.staticLen) &&
    decide (g.staticLen ≤ 256) && decide (8 ≤ g.ns) && decide (g.ns ≤ 1024) && decide (g.nm ≤ 4096) &&
    (decide (g.nm ≠ 0) || decide (g.miniNs = 0)) && decide (20 ≤ g.guard) && decide (g.guard ≤ 1000) && decide (1 ≤ g.depth) &&
    decide (g.depth ≤ 4) && decide (g.cable ≤ 1000) && decide (g.timeMaster ≤ 511) && decide (g.casc ≤ 511) &&
    (decide (g.backup ≤ 511) || decide (g.backup = 0xFFFF)) && decide (1 ≤ g.stnLoss) && decide (g.stnLoss ≤ 8) &&
    decide (1 ≤ g.nodes) && decide (g.nodes ≤ 512)
  if ok then .config 6 (rehash { s with net.sys := g }) else .refuse 0x5B

/-- Reserved bytes of NET_NODES: those of the entries given, and every byte beyond them. -/
def nodesFormat (c : Cmd) : Bool :=
  let n := Arg.u c 0 1
  Arg.zero c 1 7 && (List.range 5).all fun j =>
    if j < n then decide (Arg.u c (13 + 8 * j) 1 < 4) && Arg.zero c (14 + 8 * j) 2 else Arg.zero c (8 + 8 * j) 8

/-- NET_NODES. -/
def netNodes (c : Cmd) (s : State) : Reply :=
  let n := Arg.u c 0 1
  let one (j : Nat) : Nat × NetNode :=
    let f := Arg.u c (13 + 8 * j) 1
    (Arg.u c (8 + 8 * j) 2, { given := true, parent := Arg.u c (10 + 8 * j) 2, port := Arg.u c (12 + 8 * j) 1
                              coldstart := f.testBit 0, station := f.testBit 1, raw := Arg.u c (8 + 8 * j) 8 })
  let es := (List.range n).map one
  let ok (q : Nat × NetNode) : Bool :=
    decide (q.1 ≤ 511) && (decide (q.2.parent ≤ 511) || decide (q.2.parent = 0xFFFF)) &&
      (decide (q.2.port ≤ 7) || decide (q.2.port = 0xFF))
  if 1 ≤ n ∧ n ≤ 5 ∧ es.all ok then
    .config 6 (rehash { s with net.nodes := es.foldl (fun t q => Tab.set t q.1 q.2) s.net.nodes })
  else .refuse 0x5B

/-- Bytes beyond the entries of NET_SLOTS. -/
def slotsFormat (c : Cmd) : Bool := let n := Arg.u c 2 2; decide (20 < n) || Arg.zeroFrom c (4 + 2 * n)

/-- NET_SLOTS. -/
def netSlots (c : Cmd) (s : State) : Reply :=
  let w := Arg.u c 0 2
  let mini := w.testBit 15
  let first := w % 32768
  let n := Arg.u c 2 2
  let os := (List.range n).map fun j => Arg.u c (4 + 2 * j) 2
  if 1 ≤ n ∧ n ≤ 20 ∧ first + n ≤ (if mini then 4096 else 1024) ∧ (os.all fun o => decide (o ≤ 511) || decide (o = 0xFFFF)) then
    let put (t : Tab Nat) : Tab Nat :=
      (os.zipIdx).foldl (fun t q => Tab.set t (first + q.2) (if q.1 = 0xFFFF then 0 else q.1 + 1)) t
    .config 6 (rehash (if mini then { s with net.minis := put s.net.minis } else { s with net.slots := put s.net.slots }))
  else .refuse 0x5B

/-- Bytes beyond the entries of NET_PUBS. -/
def pubsFormat (c : Cmd) : Bool :=
  let n := Arg.u c 0 1
  Arg.zero c 1 3 && decide (3 < n) || (Arg.zero c 1 3 && Arg.zeroFrom c (4 + 12 * n))

/-- Remote axes follow the publication table. -/
def published (s : State) : State :=
  let axes := s.net.pubs.filter fun p => p.kind = 2 ∧ p.publisher ≠ s.nodeId
  let m0 := Tab.mapVals s.mot.remote fun _ r => { r with published := false }
  { s with
    mot.remote := axes.foldl (fun t p => Tab.modify t (p.publisher * 64 + locUnit p.loc) fun r => { r with published := true }) m0 }

/-- NET_PUBS: SLOT 0xFFFF deletes an entry. -/
def netPubs (c : Cmd) (s : State) : Reply :=
  let n := Arg.u c 0 1
  let one (j : Nat) : NetPub :=
    let o := 4 + 12 * j
    { publisher := Arg.u c o 2, kind := Arg.u c (o + 2) 1, index := Arg.u c (o + 3) 1, slot := Arg.u c (o + 4) 2
      size := Arg.u c (o + 6) 2, loc := Arg.u c (o + 8) 4, raw := Arg.u c o 12 }
  let es := (List.range n).map one
  let locOk (p : NetPub) : Bool :=
    let l := p.loc
    if p.kind = 1 ∨ p.kind = 2 then
      locDefined l && decide (locDie l = 1) && decide (locRegion l = if p.kind = 1 then 2 else 1) && decide (locItem l = 0) &&
        decide (locNode l = p.publisher)
    else decide (l = 0)
  let ok (p : NetPub) : Bool :=
    decide (p.publisher ≤ 511) && decide (1 ≤ p.kind) && decide (p.kind ≤ 6) && (decide (p.slot ≤ 1023) || decide (p.slot = 0xFFFF)) &&
      (if p.kind = 3 ∨ p.kind = 4 then decide (1 ≤ p.size) && decide (p.size ≤ 200) else decide (p.size = 0)) && locOk p
  if 1 ≤ n ∧ n ≤ 3 ∧ es.all ok then
    let pubs := es.foldl (fun (l : List NetPub) p =>
      let rest := l.filter fun q => !(decide (q.publisher = p.publisher) && decide (q.kind = p.kind) && decide (q.index = p.index))
      if p.slot = 0xFFFF then rest else insertPub p rest) s.net.pubs
    .config 6 (rehash (published { s with net.pubs := pubs }))
  else .refuse 0x5B

/-- NET_LOCAL. -/
def netLocal (c : Cmd) (s : State) : Reply :=
  let r := Arg.u c 0 1
  if r ≤ 31 ∨ r = 0xFF then .config 6 { s with net.rxRing := r } else .refuse 0x5B

end Sys2Proof.Machine.Net
end

