-- ==== Sys2Proof/Machine/Net.lean ====
section
/-!
DEFINITION. The node on the network: the frames it sends and accepts, payload sections, start-up and integration, time
reference and roles, group coordination, stations and host frames (R415 to R426, R433, R437 to R448, R453, R454, R376, R377,
R329 to R335).
-/

namespace Sys2Proof.Machine.Net

/-- STEP_FREE_NS in 1/256 ns (R91). -/
def stepFree (s : State) : Int := Bits.field s.tm.timeCfg.toNat 15 0 * 256

/-- Whether this node is the time reference (R442). -/
def isRef (s : State) : Bool := decide (s.net.ref = s.nodeId + 1)

/-- Whether this node is the acting cascade master (R444). -/
def isActing (s : State) : Bool := decide (s.net.acting = s.nodeId + 1)

/-! Frames the node sends. -/

/-- STATUS of a frame this node sends (Table 12-2). -/
def statusByte (s : State) (ref : Bool) : Nat :=
  Bits.b2n (decide (s.net.state = 4)) + 2 * Bits.b2n ref + 4 * Bits.b2n (isActing s) +
    8 * Bits.b2n (node s s.nodeId).coldstart + 16 * s.md.mode.code

/-- The bytes of a frame: header, payload and CRC (Tables 12-1 and 12-2, R416); CORR leaves the controller as 0. -/
def frame (s : State) (typ slot txOfs id : Nat) (ref chB : Bool) (payload : Bytes) : Bytes :=
  let head := Bits.toLe 1 (typ + 64 * Bits.b2n chB) ++ Bits.toLe 1 (statusByte s ref) ++ Bits.toLe 2 id ++ Bits.toLe 2 s.nodeId ++
    Bits.toLe 2 slot ++ Bits.toLe 2 payload.length ++ Bits.toLe 2 txOfs ++ Bits.toLe 8 (cycleStart s) ++ Bits.toLe 8 s.net.hash
  head ++ Bits.toLe 2 0 ++ Bits.toLe 2 0xFFFF ++ payload ++ Bits.toLe 4 (Crypto.crc32c (head ++ payload))

/-- First lattice point at or after `ofs` (1/256 ns) from the boundary, as device time after the boundary (R422). -/
def departure (t : Time) (ofs : Nat) : Nat :=
  let need : Int := (((ofs + 639) / 640 * 2 ^ 40 : Nat) : Int) - (t.rem : Int)
  let adv : Int := 2 ^ 40 + t.rate
  Time.lattice t ((need + adv - 1) / adv).toNat * 640

/-- The frame, counted from the cycle start, in which a slot starts, and its start within it in 1/256 ns. -/
def slotAt (g : NetSys) (mini : Bool) (k : Nat) : Nat × Nat := (slotOfs g mini k / 15625, slotOfs g mini k % 15625 * 256)

/-- Whether a slot starts in the frame that begins at boundary `f`. -/
def startsIn (s : State) (f : Nat) (mini : Bool) (k : Nat) : Bool := decide ((slotAt s.net.sys mini k).1 = f % cyc s)

/-- One section of this node's own (Table 12-4): KIND, LEN, body; none while it lacks data (R423). -/
def section_ (s : State) (p : NetPub) : Option Bytes :=
  let wrap (body : Bytes) : Option Bytes := some (Bits.toLe 1 p.kind ++ Bits.toLe 1 body.length ++ body)
  match p.kind with
  | 1 =>
    let z := Tab.get s.loop.pubs p.index
    if z = default then none
    else wrap (Bits.toLe 1 p.index ++ Bits.toLe 1 (Bits.unsigned 8 z.e) ++ Bits.toLe 3 (Bits.unsigned 24 z.m) ++ Bits.toLe 1 0 ++
      Bits.toLe 8 z.frame)
  | 2 =>
    let a := locUnit p.loc
    let x := s.axis a
    if !s.enabled 0 then none
    else
      wrap (Bits.toLe 1 a ++ Bits.toLe 3 0 ++ Bits.toLe 8 (Bits.unsigned 64 x.p) ++ Bits.toLe 8 (Bits.unsigned 64 x.shownA) ++
        Bits.toLe 8 (Bits.unsigned 64 x.v) ++ Bits.toLe 8 (Time.lastOf s.tm s.tickFrames 0))
  | 3 =>
    let x := s.station p.index
    wrap (Bits.toLe 1 p.index ++ Bits.toLe 1 (Bits.b2n x.feeding) ++ Bits.toLe p.size (if x.feeding then x.out else 0))
  | 5 =>
    let x := Seq.groupStatus s p.index
    if x.got then wrap (Bits.toLe 1 p.index ++ Bits.toLe 1 x.state ++ Bits.toLe 2 x.step ++ Bits.toLe 4 x.k) else none
  | 6 =>
    let d := (Tab.get s.net.coord p.index).now
    wrap (Bits.toLe 1 p.index ++ Bits.toLe 1 d.dec ++ Bits.toLe 2 d.step ++ Bits.toLe 8 d.k)
  | _ => none

/-- The payload of an owned slot from the values in effect: none for NULL (R423). -/
def payload (s : State) (slot : Nat) : Option Bytes :=
  let secs := (s.net.pubs.filter fun p => p.slot = slot ∧ p.publisher = s.nodeId).filterMap (section_ s)
  if secs.isEmpty then none
  else
    let bs := secs.flatten
    some (bs ++ List.replicate (s.net.sys.staticLen - bs.length) 0)

/-- At the start of a frame boundary: the payloads of the slots that start in the frame it begins, from the values in effect
at the boundary before; a payload that missed its deadline is not formed (R423, R81). -/
def form (s : State) : State :=
  if s.net.state ≠ 4 then { s with net.formed := [], net.missed := [] }
  else
    let slots := (List.range s.net.sys.ns).filter fun k => owns s s.nodeId false k && startsIn s (s.tm.frame + 1) false k
    { s with
      net.formed := slots.foldl (fun t k => Tab.set t k (if s.net.missed.contains k then none else payload s k)) []
      net.missed := [] }

/-- A payload's forming misses the deadline of the frame in progress. -/
def miss (k : Nat) (s : State) : State := { s with net.missed := s.net.missed ++ [k] }

/-- Sends a frame on both channels. -/
def send (typ slot ofs : Nat) (ref : Bool) (bs : Bytes) (s : State) : State :=
  let id := s.net.nextId
  { s with net.txA := frame s typ slot ofs id ref false bs, net.txB := frame s typ slot ofs id ref true bs
           net.nextId := (id + 1) % 2 ^ 16, net.sent := s.net.sent ++ [slot] }

/-- STATIC_SLOT_SEND (R422, R423, R439, R440, Table 12-5). -/
def staticSlotSend (slot : Nat) (s : State) : State :=
  if !owns s s.nodeId false slot || !startsIn s s.tm.frame false slot || s.net.sent.contains slot then s
  else
    let at_ := (slotAt s.net.sys false slot).2
    let ofs := departure s.tm at_ - at_
    let first := decide (firstSlot s s.nodeId = some slot)
    match s.net.state with
    | 2 => if first then Ops.count 5 16 1 (send 3 slot ofs true [] s) else s
    | 3 => Ops.count 5 19 1 (Ops.count 5 16 1 (send (1 + 32) slot ofs false [] s))
    | 4 =>
      if first && s.net.offering then Ops.count 5 16 1 (send 3 slot ofs true [] s)
      else
        match Tab.get s.net.formed slot with
        | some bs => Ops.count 5 16 1 (send 0 slot ofs (isRef s) bs s)
        | none =>
          Ops.count 5 19 1 (Ops.count 5 16 1 (send 1 slot ofs (isRef s) []
            { s with net.flags := Bits.setBit s.net.flags 6 true }))
    | _ => s

/-- Whether a minislot is occupied by one of a list of runs. -/
def occupied (l : List (Nat × Nat)) (m : Nat) : Bool := l.any fun o => decide (o.1 ≤ m) && decide (m < o.1 + o.2)

/-- Occupied minislots of a channel as every node and Pier reckons them (R425): from the frames received and from the headers
that its own Pier forwards. -/
def busyMinis (s : State) (chB : Bool) : List (Nat × Nat) :=
  if chB then s.net.occB ++ s.net.pierB.occ else s.net.occA ++ s.net.pierA.occ

/-- Whether a request waits for a channel. -/
def NetSendReq.waitsOn (r : NetSendReq) (chB : Bool) : Bool := if chB then r.waitB else r.waitA

/-- A request of NET_SEND completes once the last named channel has sent it (R447). -/
def sendDone (r : NetSendReq) (mini : Nat) (s : State) : State :=
  if r.waitA || r.waitB then s
  else Ops.complete r.org .done 0 ((r.id.getD 0) + mini * 2 ^ 16 + cycleStart s * 2 ^ 64) s

/-- DYNAMIC_FRAME_SEND (R419, R425, R447): the frame at the head of the channel's queue. -/
def dynamicFrameSend (m : Nat) (chB : Bool) (s : State) : State :=
  let key := 2 * m + Bits.b2n chB
  if decide (s.net.state ≠ 4) || !owns s s.nodeId true m || !startsIn s s.tm.frame true m || s.net.dynSent.contains key ||
      occupied (busyMinis s chB) m then s
  else
    match s.net.sends.find? fun r => NetSendReq.waitsOn r chB with
    | none => s
    | some r =>
      let q := minislots s.net.sys r.payload.length
      if s.net.sys.nm < m + q then s
      else
        let at_ := (slotAt s.net.sys true m).2
        let dep := departure s.tm at_
        let id := r.id.getD s.net.nextId
        let typ := 2 + 16 * Bits.b2n r.ts
        let bs := frame s typ m (dep - at_) id (isRef s) chB r.payload
        let r1 := { r with id := some id, waitA := r.waitA && chB, waitB := r.waitB && !chB }
        let sends := if r1.waitA || r1.waitB then s.net.sends.map fun x => if x = r then r1 else x else s.net.sends.erase r
        let n := { s.net with
          sends := sends, nextId := if r.id.isNone then (id + 1) % 2 ^ 16 else s.net.nextId, dynSent := s.net.dynSent ++ [key]
          txA := if chB then s.net.txA else bs, txB := if chB then bs else s.net.txB
          occA := if chB then s.net.occA else s.net.occA ++ [(m, q)], occB := if chB then s.net.occB ++ [(m, q)] else s.net.occB }
        let s1 := Ops.count 5 16 1 { s with net := n }
        sendDone r1 m (if r.ts then Ops.txStamp chB (Time.boundary s.tm + dep) id s1 else s1)

/-! Start-up, integration, roles. -/

/-- Sets both Piers' mode. -/
def setPiers (mode : Nat) (s : State) : State :=
  { s with net.pierA := { s.net.pierA with mode := mode, lock := none }, net.pierB := { s.net.pierB with mode := mode, lock := none } }

/-- The node leaves the schedule (R91, R433): its integrator is its rate word, and it integrates again. -/
def leave (s : State) : State :=
  if s.net.state = 3 ∨ s.net.state = 4 then
    setPiers 1 (Ops.raiseMid Event.timeOutOfSync (mkSrc 1 5 3) 0 0
      { s with net.state := 5, net.integ := 0, net.offering := false, net.schedDue := false, tm.nextRate := some s.tm.integ })
  else s

/-- NETWORK takes effect (R437, R452): the node listens. Log: 62 (DEDUCED, unsafe). -/
def enable (s : State) : State :=
  setPiers 1 { s with
    net.state := 1, net.quiet := 0, net.integ := 0, net.hash := hashOf s, net.reason := 0, net.offering := false, net.ref := 0
    net.acting := 0, net.map := 0, net.seen := 0, net.portsShown := []
    prog.stations := (s.net.pubs.filter fun p => p.kind = 4).foldl (fun t p =>
      Tab.modify t p.index fun x => { x with quality := 3, present := false, good := 0, missed := 0, feeding := false, resumeWait := false })
      s.prog.stations }

/-- NETWORK is cleared: quarantine at this boundary (R437); frames that wait are not sent. Log: 64 (DEDUCED, unsafe). -/
def disable (s : State) : State :=
  let s1 := s.net.sends.foldl (fun s r => Ops.complete r.org .aborted 0 0 s) s
  setPiers 0 { s1 with net.state := 0, net.sends := [], net.integ := 0, net.offering := false, net.ref := 0, net.acting := 0
                       net.map := 0, net.rx := [], net.schedDue := false, net.reason := 0 }

/-- COLDSTART_OFFER (R439): the quiet period of a coldstart-capable node has passed. -/
def coldstartOffer (s : State) : State :=
  if decide (s.net.state = 1) && (node s s.nodeId).coldstart && decide ((4 + 2 * s.nodeId) * cyc s ≤ s.net.quiet) then
    { s with net.state := 2, net.own := false, net.other := false, net.ownRun := 0, net.lonely := 0, net.quiet := 0 }
  else s

/-- NET_COLDSTART_FAIL (R439): eight cycles without any COLDSTART heard back. -/
def coldstartFail (s : State) : State :=
  if s.net.state = 2 ∧ 8 ≤ s.net.lonely then
    Ops.raise Event.netColdstartFail (mkSrc 1 5 0) 0 0 { s with net.state := 1, net.quiet := 0, net.lonely := 0 }
  else s

/-- Whether a node that steps would repeat frame numbers with outputs live (R90). -/
def mustSlew (s : State) (th : Int) : Bool :=
  decide (th < -((frame256 : Nat) : Int)) && (decide (s.md.mode = .run) || decide (s.md.mode = .hold) || decide (s.md.mode = .degraded))

/-- A frame gives θ to a node that listens (R440 item 1 and 2, R90): its step is due at the next local boundary.
Log: 63 (DEDUCED, unsafe). -/
def integrate (th : Int) (s : State) : State :=
  if s.net.integ ≠ 0 then s
  else if mustSlew s th then { s with tm.nextRate := some (-219902325) }
  else { s with net.integ := 1, tm.stepDue := some th }

/-- The step of an integration has been applied (R440 item 3). Log: 63 (DEDUCED, unsafe). -/
def stepped (s : State) : State := if s.net.integ = 1 then { s with net.integ := 2 } else s

/-! Frames the node receives. -/

/-- θ from a frame (R443). -/
def thetaOf (s : State) (mini : Bool) (slot cycle txOfs corr trx : Nat) : Int :=
  ((cycle * frame256 + slotOfs s.net.sys mini slot * 256 + txOfs + 64 * corr : Nat) : Int) - trx

/-- A frame is discarded and counted (R417). -/
def discard (s : State) : State := Ops.count 5 18 1 s

/-- BENAND_FRAME_RX (R417, R424, R439 to R441, R443). -/
def frameRx (chB : Bool) (rx : RxFrame) (s : State) : State :=
  let h := rx.header
  let g := s.net.sys
  let tb := Bits.leAt h 0 1
  let typ := tb % 16
  let status := Bits.leAt h 1 1
  let source := Bits.leAt h 4 2
  let slot := Bits.leAt h 6 2
  let len := Bits.leAt h 8 2
  let cycle := Bits.leAt h 12 8
  let dyn := decide (typ = 2)
  let lenOk := match typ with
    | 0 => decide (len = g.staticLen)
    | 1 => decide (len = 0)
    | 2 => decide (1 ≤ len) && decide (len ≤ 1024)
    | 3 => decide (len = 0)
    | _ => false
  let timing := decide (typ = 3) || status.testBit 0
  if s.net.state = 0 then s
  else if h.length ≠ 32 ∨ rx.payload.length ≠ len ∨ !rx.crcOk then
    discard (if rx.crcOk then s else { s with net.flags := Bits.setBit s.net.flags 7 true })
  else
    let sched := decide (s.net.state = 3) || decide (s.net.state = 4)
    let own := owns s source dyn slot && decide (cycle = cycleStart s)
    let rest := lenOk && (!sched || own)
    if Bits.leAt h 20 8 ≠ s.net.hash then
      let s1 := if timing then { s with net.reason := 0x5A } else s
      discard (if rest then
        Ops.raiseLimitedWithMid Event.netHashMismatch (mkSrc 1 5 (Bits.b2n chB)) source 0 { s1 with net.flags := Bits.setBit s1.net.flags 3 true }
      else s1)
    else if !rest then discard s
    else
      let mine := decide (source = s.nodeId)
      let t := Time.edge s.tm rx.t
      let th := thetaOf s dyn slot cycle (Bits.leAt h 10 2) (Bits.leAt h 28 2) t
      let bit (w : Nat) (b : Bool) : Nat := if b then Bits.setBit w source true else w
      let n0 := { s.net with
        quiet := if timing then 0 else s.net.quiet
        reason := if timing then 0 else s.net.reason
        own := s.net.own || (decide (typ = 3) && mine)
        other := s.net.other || (decide (typ = 3) && !mine)
        seen := bit s.net.seen (status.testBit 0 && !mine)
        good := bit s.net.good (decide (typ = 0) && !tb.testBit 5)
        gotStatic := bit s.net.gotStatic (decide (typ = 0))
        gotNull := bit s.net.gotNull (decide (typ = 1))
        occA := if dyn && !chB then s.net.occA ++ [(slot, minislots g len)] else s.net.occA
        occB := if dyn && chB then s.net.occB ++ [(slot, minislots g len)] else s.net.occB }
      let s1 := Ops.count 5 17 1 { s with net := n0 }
      -- another node's COLDSTART ends this node's offer
      let s2 := if s1.net.state = 2 ∧ typ = 3 ∧ ¬mine then { s1 with net.state := 1 } else s1
      let s3 := if (decide (s2.net.state = 1) || decide (s2.net.state = 5)) && timing && !mine && !dyn && decide (s2.net.integ = 0) then
          integrate th s2
        else s2
      let fromRef := decide (s3.net.ref = source + 1) && decide (firstSlot s3 source = some slot) && !dyn
      let measures := !mine && !dyn && (if decide (s3.net.state = 3) || decide (s3.net.integ = 3) then timing else fromRef)
      let s4 := if measures then
          if chB then { s3 with net.thB := some th } else { s3 with net.thA := some th }
        else s3
      if mine || decide (typ = 3) then s4
      else
        { s4 with net.rx := s4.net.rx ++ [{ chB := chB, kind := typ, source := source
                                            slot := slot, id := Bits.leAt h 2 2, cycle := cycle, payload := rx.payload, time := t }] }

/-- The publication entry of a section received. Log: 61 (DEDUCED, unsafe). -/
def pubOf (s : State) (source kind index : Nat) : Option NetPub :=
  s.net.pubs.find? fun p => decide (p.publisher = source) && decide (p.kind = kind) && decide (p.index = index)

/-- One section received from a node (Table 12-4, R426). Log: 61 (DEDUCED, unsafe). -/
def takeSection (source kind : Nat) (b : Bytes) (s : State) : State :=
  let u (o n : Nat) : Nat := Bits.leAt b o n
  match kind with
  | 1 =>
    match pubOf s source 1 (u 0 1) with
    | some p =>
      Loop.remoteSample (source * 1024 + locUnit p.loc)
        { m := Bits.signed 24 (u 2 3), e := Bits.signed 8 (u 1 1), frame := u 6 8 } s
    | none => s
  | 2 =>
    { s with mot.remote := Tab.modify s.mot.remote (source * 64 + u 0 1 % 64) fun r =>
        { r with pos := Bits.signed 64 (u 4 8), act := Bits.signed 64 (u 12 8), vel := Bits.signed 64 (u 20 8)
                 ts := u 28 8 * frame256, got := true } }
  | 4 =>
    match s.net.pubs.find? fun p => decide (p.publisher = source) && decide (p.kind = 4) with
    | some p =>
      let x := s.station p.index
      let v := Bits.ofLe b
      let frozen := decide (x.quality = 2) || decide (x.quality = 3)
      s.setStation p.index { x with live := v, inp := if frozen then x.inp else v }
    | none => s
  | 5 =>
    { s with net.status := Tab.set s.net.status (u 0 1 * 512 + source) { got := true, state := u 1 1, step := u 2 2, k := u 4 4 } }
  | 6 =>
    let d : GroupDec := { dec := u 1 1, step := u 2 2, k := u 4 8 }
    if source = s.net.sys.casc then { s with net.decM := Tab.set s.net.decM (u 0 1) d }
    else if source = s.net.sys.backup then { s with net.decB := Tab.set s.net.decB (u 0 1) d }
    else s
  | _ => s

/-- The list of sections of a payload. -/
def takeSections (fuel source : Nat) (bs : Bytes) (s : State) : State :=
  match fuel with
  | 0 => s
  | fuel + 1 =>
    match bs with
    | k :: l :: rest =>
      if k = 0 ∨ rest.length < l.toNat then s
      else takeSections fuel source (rest.drop l.toNat) (takeSection source k.toNat (rest.take l.toNat) s)
    | _ => s

/-- Entries of a dynamic frame in the stream ring (R448, Table 12-6): bodies of 28 bytes. -/
def dynEntries (x : NetRx) : List Nat :=
  let len := x.payload.length
  let head := (0x7000 + x.slot) % 65536 + Bits.b2n x.chB * 2 ^ 16 + x.source * 2 ^ 32 + len * 2 ^ 48 + x.id * 2 ^ 64 +
    Time.form12 x.time * 2 ^ 96 + x.cycle % 2 ^ 32 * 2 ^ 192
  head :: (List.range ((len + 23) / 24)).map fun i => (0x8000 + i) % 65536 + Bits.leAt x.payload (24 * i) 24 * 2 ^ 32

/-- A frame takes effect at the boundary after its reception (R418, R424): cross-node data only in IN_SYNC (R440). -/
def takeFrame (s : State) (x : NetRx) : State :=
  if s.net.state ≠ 4 then s
  else
    match x.kind with
    | 2 => if s.net.rxRing = 0xFF then s else (dynEntries x).foldl (fun s b => Ops.streamPush s.net.rxRing b s) s
    | _ =>
      let t := Tab.get s.net.taken x.slot
      let t1 : NetTaken := if x.chB then { t with b := some x.payload } else { t with a := some x.payload }
      let s1 := { s with net.taken := Tab.set s.net.taken x.slot t1 }
      let s2 := match t1.a, t1.b with
        | some a, some b =>
          if a ≠ b then
            Ops.raise Event.netChannelDiff (mkSrc 1 5 0) x.slot 0 { s1 with net.flags := Bits.setBit s1.net.flags 4 true }
          else s1
        | _, _ => s1
      if x.kind = 0 ∧ (¬x.chB ∨ t.a = none) then takeSections 64 x.source x.payload s2 else s2

/-- At a frame boundary: the frames received in the ended frame are delivered, the quiet period goes on (R424, R439). -/
def deliver (s : State) : State :=
  -- a static frame of channel B is looked at after all of channel A (R418)
  let late (x : NetRx) : Bool := x.chB && decide (x.kind ≠ 2)
  let s1 := ((s.net.rx.filter fun x => !late x) ++ s.net.rx.filter late).foldl takeFrame { s with net.rx := [] }
  if s1.net.state = 1 then { s1 with net.quiet := s1.net.quiet + 1 } else s1

/-! What NET_PORT_STATUS shows (R453, Table 12-10). -/

/-- Whether a port carries traffic: admitted, or the internal one (R435). -/
def isUp (p : NetPier) (n : Nat) : Bool := decide (n = 8) || (Tab.get p.ports n).admitted

/-- STATE of NET_PORT_STATUS. -/
def portState (p : NetPier) (n : Nat) : Nat :=
  if p.mode = 0 then 0
  else if !isUp p n then 1
  else if (Tab.get p.ports n).isolated then 4
  else if p.mode = 1 then 2
  else 3

/-- The result bytes of NET_PORT_STATUS. -/
def portStatus (p : NetPier) (n : Nat) : Nat :=
  let x := Tab.get p.ports n
  portState p n + x.viols * 2 ^ 8 + Bits.fitU 32 x.dp * 2 ^ 16 + x.forwarded * 2 ^ 48 + x.violTotal * 2 ^ 80 +
    x.headerErr * 2 ^ 96 + x.codeErr * 2 ^ 112

/-- The status of every port as it stands. -/
def portsNow (s : State) : Tab Nat :=
  (List.range 9).foldl (fun t n => Tab.set (Tab.set t n (portStatus s.net.pierA n)) (16 + n) (portStatus s.net.pierB n)) []

/-! The network cycle. -/

/-- θ of the ended cycle (R443). -/
def theta (s : State) : Option Int :=
  match s.net.thA, s.net.thB with
  | some a, some b => some (Bits.roundDiv (a + b) 2)
  | some a, none => some a
  | none, b => b

/-- The node's own cascade roles: the decision the coordinator of a group takes at cycle boundary X (R329 to R332, R334,
R335). Log: 61 (DEDUCED, unsafe). -/
def coordinate (g : Nat) (s : State) : State :=
  let x := s.tm.frame
  let c := cyc s
  let co := Tab.get s.net.coord g
  let members := (s.net.pubs.filter fun p => p.kind = 5 ∧ p.index = g).map (·.publisher)
  let of (n : Nat) : GroupStatus := if n = s.nodeId then Seq.groupStatus s g else Tab.get s.net.status (g * 512 + n)
  let sts := members.map of
  let has (i : Nat) (y : GroupStatus) : Bool := y.got && y.state.testBit i
  let step := ((sts.find? fun y => has 0 y || has 1 y).map (·.step)).getD co.step
  let lead := Bits.field s.prog.groupCfg.toNat 3 0
  let limit := Bits.field s.prog.groupCfg.toNat 11 8
  let put (y : GroupCoord) (d : GroupDec) : State :=
    let s1 := { s with net.coord := Tab.set s.net.coord g { y with now := d } }
    if s.nodeId = s.net.sys.casc then { s1 with net.decM := Tab.set s1.net.decM g d }
    else { s1 with net.decB := Tab.set s1.net.decB g d }
  let announce := put { co with k := some (x + lead * c), step := step, count := 0, withdrawn := false }
    { dec := 1, step := step, k := x + lead * c }
  if sts.any fun y => has 3 y || has 4 y then put { co with k := none, withdrawn := false } { dec := 4, step := co.step, k := 0 }
  else
    match co.k with
    | some k =>
      if sts.any (has 2) then put { co with k := none, withdrawn := true } { dec := 5, step := co.step, k := k }
      else if k = x + c then
        if sts.all fun y => has 1 y && decide (y.k = k % 2 ^ 32) then put co { dec := 2, step := co.step, k := k }
        else if limit ≤ co.count then put { co with k := none } { dec := 4, step := co.step, k := k }
        else put { co with k := some (k + c), count := co.count + 1 } { dec := 3, step := co.step, k := k + c }
      else if k ≤ x then put { co with k := none } {}
      else put co {}
    | none =>
      let starts := (sts.map (·.k)).find? fun k => decide (k ≠ 0)
      if members.isEmpty then put co {}
      else if co.withdrawn then (if sts.all fun y => has 1 y && !has 2 y then announce else put co {})
      else if sts.all fun y => has 0 y && decide (y.step = step) then announce
      else
        -- a Keystone instant the hosts named (START_AT): decided one cycle before it
        match starts with
        | some k =>
          if k = (x + c) % 2 ^ 32 then
            if sts.all fun y => has 1 y && decide (y.k = k) then put { co with step := step } { dec := 2, step := step, k := x + c }
            else put { co with k := some (x + 2 * c), step := step, count := 1 } { dec := 3, step := step, k := x + 2 * c }
          else put co {}
        | none => put co {}

/-- The groups this node coordinates. -/
def coordinateAll (s : State) : State :=
  if decide (s.net.state = 4) && (decide (s.nodeId = s.net.sys.casc) || decide (s.nodeId = s.net.sys.backup)) then
    let gs := ((s.net.pubs.filter fun p => p.kind = 5).map (·.index)).eraseDups
    gs.foldl (fun s g => coordinate g s) s
  else s

/-- One station at a cycle boundary (R376, R377, R446). -/
def stationCycle (s : State) (p : NetPub) : State :=
  let k := p.index
  let x := s.station k
  let heard := s.net.gotStatic.testBit p.publisher || s.net.gotNull.testBit p.publisher
  let good := if s.net.good.testBit p.publisher then x.good + 1 else 0
  let missed := if heard then 0 else x.missed + 1
  let y := { x with good := good, missed := missed }
  if x.quality ≠ 2 ∧ s.net.sys.stnLoss ≤ missed then
    Ops.raise Event.stationLost (mkSrc 1 4 0) k 0
      { s.setStation k { y with quality := 2, present := false, feeding := false, resumeWait := false, drops := (x.drops + 1) % 2 ^ 16 } with
        prog.fStation := true }
  else if x.quality = 2 then s.setStation k (if heard then { y with quality := 3, present := true } else y)
  else if x.quality = 3 then
    if 2 ≤ good then s.setStation k { y with quality := 0, present := true, resumeWait := true, inp := x.live }
    else s.setStation k { y with present := heard }
  else
    let null := s.net.gotNull.testBit p.publisher && !s.net.gotStatic.testBit p.publisher
    s.setStation k { y with present := heard, quality := if null then 1 else 0 }

/-- The time service of the ended cycle: integration, the rate update, and what leaves the schedule (R84, R91, R440,
R443). -/
def timeService (s : State) : State :=
  let tc := cyc s * 15625
  let th := theta s
  let near (z : Int) : Bool := decide ((z.natAbs : Int) ≤ stepFree s)
  let fail (s : State) : State :=
    setPiers 1 (Ops.raise Event.netIntegFail (mkSrc 1 5 0) 0 0 { s with net.state := 1, net.integ := 0, net.quiet := 0, net.schedDue := false })
  let update (z : Int) (s : State) : State := Ops.count 5 20 1 (Ops.rateUpdate z tc { s with net.thLast := z })
  match s.net.integ, s.net.state with
  | 2, _ => { s with net.integ := 3 }
  | 3, _ =>
    match th with
    | some z => if near z then update z { s with net.state := 3, net.integ := 0, net.cycles := 0, net.schedDue := true } else fail s
    | none => fail s
  | _, 3 =>
    match th with
    | some z =>
      if near z then
        let s1 := update z s
        if 2 ≤ s.net.cycles + 1 then Ops.raise Event.netInSync (mkSrc 1 5 0) 0 0 { s1 with net.state := 4, net.cycles := 0 }
        else { s1 with net.cycles := s.net.cycles + 1 }
      else fail s
    | none => s
  | _, 4 =>
    if isRef s then s
    else
      match th with
      | some z => if near z then update z s else leave { s with tm.theta := Bits.sat 32 z }
      | none => s
  | _, _ => s

/-- The offer of a COLDSTART node at a cycle boundary (R439). -/
def offerCycle (s : State) : State :=
  let run := if s.net.own then s.net.ownRun + 1 else 0
  let lonely := if s.net.own || s.net.other then 0 else s.net.lonely + 1
  let s1 := { s with net.ownRun := run, net.lonely := if s.net.state = 2 then lonely else 0 }
  if s.net.state = 2 ∧ 2 ≤ run then
    setPiers 2 (Ops.raise Event.netColdstart (mkSrc 1 5 0) 0 0 { s1 with net.state := 4, net.offering := true, net.lonely := 0 })
  else if s.net.offering ∧ 8 ≤ run then { s1 with net.offering := false }
  else s1

/-- Reference and acting cascade master of the cycle that begins (R442, R444). -/
def roles (s : State) : State :=
  let g := s.net.sys
  let me := decide (s.net.state = 4)
  let up (n : Nat) : Bool := s.net.map.testBit n || (me && decide (n = s.nodeId))
  let ref : Nat :=
    if !me && s.net.map = 0 then 0
    else if up g.timeMaster then g.timeMaster + 1
    else
      match s.net.nodes.find? fun q => q.2.given && q.2.coldstart && up q.1 with
      | some q => q.1 + 1
      | none => 0
  let act : Nat := if up g.casc then g.casc + 1 else if g.backup = 0xFFFF then 0 else g.backup + 1
  let s1 := if s.net.ref ≠ 0 ∧ ref ≠ 0 ∧ ref ≠ s.net.ref then
      Ops.raise Event.netRefChange (mkSrc 1 5 0) 0 0 s else s
  let s2 := if s.net.acting ≠ 0 ∧ act ≠ s.net.acting then Ops.raise Event.netCmasterChange (mkSrc 1 5 0) 0 0 s1 else s1
  { s2 with net.ref := ref, net.acting := act }

/-- NET_CHANNEL_MISS (R436): static slots one Pier accepted on a port where the other saw no start. -/
def channelMiss (s : State) : State :=
  let one (b : Bool) (mine other : NetPier) (s : State) : State :=
    (mine.accepted.filter fun k => !other.starts.contains k).foldl (fun s k =>
      Ops.raise (Event.netChannelMiss (!b)) (mkSrc 3 (if b then 4 else 5) 0) (k % 16) (Bits.b2n (!b))
        { s with net.flags := Bits.setBit s.net.flags 5 true }) s
  let s1 := one true s.net.pierB s.net.pierA (one false s.net.pierA s.net.pierB s)
  let clear (p : NetPier) : NetPier := { p with starts := [], accepted := [], occ := [] }
  { s1 with net.pierA := clear s1.net.pierA, net.pierB := clear s1.net.pierB }

/-- Followers of remote masters: cycles without a sample (R181). -/
def followCycle (s : State) : State :=
  { s with
    mot.axes := Tab.mapVals s.mot.axes fun _ x =>
      match x.follow with
      | some f =>
        if locNode f.master = s.nodeId then x
        else
          let r := Tab.get s.mot.remote (locNode f.master * 64 + locUnit f.master)
          let ok := r.got && decide (s.net.state = 4)
          { x with follow := some { f with missed := if ok then 0 else f.missed + 1 } }
      | none => x
    mot.remote := Tab.mapVals s.mot.remote fun _ r => { r with got := false } }

/-- NETWORK_CYCLE (R420): the decisions of the ended cycle. Log: 64 (DEDUCED, unsafe). -/
def networkCycle (s : State) : State :=
  if decide (s.net.state = 0) || !s.tm.due (cyc s) 0 || decide (s.net.lastCycle = s.tm.frame + 1) then s
  else
    let s1 := offerCycle (timeService (channelMiss s))
    let s2 := if s1.net.schedDue ∧ s.net.schedDue then setPiers 2 { s1 with net.schedDue := false } else s1
    let s3 := roles { s2 with net.map := s2.net.seen, net.seen := 0 }
    let s4 := if s3.net.state = 4 then (s3.net.pubs.filter fun p => p.kind = 4).foldl stationCycle s3 else s3
    let s5 := followCycle (Loop.netCycle (fun n => decide (s4.net.state = 4) && s4.net.map.testBit n) s4)
    let s6 := coordinateAll s5
    { s6 with
      net.own := false, net.other := false, net.thA := none, net.thB := none, net.good := 0, net.gotStatic := 0, net.gotNull := 0
      net.sent := [], net.dynSent := [], net.occA := [], net.occB := [], net.taken := [], net.status := []
      net.lastCycle := s.tm.frame + 1, net.portsShown := portsNow s6 }

/-! Commands and registers. -/

/-- Reserved bytes of NET_SEND, and its listed values. -/
def sendFormat (c : Cmd) : Bool := decide (Arg.u c 11 1 < 2) && Arg.zeroFrom c 12

/-- NET_SEND (R447): names host memory, whose bytes the barrier delivers. -/
def netSend (c : Cmd) (load : Option Bytes) (s : State) : Reply :=
  let len := Arg.u c 8 2
  let ch := Arg.u c 10 1
  if !s.enabled 6 then .refuse 0x50
  else if len < 1 ∨ 1024 < len ∨ ch < 1 ∨ 3 < ch then .refuse 0x5B
  else
    match (List.range s.net.sys.nm).find? (owns s s.nodeId true) with
    | none => .refuse 0x5D
    | some m =>
      if s.net.sys.nm < m + minislots s.net.sys len then .refuse 0x5D
      else
        let full (f : NetSendReq → Bool) : Bool := decide (16 ≤ (s.net.sends.filter f).length)
        if (ch.testBit 0 && full (·.waitA)) || (ch.testBit 1 && full (·.waitB)) then .refuse 0x5E
        else
          match load with
          | none => .ends s .busError 0
          | some bs =>
            .accepted { s with net.sends := s.net.sends ++ [{ org := c.origin 0x0501, payload := bs.take len
                                                              ts := (Arg.u c 11 1).testBit 0, waitA := ch.testBit 0, waitB := ch.testBit 1 }] }

/-- The requests whose minislot on a channel lies in the frame that begins at this boundary, their commit point (R447): the
queue in order over the owned minislots that no known frame occupies. Log: 78 (DEDUCED, unsafe). -/
def committing (chB : Bool) (s : State) : List NetSendReq :=
  let fresh := s.tm.due (cyc s) 0
  let ms := (List.range s.net.sys.nm).filter fun m => owns s s.nodeId true m && startsIn s s.tm.frame true m &&
    (fresh || !s.net.dynSent.contains (2 * m + Bits.b2n chB))
  let queue := s.net.sends.filter fun r => NetSendReq.waitsOn r chB
  (ms.foldl (fun (a : List NetSendReq × List NetSendReq × List (Nat × Nat)) m =>
    match a.1 with
    | [] => a
    | r :: rest =>
      let q := minislots s.net.sys r.payload.length
      if occupied a.2.2 m || decide (s.net.sys.nm < m + q) then a else (rest, a.2.1 ++ [r], a.2.2 ++ [(m, q)]))
    (queue, [], if fresh then [] else busyMinis s chB)).2.1

/-- An abort of NET_SEND: before the commit point of its first channel; at that boundary the commit wins (R51, R447). -/
def abort (hit : Origin → Bool) (s : State) : Option (State × Status) :=
  match s.net.sends.find? fun r => hit r.org with
  | none => none
  | some r =>
    let commits (chB : Bool) : Bool := decide (s.net.state = 4) && (committing chB s).any fun x => hit x.org
    if r.id.isSome || commits false || commits true then some (s, .nothingToAbort)
    else some (Ops.complete r.org .aborted 0 0 { s with net.sends := s.net.sends.erase r }, .done)

/-- NET_NODE_MAP (R453). -/
def nodeMap (c : Cmd) (s : State) : Reply :=
  let b := Arg.u c 0 1
  if !s.enabled 6 then .refuse 0x50
  else if 3 < b then .refuse 0x5B
  else .done s (s.net.map / 2 ^ (128 * b) % 2 ^ 128)

/-- Nodes in sync, this node among them while it is. Log: 48 (DEDUCED, unsafe). -/
def inSyncNodes (s : State) : Nat := (Bits.bitsOf s.net.map 512).length + Bits.b2n (decide (s.net.state = 4))

/-- NET_STATUS (Table 12-12). -/
def statusReg (s : State) : Nat :=
  s.net.state + 8 * Bits.b2n (isRef s) + 16 * Bits.b2n (isActing s) + 32 * Bits.b2n (decide (s.net.pierA.mode = 2)) +
    64 * Bits.b2n (decide (s.net.pierB.mode = 2)) + s.net.reason * 2 ^ 8 + inSyncNodes s * 2 ^ 16

/-- SYNC_STATE of TIME_STATUS (Table 12-5). -/
def syncState (s : State) : Nat :=
  match s.net.state with
  | 2 => 1
  | 3 => 1
  | 4 => 2
  | 5 => 3
  | _ => 0

/-- TIME_MASTER of TIME_STATUS (R442). -/
def timeMaster (s : State) : Bool := !s.enabled 6 || (decide (s.nodeId = s.net.sys.timeMaster) && isRef s)

end Sys2Proof.Machine.Net
end

