-- ==== Sys2Proof/Machine/TimeCmd.lean ====
section
/-!
DEFINITION. What sets a node's time: TIME_SET, the single step, and PPS_IN (R86 to R96, R101).
-/

namespace Sys2Proof.Machine.TimeCmd

/-- A mark "one more than the frame of the last one" when a boundary's label moves from `old` to `new`. -/
def mark (old new v : Nat) : Nat := if v = old + 1 then new + 1 else v

/-- Moves a frame number with the present boundary's label. Log: 101 (DESIGN CHOICE, unsafe). -/
def moved (old new v : Nat) : Nat := v + new - old

/-- What is tied to the present boundary, or counts boundaries from it, goes with its new label.
Log: 101 (DESIGN CHOICE, unsafe). -/
def shift (old : Nat) (s : State) : State :=
  let new := s.tm.frame
  { s with
    log := { s.log with
      raised := s.log.raised.map fun e => if e.stamp = old ∧ !e.mid then { e with stamp := new } else e
      limits := Tab.mapVals s.log.limits fun _ l => if l.last = 0 then l else { l with last := max 1 (moved old new l.last) }
      captureFrame := mark old new s.log.captureFrame }
    acq.done := s.acq.done.map fun d => { d with due := moved old new d.due }
    acq.cap := Tab.mapVals s.acq.cap fun _ c => { c with
      lastB := mark old new c.lastB, readyFrame := c.readyFrame.map (moved old new)
      hit := c.hit.map fun h => (moved old new h.1, h.2) }
    loop.slots := Tab.mapVals s.loop.slots fun _ x => { x with lastB := mark old new x.lastB }
    mot.lastTick := mark old new s.mot.lastTick
    prog.tasks := Tab.mapVals s.prog.tasks fun _ x => { x with outAt := mark old new x.outAt }
    net.lastCycle := mark old new s.net.lastCycle
    pair.healthFrame := mark old new s.pair.healthFrame
    pair.decided := mark old new s.pair.decided }

/-- The single step of R87 at the present boundary. Log: 20 (DEDUCED, unsafe). -/
def step (theta : Int) (s : State) : State :=
  AcqOps.closeIntervals (shift s.tm.frame (Net.stepped (Ops.stepBy theta { s with tm.stepDue := none })))

/-- TIME_STEP: a step that integration, or the first PPS_IN edge, has made due is by `theta`; the boundary that ends the
frame takes it (R86, R87, R93). Log: 20 (DEDUCED, unsafe). -/
def timeStep (theta : Int) (s : State) : State :=
  if s.tm.stepDue.isSome then { s with tm.stepDue := some theta } else s

/-- Whether any other node is integrated. -/
def othersIn (s : State) : Bool := s.enabled 6 && (Bits.bitsOf s.net.map 512).any fun n => decide (n ≠ s.nodeId)

/-- Every reduction interval in progress is closed with the samples it holds (R101). Log: 21 (DEDUCED, unsafe). -/
def closeAll (s : State) : State :=
  { s with acq.red := Tab.mapVals s.acq.red fun _ r => match r.acc with
      | some a => { r with acc := none, ended := some a }
      | none => r }

/-- Frame number of TIME_SET's label. -/
def label (c : Cmd) : Nat := Arg.u c 0 8 * 64000 + Arg.u c 8 4 / 15625

/-- TIME_SET's format: a whole boundary, reserved bytes zero (R48, Table 2-6). -/
def setFormat (c : Cmd) : Bool :=
  decide (Arg.u c 8 4 < 1000000000) && decide (Arg.u c 8 4 % 15625 = 0) && Arg.zeroFrom c 12

/-- TIME_SET (R101). -/
def timeSet (c : Cmd) (s : State) : Reply :=
  let old := s.tm.frame
  let new := label c
  if !Net.timeMaster s || othersIn s then .refuse 0x53
  else if new = old then .done s 0
  else if decide (new < old) && decide (s.md.mode ≠ .configure) then .refuse 0x53
  else
    let change : Int := ((new : Int) - old) * frame256
    let s1 := Ops.relabel new change (if new < old then closeAll s else s)
    let s2 := Ops.raise Event.timeStep (mkSrc 1 5 3) (Ops.p32 (((new : Int) - old) * 15625)) (min (new - old) (2 ^ 32 - 1)) s1
    .done (AcqOps.closeIntervals (shift old s2)) 0

/-- Whether PPS_IN edges of this direction are used (R92, Table 2-8). -/
def ppsOn (rising : Bool) (s : State) : Bool :=
  s.enabled 11 && s.tm.latticeCfg.toNat.testBit 1 && (rising == !s.tm.latticeCfg.toNat.testBit 2)

/-- The step that makes an edge at device time `t` fall on a whole second, never back by a frame or more (R87, R93).
Log: 22 (DEDUCED, unsafe). -/
def alignment (t : Nat) : Int :=
  let th : Int := (Ops.nearestSec t : Nat) - (t : Int)
  if th ≤ -(frame256 : Nat) then th + (sec256 : Nat) else th

/-- PPS_IN_EDGE (R92 to R95). Log: 22 (DEDUCED, unsafe), 107 (DESIGN CHOICE, unsafe). -/
def ppsInEdge (rising : Bool) (i : Instant) (s : State) : State :=
  if !ppsOn rising s then s
  else
    let t := s.tm.edge i
    let c : Int := (t : Int) - s.tm.steps
    let th : Int := (Ops.nearestSec t : Nat) - (t : Int)
    if !s.tm.ppsLocked then
      let s1 := Ops.ppsTake c s
      if othersIn s then Ops.rateUpdate th 1000000000 s1
      else
        let a := alignment t
        if a = 0 then s1 else { s1 with tm.stepDue := some a, tm.ppsLast := some c }
    else
      let early := match s.tm.ppsLast with
        | some l => decide (c < l + (sec256 / 2 : Nat))
        | none => false
      if decide (100000 * 256 < th.natAbs) || early then Ops.raiseMid Event.ppsReject (mkSrc 1 5 3) 0 0 s
      else Ops.rateUpdate th 1000000000 (Ops.ppsTake c s)

end Sys2Proof.Machine.TimeCmd
end

