-- ==== Sys2Proof/Machine/Check.lean ====
section
/-!
DEFINITION. The consistency check (R126 to R136): what every subsystem's configuration is tested for, in which order, and
what an accepted or refused check leaves.
-/

namespace Sys2Proof.Machine.Checks

/-- A failure: the step of R133 that finds it, the bit it is reported for, reason and Locator. -/
structure Fail where
  step : Nat
  sub : Nat
  reason : Nat
  loc : Nat
  deriving DecidableEq, Repr

/-- A failure found by one of the chapters' tests. -/
def ofOpt (step sub : Nat) : Option (Nat × Nat) → List Fail
  | none => []
  | some (r, l) => [⟨step, sub, r, l⟩]

/-- A failure when a condition holds. -/
def when (b : Bool) (step sub reason loc : Nat) : List Fail := if b then [⟨step, sub, reason, loc⟩] else []

/-- A configuration register's field in a range. -/
def inRange (w : Word) (hi lo a b : Nat) : Bool :=
  let v := Bits.field w.toNat hi lo
  decide (a ≤ v) && decide (v ≤ b)

/-- MOTION (R133, R197, R198). -/
def motion (en : Nat) (s : State) : List Fail :=
  let servo (a : Nat) : Bool :=
    let x := s.slot (768 + a)
    x.cfg.inUse && decide (Bits.field (x.cfg.src.getD 0 0) 31 28 = 5)
  (List.range 64).flatMap fun a =>
    let l := pairLoc s.nodeId 1 a 0
    let r := Mot.checkAxis (fun _ => true) s a
    let loops := decide ((s.axis a).io.output = 2)
    ofOpt 1 0 r ++ when (loops && !en.testBit 1) 2 0 0x76 l ++ when (loops && en.testBit 1 && !servo a) 2 0 0x1F l

/-- LOOP (R133, R222, R229 to R234, R247, R248, R525). -/
def loops (en : Nat) (s : State) : List Fail :=
  let published (l : Nat) : Bool := s.net.pubs.any fun p => decide (p.kind = 1) && decide (p.loc = l)
  let us := Loop.inUse s
  let units := us.flatMap fun q =>
    let u := q.1
    let x := q.2
    let l := pairLoc s.nodeId 2 u 0
    let axis := (List.range 4).any fun j => decide (Bits.field (x.cfg.src.getD j 0) 31 28 = 5)
    let lastLoc := pairLoc s.nodeId 2 u x.cfg.nstages
    let ds := Loop.destsOf x
    (if en.testBit 6 then [] else
      (Loop.remotes x s.nodeId).map fun r => (⟨2, 1, 0x76, pairLoc s.nodeId 2 u r.1⟩ : Fail)) ++
    ((List.range x.cfg.nstages).flatMap fun k =>
      match Loop.checkStage published s x k with
      | some (r, item) => [Fail.mk (if r = 0x25 then 2 else 1) 1 r (pairLoc s.nodeId 2 u item)]
      | none => []) ++
    when (axis && !en.testBit 0) 2 1 0x76 l ++
    (match Loop.checkInputs published s u x with
      | some r => [⟨2, 1, r, l⟩]
      | none => []) ++
    when (ds.any (fun d => decide (d.1 = 1)) && !en.testBit 9) 2 1 0x76 lastLoc ++
    when (us.any fun p => decide (p.1 < u) && ds.any fun d => (Loop.destsOf p.2).contains d) 2 1 0x2A lastLoc ++
    when (en.testBit 9 && ds.any fun d => decide (d.1 = 1) && decide ((s.pwm d.2).drive ≠ 1)) 2 9 0x6A lastLoc
  units ++ when (decide (64000000 * 1024 < Loop.load s)) 3 1 0x21 (pairLoc s.nodeId 2 0 0)

/-- ADC (R133, R270, R282, R283, R289). -/
def adc (en : Nat) (s : State) : List Fail :=
  let pwm (n : Nat) : Option Nat := if (s.pwm n).drive = 0 then none else some (s.pwm n).period
  (List.range 32).flatMap (fun c => (Adc.checkConv pwm (en.testBit 9) s (Tab.get s.acq.conv c).cfg).map fun r =>
    Fail.mk r.1 2 r.2 (pairLoc s.nodeId 3 c 0)) ++
  (List.range 32).flatMap fun d =>
    let f := Tab.get s.acq.fdma d
    let l := pairLoc s.nodeId 3 (96 + d) 0
    if !f.adc then []
    else
      (match Adc.checkBuffer f with
        | some r => [⟨1, 2, r, l⟩]
        | none => []) ++
      when ((Areas.ofAdc s d).any (Areas.clash s) || s.acq.cap.any fun q => q.2.cfg.given && decide (q.2.cfg.dma = d))
        1 2 0x35 l

/-- ACQ (R133, R290, R291, R302, R314). -/
def acq (en : Nat) (s : State) : List Fail :=
  let region := pairLoc s.nodeId 3 0 0
  let on := s.acq.red.filter fun q => (AcqOps.redOf q.2).on
  (s.acq.cap.flatMap fun q =>
    let l := pairLoc s.nodeId 3 (32 + q.1) 0
    if !q.2.cfg.given then []
    else
      (match AcqOps.checkCap s q.2.cfg with
        | some r => [Fail.mk 1 3 r l]
        | none => []) ++
      when ((Areas.ofCapture s q.1).any (Areas.clash s) || (Tab.get s.acq.fdma q.2.cfg.dma).adc ||
        s.acq.cap.any fun p => decide (p.1 ≠ q.1) && p.2.cfg.given && decide (p.2.cfg.dma = q.2.cfg.dma)) 1 3 0x35 l) ++
  when (on.any fun q => !s.hbd.isStream (AcqOps.redOf q.2).ring) 1 3 0x3C region ++
  when (on.any fun q => (AcqOps.redOf q.2).fwd && Taps.isFloat (Taps.tap s q.1).fmt) 1 3 0x3B region ++
  when (s.acq.assign.any fun q => (decide (q.2.src = 1) || decide (q.2.src = 2)) && !en.testBit 1) 2 3 0x76 region ++
  when (s.acq.assign.any fun q => AcqOps.assignBad s q.2) 2 3 0x39 region

/-- PROGRAM (R133, R359, R379, R383, R410). -/
def program (en : Nat) (s : State) : List Fail :=
  let l := pairLoc s.nodeId 4 0 0
  let area := Areas.ofProgram s
  when (area.any fun a => decide (a.base % a.len ≠ 0) || decide (2 ^ 25 < a.base + a.len) || Areas.clash s a) 1 4 0x42 l ++
  ofOpt 1 4 (Prog.checkFormat s) ++ ofOpt 2 4 (Prog.checkRefs en s) ++ ofOpt 3 4 (Prog.checkLoad s)

/-- SEQ (R133, R341, R344). -/
def seq (s : State) : List Fail :=
  ((List.range 16).flatMap fun q =>
    when ((Areas.ofTable s q).any fun a =>
      decide (a.base % a.len ≠ 0) || decide (2 ^ 25 < a.base + a.len) || Areas.clash s a) 1 5 0x84
      (pairLoc s.nodeId 4 (16 + q) 0)) ++
  when (!inRange s.prog.groupCfg 3 0 3 15 || !inRange s.prog.groupCfg 11 8 1 15) 1 5 0x81 (pairLoc s.nodeId 4 0 0)

/-- NETWORK (R92, R133, R450 to R452). -/
def network (en : Nat) (s : State) : List Fail :=
  let own (k : Nat) : Bool := s.net.pubs.any fun p => decide (p.publisher = s.nodeId) && decide (p.kind = k)
  let l := pairLoc s.nodeId 5 0 0
  ofOpt 1 6 (Net.check s) ++ when (own 1 && !en.testBit 1) 2 6 0x76 l ++ when (own 2 && !en.testBit 0) 2 6 0x76 l

/-- SAFETY (R133, R529): a configuration must have been loaded. -/
def safety (en : Nat) (s : State) : List Fail :=
  when (!s.saf.loaded) 1 7 0x6F (pairLoc s.nodeId 6 0 0) ++
  ofOpt 1 7 (Safe.checkFormat s.nodeId s.saf.cfg) ++ ofOpt 2 7 (Safe.checkRefs s (en.testBit 0) s.saf.cfg)

/-- GOVERNOR's registers (R104). -/
def governor (s : State) : List Fail :=
  let st := s.tm.slackTarget
  let g := s.tm.govCfg
  when (!inRange st 15 0 200 8000 || !inRange st 31 16 0 (Bits.field st.toNat 15 0) || !inRange g 11 8 1 15 ||
    !inRange g 15 12 0 8) 1 10 0x73 (pairLoc s.nodeId 7 4 0)

/-- TIMING's registers and the place of PPS_IN (R92, R104, R132). -/
def timing (en : Nat) (s : State) : List Fail :=
  let l := pairLoc s.nodeId 5 3 0
  let c := s.tm.latticeCfg
  (if en.testBit 11 then
    when (!inRange c 15 8 1 255) 1 11 0x74 l ++ when (!inRange c 27 16 10 1000) 1 11 0x74 (pairLoc s.nodeId 7 0 0) ++
    when (!inRange s.tm.timeCfg 15 0 100 50000) 1 11 0x51 l
  else []) ++
  when (c.toNat.testBit 1 && en.testBit 6 && decide (s.nodeId ≠ s.net.sys.timeMaster)) 2
    (if en.testBit 11 && s.enabled 6 then 11 else 6) 0x52 l

/-- The barrier bandwidth budget (R312, R448). -/
def streams (en : Nat) (s : State) : List Fail :=
  let q : AcqOps.Q := if en.testBit 3 then AcqOps.load s else (16000000, 1)
  let r := Net.rxLoad s
  when (en.testBit 3 && decide (800000000 * (q.2 : Int) < q.1)) 5 3 0x71 (pairLoc s.nodeId 3 0 0) ++
  when (en.testBit 6 && decide (800000000 * ((q.2 * r.2 : Nat) : Int) < q.1 * (r.2 : Nat) + (r.1 * q.2 : Nat))) 5 6 0x71
    (pairLoc s.nodeId 5 0 0)

/-- The bit a region's budget is reported for: the lowest enabled one of a subsystem of that region. -/
def regionBit (en region : Nat) : Nat :=
  let bits := match region with
    | 1 => [0]
    | 2 => [1]
    | 3 => [2, 3]
    | 4 => [4, 5]
    | 5 => [6, 11]
    | 6 => [7]
    | _ => [8, 9, 10]
  (bits.find? en.testBit).getD 0

/-- Every failure of the configuration as written under the enable bits `en`.
Log: 12 (DESIGN CHOICE, safe), 36 (DEDUCED, unsafe). -/
def faults (en : Nat) (beyond : Option (Fin 8)) (s0 : State) : List Fail :=
  let s := Loop.shadows s0
  let only (b : Nat) (l : List Fail) : List Fail := if en.testBit b then l else []
  only 0 (motion en s) ++ only 1 (loops en s) ++ only 2 (adc en s) ++ only 3 (acq en s) ++ only 4 (program en s) ++
    only 5 (seq s) ++ only 6 (network en s) ++ only 7 (safety en s) ++ only 9 (ofOpt 1 9 (Out.checkPwm s)) ++
    only 10 (governor s) ++ timing en s ++ streams en s ++
    (match beyond with
      | some r => [⟨4, regionBit en r.val, 0x70, pairLoc s.nodeId r.val 0 0⟩]
      | none => [])

/-- Whether a failure is found before another: by the step, in step 1 by the subsystem's bit, then by Locator (R133). -/
def Fail.before (a b : Fail) : Bool :=
  let bit (f : Fail) : Nat := if f.step = 1 then f.sub else 0
  decide (a.step < b.step) || (decide (a.step = b.step) &&
    (decide (bit a < bit b) || (decide (bit a = bit b) && decide (a.loc < b.loc))))

/-- The failure that ends the check: the first found (R133). Log: 36 (DEDUCED, unsafe). -/
def first (l : List Fail) : Option Fail :=
  l.foldl (fun m f =>
    match m with
    | some g => if f.before g then some f else m
    | none => some f) none

/-- The check of a command's configuration change: reason and Locator (R136). -/
def ofCommand (s : State) : Option (Nat × Nat) :=
  (first (faults s.chk.enable (Config.overBudget s.free) s)).map fun f => (f.reason, f.loc)

/-- Whether a failure is a reference from a subsystem that stays enabled to one that the new enable bits leave out. -/
def Fail.dangling (s : State) (v : Nat) (f : Fail) : Bool :=
  decide (f.reason = 0x76) && s.enabled f.sub && v.testBit f.sub

/-- A refused clear: the lowest cleared bit that a subsystem which stays enabled refers to, and its first referring element
(R134). -/
def clearedOf (s : State) (v : Nat) : Option (Nat × Nat) :=
  let cleared := (List.range 12).filter fun b => s.enabled b && !v.testBit b
  let all := cleared.foldl (fun e b => Bits.setBit e b true) v
  cleared.findSome? fun b =>
    (first ((faults (Bits.setBit all b false) none s).filter (Fail.dangling s v))).map fun f => (b, f.loc)

/-- GOVERNOR's regulator: the exponent it reports in linear mode (R71). -/
def exponent (m : CheckMeas) : Option Int :=
  m.voutMode.bind fun w =>
    let e := Bits.signed 5 w.toNat
    if w.toNat / 32 = 0 ∧ -13 ≤ e ∧ e ≤ -8 then some e else none

/-- An accepted result. -/
def accepted (o : CheckOf) (e : Int) : CheckResult := { of := o, reason := 0, subsys := 0, dir := 0, loc := 0, expo := e }

/-- The result of a check that found a failure. -/
def refused (o : CheckOf) (f : Fail) : CheckResult :=
  { of := o, reason := f.reason, subsys := f.sub, dir := 0, loc := f.loc, expo := 0 }

/-- Writes a setup register that a check covers. Log: 110 (DESIGN CHOICE, unsafe). -/
def setRegister (offset v : Nat) (s : State) : State :=
  let w (mask : Nat) : Word := BitVec.ofNat 32 (v &&& mask)
  match offset with
  | 0x4040 => { s with tm.latticeCfg := w 0x0FFFFF0E }
  | 0x4044 => { s with tm.slackTarget := w 0xFFFFFFFF }
  | 0x4048 => { s with tm.govCfg := w 0x0FFFFFFF }
  | 0x404C => { s with tm.timeCfg := w 0x00FFFFFF }
  | 0x4100 => { s with mot.cfg := w 0x3 }
  | 0x4208 => { s with prog.groupCfg := w 0xF0F }
  | 0x4280 => { s with nodeId := v % 512 }
  | _ => s

/-- The subsystems a setup register is checked for (R136). -/
def registerBits (offset : Nat) : List Nat :=
  match offset with
  | 0x4040 => [11]
  | 0x404C => [11]
  | 0x4044 => [10]
  | 0x4048 => [10]
  | 0x4100 => [0, 1]
  | 0x4280 => [6]
  | 0x4208 => [5]
  | _ => []

/-- Whether a write to a setup register is checked now. -/
def isChecked (s : State) (offset : Nat) : Bool := (registerBits offset).any s.enabled

/-- Whether the write that a check judges changes no bit: its check accepts at once (R130). -/
def changesNothing (o : CheckOf) (s : State) : Bool :=
  match o with
  | .subsys v => decide (v = s.chk.enable)
  | .redundancy v => decide (BitVec.ofNat 32 (v &&& 0x000F9F01) = s.pair.redundancyCfg)
  | .register off v =>
    let t := setRegister off v s
    decide (t.tm.latticeCfg = s.tm.latticeCfg ∧ t.tm.slackTarget = s.tm.slackTarget ∧ t.tm.govCfg = s.tm.govCfg ∧
      t.tm.timeCfg = s.tm.timeCfg ∧ t.mot.cfg = s.mot.cfg ∧ t.prog.groupCfg = s.prog.groupCfg ∧ t.nodeId = s.nodeId)

/-- The result of a check (R128 to R136). Log: 110 (DESIGN CHOICE, unsafe). -/
def judge (o : CheckOf) (m : CheckMeas) (s : State) : CheckResult :=
  if changesNothing o s then accepted o s.tm.gov.expo else
  match o with
  | .redundancy v =>
    if Pair.cfgBad s v then { of := o, reason := 0x77, subsys := 12, dir := 0, loc := pairLoc s.nodeId 7 0 0, expo := 0 }
    else accepted o 0
  | .register off v =>
    match first (faults s.chk.enable m.overBudget (setRegister off v s)) with
    | some f => refused o f
    | none => accepted o 0
  | .subsys v =>
    let gov := v.testBit 10 && !s.enabled 10
    let l := faults v m.overBudget s ++ when (gov && (exponent m).isNone) 1 10 0x72 (pairLoc s.nodeId 7 4 0)
    match first l with
    | none => accepted o ((exponent m).getD s.tm.gov.expo)
    | some f =>
      match (if f.dangling s v then clearedOf s v else none) with
      | some (b, loc) => { of := o, reason := 0x76, subsys := b, dir := 1, loc := loc, expo := 0 }
      | none => refused o f

/-- A check starts (R128). -/
def start (o : CheckOf) (s : State) : State :=
  if s.chk.running.isSome || s.chk.result.isSome then s
  else { s with hbd.checkBusy := true, hbd.checkDone := none, chk.running := some o }

/-- A standby whose result differs is faulted; which checker reports it the spec does not say (R135).
Log: 13 (DESIGN CHOICE, safe). -/
def standbyFault (s : State) : State :=
  let d := Pair.other s
  if s.pair.st ≠ 1 then s
  else
    let q : FlagFault := { die := d, checker := (Config.unstated s.free).toNat % 256, src := mkSrc d 7 0 }
    Pair.record q { s.draw with pair.flagged := s.pair.flagged ++ [q] }

/-- A check that would enable GOVERNOR reads the regulator's VOUT_MODE (R70, R71). -/
def readsMode (o : CheckOf) (m : CheckMeas) (s : State) : State :=
  match o, m.voutMode with
  | .subsys v, some w => if v.testBit 10 && !s.enabled 10 then Ops.pmbus 0x20 false w.toNat s else s
  | _, _ => s

/-- CONSISTENCY_CHECK_END (R128, R135): its result is entered at the next boundary.
Log: 35 (DEDUCED, unsafe), 94 (DESIGN CHOICE, safe). -/
def checkEnd (m : CheckMeas) (s : State) : State :=
  match s.chk.running with
  | none => s
  | some o =>
    let t := readsMode o m { s with chk.running := none, chk.result := some (judge o m s) }
    if m.standbyDiffers then standbyFault t else t

/-- The check of a write that changes no bit has ended by the boundary after its application frame (R130). -/
def endIdle (s : State) : State :=
  match s.chk.running with
  | some o =>
    if changesNothing o s then { s with chk.running := none, chk.result := some (accepted o s.tm.gov.expo) } else s
  | none => s

/-- One subsystem takes effect. Log: 106 (DESIGN CHOICE, unsafe). -/
def enable (b : Nat) (expo : Int) (s : State) : State :=
  match b with
  | 0 => AxisIo.latchShown (Mot.enable s)
  | 1 => Loop.enable s
  | 2 => Adc.enable s
  | 4 => Prog.enable s
  | 6 => Net.enable s
  | 7 => Safe.restart s
  | 8 => Out.valveEnable s
  | 9 => Out.pwmEnable s
  | 10 => Ops.govWrite s.tm.lp { s with tm.gov := { s.tm.gov with
      enabled := true, expo := expo, fault := false, settling := false, retries := 0, quiet := 0, atMaxRun := 0, atMax := false
      minSlack := 32767 } }
  | _ => s

/-- One subsystem stops (R134). -/
def disable (b : Nat) (s : State) : State :=
  match b with
  | 1 => Loop.stop s
  | 2 => Adc.disable s
  | 3 => AcqOps.disable s
  | 4 => Prog.stopAll s
  | 5 => Seq.stopAll s
  | 6 => Net.disable s
  | 7 => Safe.restart s
  | 8 => Out.valveEnable s
  | 9 => Out.pwmEnable s
  | 10 => { s with tm.gov := { s.tm.gov with enabled := false, settling := false } }
  | 11 => { s with tm.ppsLocked := false, tm.ppsOut := false }
  | _ => s

/-- The accepted enable bits take effect together (R129). -/
def setEnable (v : Nat) (expo : Int) (s : State) : State :=
  let old := s.chk.enable
  let s1 := (List.range 12).foldl (fun s b => if old.testBit b && !v.testBit b then disable b s else s) s
  (List.range 12).foldl (fun s b => if v.testBit b && !old.testBit b then enable b expo s else s) { s1 with chk.enable := v }

/-- What an accepted check lets take effect. -/
def apply (r : CheckResult) (s : State) : State :=
  match r.of with
  | .subsys v => setEnable v r.expo (Ops.giveWork s)
  | .redundancy v => { s with pair.redundancyCfg := BitVec.ofNat 32 (v &&& 0x000F9F01) }
  | .register off v => setRegister off v (Ops.giveWork s)

/-- CHECK_STATUS (Table 3-14). -/
def statusReg (s : State) : Nat :=
  s.chk.reason + s.chk.subsys * 2 ^ 8 + s.chk.dir * 2 ^ 16 + s.chk.seq * 2 ^ 24

/-- The result of a check that has ended is entered at a boundary (R129 to R131). -/
def enter (s : State) : State :=
  match s.chk.result with
  | none => s
  | some r =>
    let s1 : State := { s with
      hbd.checkDone := some s.tm.frame
      chk := { s.chk with
        result := none, reason := r.reason, subsys := r.subsys, dir := r.dir, loc := r.loc, seq := (s.chk.seq + 1) % 256 } }
    if r.reason = 0 then (if changesNothing r.of s then s1 else apply r s1)
    else Ops.raise Event.checkRefused (mkSrc 1 7 0) (statusReg s1) r.loc s1

end Sys2Proof.Machine.Checks
end

