-- ==== Sys2Proof/Machine/Pier.lean ====
section
/-!
DEFINITION. The Pier stars: slot enforcement, startup forwarding, port delay and port state (R413 to R416, R427 to R438,
R453).
-/

namespace Sys2Proof.Machine.Pier

/-- One of the two Piers. -/
def pier (s : State) (b : Bool) : NetPier := if b then s.net.pierB else s.net.pierA

/-- Replaces a Pier. -/
def setPier (b : Bool) (p : NetPier) (s : State) : State := if b then { s with net.pierB := p } else { s with net.pierA := p }

/-- One port. -/
def port (s : State) (b : Bool) (n : Nat) : NetPort := Tab.get (pier s b).ports n

/-- Replaces a port. -/
def setPort (b : Bool) (n : Nat) (x : NetPort) (s : State) : State :=
  let p := pier s b
  setPier b { p with ports := Tab.set p.ports n x } s

/-- The event source of a port. -/
def src (b : Bool) (n : Nat) : Nat := mkSrc 3 (if b then 5 else 4) n

/-- Counts an event of a Pier. -/
def count (b : Bool) (sel : Nat) (s : State) : State := Ops.countDie 3 (if b then 5 else 4) sel 1 s

/-- The neighbour the topology places at an external port: the child named there; on a port no child names, the parent, until
its probes have shown another port to be the uplink (R414, R415). Log: 62 (DEDUCED, unsafe). -/
def neighbour (s : State) (b : Bool) (n : Nat) : Option Nat :=
  match Net.childAt s n with
  | some c => some c
  | none =>
    match (pier s b).uplink with
    | some u => if u = n then Net.parent s else none
    | none => Net.parent s

/-- Whether a port is the uplink. -/
def isUplink (s : State) (b : Bool) (n : Nat) : Bool := decide ((pier s b).uplink = some n)

/-- Whether a port is configured (R415). -/
def configured (s : State) (b : Bool) (n : Nat) : Bool := decide (n = 8) || (Net.childAt s n).isSome || isUplink s b n

/-- Whether a port carries traffic: admitted, or the internal one (R435). -/
def isUp (s : State) (b : Bool) (n : Nat) : Bool := Net.isUp (pier s b) n

/-- Ports a transmission leaves on, bit by port: configured, up, not held off by a fault (R31), and, unless `back`, not
the one
it arrived on. -/
def outs (s : State) (b : Bool) (from_ : Nat) (back : Bool) : Nat :=
  (List.range 9).foldl (fun w n =>
    if configured s b n && isUp s b n && (back || decide (n ≠ from_)) && !s.fidDown (if b then 5 else 4) n then w + 2 ^ n else w) 0

/-- Whether a port owns a slot (R429). -/
def portOwns (s : State) (b : Bool) (n : Nat) (mini : Bool) (k : Nat) : Bool :=
  match Net.owner s mini k with
  | none => false
  | some o =>
    if n = 8 then decide (o = s.nodeId)
    else if isUplink s b n then !Net.inSubtree s s.nodeId o
    else
      match Net.childAt s n with
      | some c => Net.inSubtree s c o
      | none => false

/-- Reference time of an instant in 1/256 ns (R427). -/
def refTime (s : State) (t : Instant) : Int := (Time.edge s.tm t : Int) + (if Net.isRef s then 0 else s.net.thLast)

/-- The slot start nearest to an instant among those a test admits, in the cycles around it: slot, and the distance from its
start. Log: 63 (DEDUCED, unsafe). -/
def nearest (s : State) (mini : Bool) (ok : Nat → Bool) (t : Int) : Option (Nat × Int) :=
  let g := s.net.sys
  let len : Int := Net.cyc s * frame256
  let base : Int := Net.cycleStart s * frame256
  let cands := ((List.range (if mini then g.nm else g.ns)).filter ok).flatMap fun k =>
    ([-1, 0, 1] : List Int).map fun i => (k, t - (base + i * len + Net.slotOfs g mini k * 256))
  cands.foldl (fun best q =>
    match best with
    | none => some q
    | some r => if q.2.natAbs < r.2.natAbs then some q else some r) none

/-- Residence of a transmission that arrives at a phase: it leaves at the first lattice point 400 ns or more later (R415),
1/256 ns. -/
def residence (t : Instant) : Nat := if t.ph.val = 0 then 400 * 256 else 400 * 256 + 640 - 80 * t.ph.val

/-- Forwards a transmission, to be cut at `cutAt` where it runs past the end of its slot (R430). -/
def forward (b : Bool) (n outs corr : Nat) (cutAt : Option Int) (t : Instant) (s : State) : State :=
  let x := port s b n
  let d := if n = 8 then 0 else x.dp
  let c := Bits.fitU 16 (corr + (Bits.roundDiv (4 * (d + residence t : Nat)) 256).toNat)
  count b 16 (setPort b n { x with
    forwarded := (x.forwarded + 1) % 2 ^ 32, fwd := some { outs := outs, corr := c, ncorr := 65535 - c, cutAt := cutAt } } s)

/-- A window violation (R431, R432, R433). -/
def violation (b : Bool) (n : Nat) (off : Int) (s : State) : State :=
  let x := port s b n
  let ns := Bits.sat 32 (off.tdiv 256)
  let s1 := Ops.raiseLimitedWithMid (Event.netWindowViol b) (src b n) (n + Bits.b2n b * 2 ^ 8) (Ops.p32 ns)
    (count b 17 { setPort b n { x with violTotal := Bits.satInc 16 x.violTotal } s with net.flags := Bits.setBit s.net.flags 0 true })
  let y := port s1 b n
  if y.isolated then s1
  else if y.viols < 2 then setPort b n { y with viols := y.viols + 1 } s1
  else
    let s2 := Ops.raiseMid (Event.netPortIsolated b) (src b n) (n + Bits.b2n b * 2 ^ 8) 0
      { setPort b n { y with viols := 0, isolated := true } s1 with net.flags := Bits.setBit s1.net.flags 1 true }
    if n = 8 then Net.leave s2 else s2

/-- A start in scheduled mode (R428 to R432). -/
def judge (b : Bool) (n : Nat) (h : Bytes) (t : Instant) (s : State) : State :=
  let g := s.net.sys
  let x := port s b n
  let corr := if n = 8 then 0 else Bits.leAt h 28 2
  let typ := Bits.leAt h 0 1 % 16
  let dyn := decide (typ = 2)
  let len := Bits.leAt h 8 2
  let startup := (Bits.leAt h 0 1).testBit 5
  let dst : Int := refTime s t - 64 * corr - (if n = 8 then 0 else x.dp : Nat)
  let seen := match nearest s false (fun _ => true) dst with
    | some q => if dyn then none else some (q.1 * 16 + n)
    | none => none
  let p := pier s b
  let s0 := match seen with
    | some k => setPier b { p with starts := p.starts ++ [k] } s
    | none => s
  let guard : Int := g.guard * 256
  let hit := nearest s dyn (portOwns s b n dyn) dst
  let accepted := match hit with
    | some q => decide ((q.2.natAbs : Int) ≤ guard) && !(dyn && Net.occupied p.occ q.1)
    | none => false
  if Bits.leAt h 28 2 ^^^ Bits.leAt h 30 2 ≠ 0xFFFF then setPort b n { x with headerErr := Bits.satInc 16 x.headerErr } s0
  else
    match hit with
    | some q =>
      if !accepted then violation b n q.2 s0
      else
        let dur := 8 * (39 + len) * 256
        let q' := Net.minislots g len
        let room := if dyn then min (q' * g.miniNs) ((g.nm - q.1) * g.miniNs) * 256 else g.slotNs * 256
        let cutAt := if (room : Int) < q.2 + dur then some (refTime s t + room - q.2) else none
        let mark (s : State) : State :=
          let p := pier s b
          setPier b { p with accepted := if dyn then p.accepted else p.accepted ++ [q.1 * 16 + n]
                             occ := if dyn then p.occ ++ [(q.1, q')] else p.occ } s
        let y := port s0 b n
        if y.isolated then
          if startup then
            forward b n (outs s b n false) corr cutAt t (mark (Ops.raiseMid (Event.netPortReleased b) (src b n) n 0
              (setPort b n { y with isolated := false, viols := 0 } s0)))
          else s0
        else forward b n (outs s b n false) corr cutAt t (mark (setPort b n { y with viols := 0 } s0))
    | none =>
      let off := match nearest s dyn (fun _ => true) dst with
        | some q => q.2
        | none => 0
      violation b n off s0

/-- A start in startup mode (R438): no window is judged. -/
def startup (b : Bool) (n : Nat) (h : Bytes) (t : Instant) (s : State) : State :=
  let typ := Bits.leAt h 0 1 % 16
  let status := Bits.leAt h 1 1
  let source := Bits.leAt h 4 2
  let corr := if n = 8 then 0 else Bits.leAt h 28 2
  let root := (Net.parent s).isNone
  let ta := s.tm.controlAt t
  let p := pier s b
  let up := if root then outs s b n true else
    match p.uplink with
    | some u => if isUp s b u then 2 ^ u else 0
    | none => 0
  let take (fresh : Bool) (s : State) : State :=
    let p := pier s b
    forward b n up corr none t (setPier b { p with lock := some { source := source, time := ta, port := n, fresh := fresh } } s)
  -- an isolated port forwards only what a scheduled Pier accepts with STARTUP set (R432)
  if (port s b n).isolated then s
  else if isUplink s b n then forward b n (outs s b n false) corr none t s
  else if status.testBit 0 then forward b n (outs s b n false) corr none t s
  else if typ ≠ 3 then s
  else
    match p.lock with
    | none => take true s
    | some l =>
      if l.time + 2 * Net.cyc s * frame256 ≤ ta then take true s
      else if l.source = source then take false s
      else if l.fresh ∧ ta ≤ l.time + 640 ∧ n < l.port then
        -- the lower port wins: what the other port had begun to send is dropped
        take true (setPort b l.port { port s b l.port with fwd := none } s)
      else s

/-- PIER_START_DELIMITER (R146, R428, R435, R438): every port counts what it receives; a Pier in quarantine and a port
that is
down forward nothing. -/
def startDelimiter (b : Bool) (n : Nat) (h : Bytes) (t : Instant) (s0 : State) : State :=
  let typ := Bits.leAt h 0 1 % 16
  let x := port s0 b n
  let s := setPort b n { x with received := (x.received + 1) % 2 ^ 32 } s0
  if !isUp s b n || decide (typ = 5) || decide (typ = 6) then s
  else
    match (pier s b).mode with
    | 1 => startup b n h t s
    | 2 => judge b n h t s
    | _ => s

/-- SLOT_END_CUT (R430): a transmission that runs past the end of its slot is cut there. -/
def slotEndCut (b : Bool) (n : Nat) (t : Instant) (s : State) : State :=
  let x := port s b n
  match x.fwd with
  | some f =>
    if (f.cutAt.any fun c => decide (c ≤ refTime s t)) && !f.cut then
      count b 18 (setPort b n { x with fwd := some { f with cut := true } } s)
    else s
  | none => s

/-- COLDSTART_LOCK_RELEASE (R438): no COLDSTART of the lock's source for 2 × C frames. -/
def lockRelease (b : Bool) (t : Instant) (s : State) : State :=
  let p := pier s b
  match p.lock with
  | some l =>
    if l.time + 2 * Net.cyc s * frame256 ≤ s.tm.controlAt t then setPier b { p with lock := none } s else s
  | none => s

/-- Whether the probes of a port run: an external port that the configuration uses, out of quarantine. -/
def probes (s : State) (b : Bool) (n : Nat) : Bool := decide ((pier s b).mode ≠ 0) && (neighbour s b n).isSome

/-- Start of the expansion gap of the present cycle as control time, 1/256 ns (R420). -/
def gapStart (s : State) : Int :=
  ((Net.cycleStart s * frame256 + Net.slotOfs s.net.sys true s.net.sys.nm * 256 : Nat) : Int) - s.tm.steps

/-- Whether a port's next PROBE_REQ is due: at the start of the expansion gap of every cycle while its Pier is in
scheduled mode,
every 100 µs otherwise (R434). -/
def probeDue (s : State) (b : Bool) (n : Nat) (at_ : Int) : Bool :=
  match (port s b n).lastReq with
  | none => (pier s b).mode != 2 || decide (gapStart s ≤ at_)
  | some l =>
    if (pier s b).mode = 2 then decide (l < gapStart s) && decide (gapStart s ≤ at_) else decide (l + 100000 * 256 ≤ at_)

/-- PROBE_REQ (R434): one that finds the one before it unanswered counts it. Log: 62 (DEDUCED, unsafe). -/
def probeReq (b : Bool) (n : Nat) (t : Instant) (s : State) : State :=
  let at_ := s.tm.controlAt t
  if !probes s b n || !probeDue s b n at_ then s
  else
    let x := port s b n
    count b 19 (setPort b n { x with
      req := some at_, lastReq := some at_, unanswered := if x.req.isSome then x.unanswered + 1 else x.unanswered
      probeTx := Net.frame s 5 0xFFFF 0 0 (Net.isRef s) b [] } s)

/-- The SOURCE of a probe: it shows the uplink; a wrong one keeps the port down on both channels (R435). -/
def checkSource (b : Bool) (n source : Nat) (s : State) : State :=
  match neighbour s b n with
  | none => s
  | some want =>
    if source = want then
      let p := pier s b
      let s1 := if (Net.childAt s n).isNone ∧ p.uplink = none then setPier b { p with uplink := some n } s else s
      setPort b n { port s1 b n with mismatch := false } s1
    else
      let down (b : Bool) (s : State) : State := setPort b n { port s b n with admitted := false, fwd := none } s
      let s1 := down (!b) (down b s)
      let x := port s1 b n
      if x.mismatch then s1
      else Ops.raiseMid (Event.netCableMismatch b) (src b n) n 0 (setPort b n { x with mismatch := true } s1)

/-- PROBE_REQ_RX (R434): the answer leaves at the first lattice point 800 ns or more after the request; TURN is the actual
interval. Log: 62 (DEDUCED, unsafe). -/
def probeReqRx (b : Bool) (n source : Nat) (t : Instant) (s : State) : State :=
  if !probes s b n then s
  else
    let s1 := checkSource b n source s
    let turn := residence t + 400 * 256
    setPort b n { port s1 b n with
      turn := turn, probeTx := Net.frame s 6 0xFFFF 0 0 (Net.isRef s) b (Bits.toLe 4 turn ++ Bits.toLe 4 0) } s1

/-- PROBE_RSP (R434, R435): one measurement, and the port's admission. -/
def probeRsp (b : Bool) (n source turn : Nat) (t : Instant) (s : State) : State :=
  if !probes s b n then s
  else
    let s1 := checkSource b n source s
    let x := port s1 b n
    match x.req with
    | none => s1
    | some d =>
      let m2 : Int := s.tm.controlAt t - d - turn
      let y := { x with req := none, unanswered := 0 }
      if !x.meas.isEmpty && decide (2560 < (m2 - 2 * (x.dp : Int)).natAbs) then setPort b n y s1
      else
        let ms := (x.meas ++ [m2]).drop (x.meas.length - 15)
        let dp := (Bits.roundDiv ms.sum (2 * ms.length)).toNat
        let z := { y with meas := ms, dp := dp }
        let cable := s.net.sys.cable * 256
        let other := (port s1 (!b) n).mismatch
        let s2 := setPort b n z s1
        if z.admitted ∨ ms.length < 16 ∨ z.mismatch ∨ other then s2
        else if dp ≤ cable then Ops.raiseMid (Event.netPortUp b) (src b n) n 0 (setPort b n { z with admitted := true } s2)
        else if x.meas.length < 16 then Ops.raiseMid (Event.netPortDelay b) (src b n) n 0 s2
        else s2

/-- NET_PORT_DOWN (R435): four unanswered probes in succession, or what the receiver tells; the transmission being
forwarded is
cut. -/
def portDown (b : Bool) (n : Nat) (cause : PortDown) (s : State) : State :=
  let x := port s b n
  if !x.admitted || (decide (cause = .probesUnanswered) && decide (x.unanswered < 4)) then s
  else
    let errs := if cause = .codeErrors then Bits.satAdd 16 x.codeErr 16 else x.codeErr
    Ops.raiseMid (Event.netPortDown b) (src b n) n 0
      { setPort b n { x with admitted := false, meas := [], req := none, unanswered := 0, codeErr := errs
                             fwd := x.fwd.map fun f => { f with cut := true } } s with net.flags := Bits.setBit s.net.flags 2 true }

/-- NET_PORT_STATUS (R453): as of the last cycle boundary. Log: 48 (DEDUCED, unsafe). -/
def portStatus (c : Cmd) (s : State) : Reply :=
  let b := decide (locRegion c.locN = 5)
  if !s.enabled 6 then .refuse 0x50 else .done s (Tab.get s.net.portsShown (c.unit + 16 * Bits.b2n b))

/-- NET_PORTS (Table 12-15): ports admitted; the internal one is once its Pier is out of quarantine. -/
def portsReg (s : State) : Nat :=
  let one (b : Bool) : Nat := (List.range 9).foldl (fun w n =>
    if (port s b n).admitted || (decide (n = 8) && decide ((pier s b).mode ≠ 0)) then w + 2 ^ n else w) 0
  one false + one true * 2 ^ 16

/-- NET_ISOLATED. -/
def isolatedReg (s : State) : Nat :=
  let one (b : Bool) : Nat := (List.range 9).foldl (fun w n => if (port s b n).isolated then w + 2 ^ n else w) 0
  one false + one true * 2 ^ 16

end Sys2Proof.Machine.Pier
end

