-- ==== Sys2Proof/Machine/Recorder.lean ====
section
/-!
DEFINITION. The event recorder, the performance counters and precise sampling (R575 to R599).
-/

namespace Sys2Proof.Machine.RecOps

/-! Committing records. -/

/-- Place of a record's source in the order of R582: control-die regions, then FID regions, then the unit. -/
def place_ (e : Ev) : Nat :=
  ((if Bits.field e.src 14 13 = 3 then 8 else 0) + Bits.field e.src 12 10) * 1024 + Bits.field e.src 9 0

/-- Inserts a record behind those of its place and before those of a later one. -/
def insert (e : Ev) : List Ev → List Ev
  | [] => [e]
  | x :: t => if place_ e < place_ x then e :: x :: t else x :: insert e t

/-- Records of one boundary in the order of R582. Log: 87 (DEDUCED, unsafe). -/
def order (l : List Ev) : List Ev := l.foldl (fun r e => insert e r) []

/-- Commits one record at the present boundary: its SEQ, the Deck ring of 8,192 records and its head word, the mirror
backlog, and what listens to events (R576 to R578, R581, R586, Table 8-7). -/
def commitOne (s : State) (e : Ev) : State :=
  let seq := s.log.seq % (2 ^ 32 - 1) + 1
  let t := s.tm.boundary
  let r : HRec := { seq := seq, sec := Time.secs t, ns := Time.nanos t, code := e.code, src := e.src, p0 := e.p0, p1 := e.p1 }
  let m := Mem.writeLe s.deck 0x01FA0000 4 seq
  let s1 := { s with log.seq := seq, deck := Mem.writeLe m (0x01FC0000 + 32 * (seq % 8192)) 32 (Ops.recBytes r) }
  let die := Bits.field e.src 14 13
  let region := Bits.field e.src 12 10
  let s2 := if die = 3 then Ops.countDie 3 region 7 1 s1 else Ops.count region 7 1 s1
  AcqOps.onEvent e.code s.tm.frame (Ops.mirrorPush r (Ops.count 7 20 1 s2))

/-- Commits the records raised at the present boundary, at most 512. Those of RESET and BOOT are held and committed
first, in the
order they arose, at the boundary at which BOOT ends (R108, R582). Log: 87 (DEDUCED, unsafe). -/
def commit (s : State) : State :=
  if !s.md.mode.afterBoot then
    { s with log := { s.log with held := s.log.held ++ s.log.raised, raised := [] } }
  else
    let mine := s.log.held ++ order (s.log.raised.filter fun e => !e.mid)
    (mine.take 512).foldl commitOne
      { s with log := { s.log with raised := s.log.raised.filter (·.mid), held := mine.drop 512 } }

/-- Records raised between the last two boundaries take the new one. Log: 87 (DEDUCED, unsafe). -/
def takeMid (s : State) : State :=
  { s with log.raised := s.log.raised.map fun e => { e with mid := false, stamp := s.tm.frame } }

/-! Precise sampling. -/

/-- Whether a sample's cycle counts as ended (R361). -/
def cycleOver (s : State) (x : Sample) : Bool :=
  match (Tab.get s.prog.tasks x.task).cyc with
  | none => true
  | some c => decide (c.num ≠ x.cycle) || c.done

/-- Order of samples entered at one boundary (R594). -/
def insertSample (x : Sample) : List Sample → List Sample
  | [] => [x]
  | y :: t => if x.frame < y.frame ∨ (x.frame = y.frame ∧ x.task < y.task) then x :: y :: t else y :: insertSample x t

/-- The first 28 bytes of a type 13 entry (Table 16-6). Log: 89 (DEDUCED, unsafe). -/
def sampleBytes (x : Sample) (lost : Nat) : Nat :=
  0xD000 + x.task + x.opcode * 2 ^ 16 + (Bits.b2n x.trapped + 2 * Bits.b2n (x.latA.isNone || x.latB.isNone)) * 2 ^ 24 +
    x.addr % 2 ^ 32 * 2 ^ 32 + x.cycle % 2 ^ 32 * 2 ^ 64 + x.frame % 2 ^ 64 * 2 ^ 96 +
    min (x.latA.getD 0) 65535 * 2 ^ 160 + min (x.latB.getD 0) 65535 * 2 ^ 176 + min lost 65535 * 2 ^ 192

/-- One sample enters the buffer of 256 entries in the Deck; one that it overwrites before its dump is lost (R594). -/
def enterSample (s : State) (x : Sample) : State :=
  let full := decide (256 ≤ s.log.buffer.length)
  let b := if full then s.log.buffer.drop 1 else s.log.buffer
  { s with
    log := { s.log with buffer := b ++ [x], entered := s.log.entered + 1 }
    deck := Mem.writeLe s.deck (0x01FA1000 + 32 * (s.log.entered % 256)) 32 (sampleBytes x 0) }

/-- Samples enter the buffer at the boundary at which their cycle counts as ended (R594). -/
def enterSamples (s : State) : State :=
  let beyond := s.log.sampled.filter fun q => cycleOver s q.2
  let sorted := beyond.foldl (fun l q => insertSample q.2 l) []
  sorted.foldl enterSample { s with log.sampled := s.log.sampled.filter fun q => !cycleOver s q.2 }

/-- The first sample of an engine without a latency of a die takes the one measured. Log: 89 (DEDUCED, unsafe). -/
def giveLatency (second : Bool) (e ns : Nat) : List (Nat × Sample) → List (Nat × Sample)
  | [] => []
  | q :: t =>
    let open_ := if second then q.2.latB.isNone else q.2.latA.isNone
    if decide (q.1 = e) && open_ then
      (q.1, if second then { q.2 with latB := some (min ns 65535) } else { q.2 with latA := some (min ns 65535) }) :: t
    else q :: giveLatency second e ns t

/-! Counters. -/

/-- Every region of a die that runs counts the frame (Table 16-4, SEL 1). -/
def countFrame (s : State) : State :=
  let one (die n : Nat) (s : State) : State := (List.range n).foldl (fun s r => Ops.countDie die r 1 1 s) s
  let s1 := (List.range 8).foldl (fun s r => Ops.count r 1 1 s) s
  one 3 6 (if s.pwr.hbdReady then one 0 6 s1 else s1)

/-- Counters of a region of a die as the boundary left them. -/
def counters (s : State) (die region : Nat) : Counters := Tab.get s.log.latched (die * 8 + region)

/-- A boundary has counted all that it counts; its messages, a COUNTER_SELECT among them, come after (R596). -/
def latch (s : State) : State := { s with log.latched := s.log.counters }

/-- DUMP_CAPTURE: every region captures its counters, once a boundary (R592). Log: 89 (DEDUCED, unsafe). -/
def capture (s : State) : State :=
  if !s.log.dumpEn || !s.tm.due (2 ^ s.log.dumpN) 0 || decide (s.log.captureFrame = s.tm.frame + 1) then s
  else
    let ctl := (List.range 8).map fun r => (8 + r, counters s 1 r, counters s 2 r)
    let fid := (List.range 6).map fun r => (24 + r, counters s 3 r, ({} : Counters))
    let hbd := (List.range 6).map fun r => (r, counters s 0 r, ({} : Counters))
    { s with log := { s.log with captured := ctl ++ fid ++ hbd, captureFrame := s.tm.frame + 1
                                 capturePeerAbsent := decide (s.pair.st ≠ 1), captureActive := s.pair.active } }

/-- Four counters of 6 bytes. -/
def four (c : Counters) (k : Nat) : Nat := ((List.range 4).map fun j => c.cnt.getD (k + j) 0 % 2 ^ 48 * 2 ^ (48 * j)).sum

/-- The two type 12 entries of one die's counters. -/
def dataEntries (key die : Nat) (c : Counters) : List Nat :=
  [0, 4].map fun k => 0xC000 + key + die * 2 ^ 16 + c.ovf % 256 * 2 ^ 24 + four c k * 2 ^ 32

/-- The entries of one block, SEQ apart (Table 16-5). -/
def block (s : State) (q : Nat × Counters × Counters) : List Nat :=
  let die := q.1 / 8
  let ctl := decide (die = 1)
  let absent := ctl && s.log.capturePeerAbsent
  let a := !absent || decide (s.log.captureActive = 1)
  let b := ctl && (!absent || decide (s.log.captureActive = 2))
  let head := 0xB000 + q.1 + Bits.b2n absent * 2 ^ 16 + (s.log.captureFrame - 1) % 2 ^ 64 * 2 ^ 32 +
    (if a then q.2.1.busy % 2 ^ 64 else 0) * 2 ^ 96 + (if b then q.2.2.busy % 2 ^ 64 else 0) * 2 ^ 160
  head :: ((if a then dataEntries q.1 die q.2.1 else []) ++ (if b then dataEntries q.1 2 q.2.2 else []))

/-- The HBD hands over one entry of its own dump (R592). -/
def hdump (s : State) (body : Nat) : State :=
  let ring := s.hbd.hdumpCfg % 32
  let seq := Tab.get s.hbd.hdumpSeq ring
  { s with hbd := { s.hbd with
    hdumps := s.hbd.hdumps ++ [(body, seq)], hdumpSeq := Tab.set s.hbd.hdumpSeq ring ((seq + 1) % 2 ^ 32) } }

/-- The entries added to the sample buffer since the last dump follow the blocks (R594). -/
def dumpSamples (s : State) : State :=
  let n := min (s.log.entered - s.log.dumped) s.log.buffer.length
  let xs := s.log.buffer.drop (s.log.buffer.length - n)
  let lost := s.log.entered - s.log.dumped - n
  let bodies := xs.zipIdx.map fun q => sampleBytes q.1 (if q.2 = 0 then lost else 0)
  bodies.foldl (fun s b => Ops.streamPush s.log.dumpRing b s)
    (if n = 0 then s else { s with log.dumped := s.log.entered })

/-- The blocks captured at the last boundary are handed over (R592). -/
def handOver (s : State) : State :=
  if s.log.captured.isEmpty || decide (s.log.captureFrame = s.tm.frame + 1) then s
  else
    let field := s.log.captured.filter fun q => decide (8 ≤ q.1)
    let own := s.log.captured.filter fun q => decide (q.1 < 8)
    let s1 := field.foldl (fun s q => (block s q).foldl (fun s b => Ops.streamPush s.log.dumpRing b s) s) s
    let s2 := if s.hbd.hdumpCfg.testBit 7 && s.pwr.hbdReady then
        own.foldl (fun s q => (block s q).foldl hdump s) s1
      else s1
    { dumpSamples s2 with log.captured := [] }

/-- COUNTER_DUMP: one message of counter blocks, and what the HBD has of its own (R592). -/
def counterDump (s : State) : State :=
  let s1 := if s.hbd.mayWrite && s.hbd.isStream (s.hbd.hdumpCfg % 32) then Ops.writeHdumps s else s
  Ops.streamMsg s1.log.dumpRing s1

/-! Commands. -/

/-- Greatest SEL of a region (Table 16-4). -/
def selMax (die region : Nat) : Nat :=
  let t : List Nat := if die = 0 then [18, 18, 18, 17, 18, 17]
    else if die = 3 then [18, 18, 17, 17, 19, 19] else [19, 20, 19, 20, 22, 20, 18, 21]
  t.getD region 0

/-- Whether Table 16-4 gives a SEL for a region. -/
def selOk (die region sel : Nat) : Bool := decide (sel ≤ 7) || (decide (16 ≤ sel) && decide (sel ≤ selMax die region))

/-- COUNTER_SELECT names a region at unit index 0: of the pair, of the FID or of the HBD (Table 16-8).
Log: 48 (DEDUCED, unsafe). -/
def namesRegion (c : Cmd) (node : Nat) : Bool :=
  let l := c.locN
  let unit0 := decide (locUnit l = 0)
  if locDie l = 0 ∨ locDie l = 3 then c.namesDie node (locDie l) (locRegion l) fun _ => unit0
  else c.namesPair node (locRegion l) fun _ => unit0

/-- The new selection and clears of one region's counters (R597). -/
def reselect (sels : List Nat) (clr : Nat) (k : Counters) : Counters :=
  let drop_ (j : Nat) : Bool := decide (sels.getD j 0 ≠ k.sel.getD j 0) || clr.testBit j
  { k with sel := sels, cnt := (List.range 8).map fun j => if drop_ j then 0 else k.cnt.getD j 0
           ovf := ((List.range 8).map fun j => if k.ovf.testBit j && !drop_ j then 2 ^ j else 0).sum }

/-- COUNTER_SELECT (R597). Log: 89 (DEDUCED, unsafe). -/
def counterSelect (c : Cmd) (s : State) : Reply :=
  let die := locDie c.locN
  let region := locRegion c.locN
  let sels := (List.range 8).map fun j => Arg.u c (2 * j) 2
  if !sels.all (selOk die region) then .refuse 0xA7
  else
    let dies := if die = 1 then [1, 2] else [die]
    let f := reselect sels (Arg.u c 16 1)
    .done { s with log.counters := dies.foldl (fun t d => Tab.modify t (d * 8 + region) f) s.log.counters } 0

/-- COUNTER_DUMP_CFG (R592, R597). -/
def counterDumpCfg (c : Cmd) (s : State) : Reply :=
  let en := Arg.u c 0 1
  let n := Arg.u c 1 1
  let ring := Arg.u c 2 1
  if 1 < en ∨ n < 6 ∨ 16 < n ∨ 31 < ring then .refuse 0xA7
  else if !s.hbd.isStream ring then .refuse 0xA8
  else .done { s with log := { s.log with dumpEn := decide (en = 1), dumpN := n, dumpRing := ring } } 0

/-- PRECISE_CFG (R593, R597). -/
def preciseCfg (c : Cmd) (s : State) : Reply :=
  let en := Arg.u c 0 1
  let t := Arg.u c 2 2
  let p := Arg.u c 4 2
  if 1 < en ∨ (1023 < t ∧ t ≠ 0xFFFF) ∨ p = 0 then .refuse 0xA7
  else
    .done { s with log := { s.log with sampleEn := decide (en = 1), sampleTask := t, samplePeriod := p, sampleOps := [] } } 0

/-- MIRROR_STATUS (Table 16-11). -/
def mirrorStatus (s : State) : Nat := Bits.b2n s.hbd.gap + 2 * Bits.b2n s.hbd.hGap + s.hbd.epoch % 256 * 2 ^ 8

/-! Reading a ring. -/

/-- The distance of two sequence numbers, which leaves out the unused value 0 (R589). -/
def seqDist (a b : Nat) : Nat := (a + 2 ^ 32 - b) % 2 ^ 32 - Bits.b2n (decide (a < b))

/-- The records a reader keeps of its copy of a ring of `n` records, each the number its 32 bytes spell: `h0` and `h1`
are the
head word before and after the copy, `e0` and `e1` EPOCH of the mirror's field ring; a new epoch makes it start again
(R589). -/
def snapshot (n e0 e1 h0 h1 : Nat) (slots : List Nat) : Option (List Nat) :=
  if e0 ≠ e1 then none
  else some (slots.filter fun r =>
    let seq := r % 2 ^ 32
    decide (r / 2 ^ 224 % 2 ^ 32 = seq ^^^ 0x5A5A5A5A) && decide (seqDist h0 seq < n) && decide (seqDist h1 seq < n))

end Sys2Proof.Machine.RecOps
end

