-- ==== Sys2Proof/Machine/Trust.lean ====
section
/-!
DEFINITION. Trust and identity (R600 to R613): the image checks, the committed versions, the customer key, attestation and
the debug scopes.
-/

namespace Sys2Proof.Machine.Trusted

/-- A vendor public key (Table 17-1). -/
def vendorKey (k : Nat) : Bytes := (List.range 32).map fun i => Config.vendorKey k i

/-- The private seed of the identity key pair. -/
def seed : Bytes := (List.range 32).map fun i => Config.identitySeed i

/-- The identity public key. -/
def identity : Bytes := Crypto.edPublic seed

/-- SERIAL as 8 bytes. -/
def serial : Bytes := Bits.toLe 8 Config.serial.toNat

/-- GRADE. -/
def grade : Nat := Bits.b2n Config.grade

/-- CUSTOMER_KEY as 32 bytes. -/
def customerKey (t : Trust) : Bytes := Bits.toLe 32 t.customer

/-- The fused SVN of an image kind. -/
def fusedSvn (t : Trust) (kind : Nat) : Nat := if kind = 1 then t.svn1 else if kind = 2 then t.svn2 else t.svn3

/-- H: the SHA-512 digest of header bytes 0 to 127. -/
def imageH (g : Image) : Bytes := Crypto.sha512 (Bits.slice g.header 0 128)

/-- Check 1: the header is well formed for its kind. Log: 90 (DEDUCED, unsafe). -/
def headerOk (kind : Nat) (g : Image) : Bool :=
  let h (o n : Nat) := Bits.leAt g.header o n
  decide (g.header.length = 256) && decide (h 0 4 = 0x4D49464E) && decide (h 4 2 = 1) && decide (h 6 1 = kind) &&
    decide (h 7 1 < 4) && decide (h 8 1 < 64) && !(h 9 1).testBit (h 7 1) && decide (h 10 2 = 0) &&
    decide (h 12 4 % 64 = 0) && decide (64 ≤ h 12 4) && decide (h 12 4 ≤ 16777216) && decide (h 16 4 < 2) &&
    decide (h 20 12 = 0)

/-- The result code of an image under Table 17-3. -/
def check (t : Trust) (kind : Nat) (g : Image) : Nat :=
  let key := Bits.leAt g.header 7 1
  let h := imageH g
  let sig := Bits.slice g.header 128 64
  if !headerOk kind g then 3
  else if t.revoked.testBit key then 8
  else if !Crypto.edVerify (vendorKey key) h sig then 5
  else if decide (t.customer ≠ 0) && !((Bits.leAt g.header 16 1).testBit 0 &&
      Crypto.edVerify (customerKey t) (h ++ sig) (Bits.slice g.header 192 64)) then 6
  else if Bits.leAt g.header 8 1 < fusedSvn t kind then 7
  else if !(decide (g.body.length = Bits.leAt g.header 12 4) && decide (Crypto.sha512 g.body = Bits.slice g.header 32 64))
    then 4
  else 1

/-- The first image of a kind that passes, with its directory entry, or the result of the last entry tried (R602). -/
def choose (t : Trust) (kind : Nat) (flash : List FlashEntry) : Nat × Nat × Option Image :=
  let mine := flash.zipIdx.filter fun q => decide (q.1.kind = kind) && decide (q.2 < 16)
  match mine.find? fun q => decide (check t kind q.1.image = 1) with
  | some q => (1, q.2, some q.1.image)
  | none =>
    match mine.getLast? with
    | some q => (check t kind q.1.image, q.2, none)
    | none => (2, 0, none)

/-- SVN and REVOKE of an image. -/
def verOf (g : Image) : Nat × Nat := (Bits.leAt g.header 8 1, Bits.leAt g.header 9 1 % 16)

/-- The HBD verifies the images of all three kinds at its start (R602): results, entries, and each H. -/
def load (flash : List FlashEntry) (s : State) : State :=
  let t := s.trust
  let a := choose t 1 flash
  let b := choose t 2 flash
  let c := choose t 3 flash
  let hOf (g : Option Image) : Nat := match g with
    | some i => Bits.ofLe (imageH i)
    | none => 0
  let vOf (g : Option Image) : Nat × Nat := match g with
    | some i => verOf i
    | none => (0, 0)
  if a.1 ≠ 1 then { s with trust.res1 := a.1 }
  else
    { s with
      trust.res1 := 1, trust.res2 := b.1, trust.res3 := c.1, trust.entry2 := b.2.1, trust.entry3 := c.2.1
      trust.h1 := hOf a.2.2, trust.h2 := hOf b.2.2, trust.h3 := hOf c.2.2
      trust.run1 := vOf a.2.2, trust.run2 := vOf b.2.2, trust.run3 := vOf c.2.2
      pwr.hbdReady := true }

/-! Commands. -/

/-- A host address that is a multiple of 64. -/
def addrOk (c : Cmd) : Bool := decide (Arg.u c 0 8 % 64 = 0)

/-- TRUST_SVN_COMMIT (R605). -/
def svnCommit (s : State) : Reply :=
  if s.pair.st ≠ 1 then .refuse 0x92
  else
    let t := s.trust
    let a := max t.svn1 t.run1.1
    let b := max t.svn2 t.run2.1
    let d := max t.svn3 t.run3.1
    let r := t.revoked ||| t.run1.2 ||| t.run2.2 ||| t.run3.2
    .done { s with trust := { t with svn1 := a, svn2 := b, svn3 := d, revoked := r } }
      (a + b * 2 ^ 8 + d * 2 ^ 16 + r * 2 ^ 24)

/-- TRUST_PROVISION with the record fetched from the host, `none` when the fetch failed (R606). -/
def provision (c : Cmd) (load : Option Bytes) (s : State) : Reply :=
  if !addrOk c then .refuse 0x91
  else if s.trust.customer ≠ 0 then .refuse 0x93
  else
    match load with
    | none => .ends s .busError 0
    | some bs =>
      let key := Bits.slice bs 0 32
      if Crypto.edVerify key (Crypto.sha512 (identity ++ serial ++ key)) (Bits.slice bs 32 64) then
        .done { s with trust.customer := Bits.ofLe key } 0
      else .refuse 0x94

/-- The stored safety configuration's 7,344 bytes (R514). -/
def safetyBytes (s : State) : Bytes := (List.range 153).flatMap fun i => Bits.toLe 48 (Tab.get s.saf.store.cfg i)

/-- Bytes 0 to 319 of the measurement report (Table 17-4). -/
def reportBody (c : Cmd) (s : State) : Bytes :=
  let t := s.trust
  let st := Bits.b2n (decide (t.customer ≠ 0)) + 2 * Bits.b2n t.hbdScope + 4 * Bits.b2n t.fieldScope +
    8 * Bits.b2n (decide (s.pair.st = 1))
  Bits.toLe 4 0x5241464E ++ Bits.toLe 2 1 ++ Bits.toLe 1 grade ++ Bits.toLe 1 st ++ serial ++ Bits.toLe 8 s.tm.frame ++
    Arg.bytes c 8 32 ++ Bits.toLe 1 t.svn1 ++ Bits.toLe 1 t.svn2 ++ Bits.toLe 1 t.svn3 ++ Bits.toLe 1 t.revoked ++
    Bits.toLe 4 (if s.saf.store.accepted then Safe.crc s.saf.store.cfg else 0) ++ Bits.toLe 64 t.h1 ++ Bits.toLe 64 t.h2 ++
    Bits.toLe 64 t.h3 ++ Crypto.sha512 (safetyBytes s)

/-- ATTEST (R608). -/
def attest (c : Cmd) (s : State) : Reply :=
  if !addrOk c then .refuse 0x91
  else
    let b := reportBody c s
    .done (Ops.hostWrite (Arg.u c 0 8) (b ++ Crypto.edSign seed (Crypto.sha512 b)) s) (s.tm.frame % 2 ^ 64)

/-- The identity certificate (R607). -/
def certificate : Bytes :=
  identity ++ serial ++ Bits.toLe 1 grade ++ Bits.toLe 23 0 ++ (List.range 64).map fun i => Config.certSignature i

/-- IDENTITY_CERT (R607). -/
def cert (c : Cmd) (s : State) : Reply :=
  if !addrOk c then .refuse 0x91 else .done (Ops.hostWrite (Arg.u c 0 8) certificate s) 0

/-- DEBUG_CHALLENGE (R609): a true random challenge, a free value. -/
def debugChallenge (s : State) : Reply :=
  let ch := Bits.ofLe ((List.range 16).map fun i => Config.challenge s.trust.draws i)
  .done { s with trust.challenge := some ch, trust.draws := s.trust.draws + 1
                 trust.challengeUntil := s.tm.control + 60 * (sec256 : Int) } ch

/-- DEBUG_CHALLENGE_EXPIRY: 60 s have passed (R609). -/
def challengeExpiry (t : Instant) (s : State) : State :=
  if s.trust.challengeUntil ≤ s.tm.controlAt t then { s with trust.challenge := none } else s

/-- The challenge that is outstanding, while it is valid (R609). -/
def challengeNow (s : State) : Option Nat := if s.tm.control < s.trust.challengeUntil then s.trust.challenge else none

/-- Whether a debug token matches the outstanding challenge and verifies (R610). Log: 90 (DEDUCED, unsafe). -/
def tokenOk (t : Trust) (ch : Nat) (bs : Bytes) : Bool :=
  let d := Crypto.sha512 (Bits.slice bs 0 64)
  let life := Bits.leAt bs 28 4
  decide (Bits.leAt bs 0 16 = ch) && decide (Bits.slice bs 16 8 = serial) && decide (Bits.leAt bs 24 4 < 4) &&
    decide (1 ≤ life) && decide (life ≤ 86400) && decide (Bits.leAt bs 32 32 = 0) &&
    ((List.range 4).any fun k => !t.revoked.testBit k && Crypto.edVerify (vendorKey k) d (Bits.slice bs 64 64)) &&
    (decide (t.customer = 0) || Crypto.edVerify (customerKey t) d (Bits.slice bs 128 64))

/-- DEBUG_UNLOCK with the token fetched from the host (R610). -/
def debugUnlock (c : Cmd) (load : Option Bytes) (s : State) : Reply :=
  if !addrOk c then .refuse 0x91
  else
    match load with
    | none => .ends s .busError 0
    | some bs =>
      let scope := Bits.leAt bs 24 4
      if scope.testBit 1 && decide (s.md.mode ≠ .configure) then .wrongMode
      else
        match challengeNow s with
        | none => .refuse 0x95
        | some ch =>
          let s1 := { s with trust.challenge := none }
          if tokenOk s.trust ch bs then
            let till := s.tm.control + (Bits.leAt bs 28 4 : Nat) * (sec256 : Int)
            .done { s1 with
              trust.hbdScope := s.trust.hbdScope || scope.testBit 0
              trust.fieldScope := s.trust.fieldScope || scope.testBit 1
              trust.hbdUntil := if scope.testBit 0 then till else s.trust.hbdUntil
              trust.fieldUntil := if scope.testBit 1 then till else s.trust.fieldUntil } 0
          else .quiet (Ops.completeHbd (c.origin 0x0921) .refused 0x96 0 s1)

/-- TRUST_STATUS (Table 17-7). -/
def statusReg (s : State) : Nat :=
  let t := s.trust
  t.res1 + t.res2 * 2 ^ 4 + t.res3 * 2 ^ 8 + t.entry2 * 2 ^ 12 + t.entry3 * 2 ^ 16 +
    Bits.b2n (decide (t.customer ≠ 0)) * 2 ^ 20 + grade * 2 ^ 21 + Bits.b2n t.hbdScope * 2 ^ 22 +
    Bits.b2n t.fieldScope * 2 ^ 23 + t.revoked * 2 ^ 24

/-- SVN_FUSES (Table 17-8). -/
def svnReg (s : State) : Nat := s.trust.svn1 + s.trust.svn2 * 2 ^ 8 + s.trust.svn3 * 2 ^ 16

end Sys2Proof.Machine.Trusted
end

