-- ==== Sys2Proof/Machine/Regs.lean ====
section
/-!
DEFINITION. The register map of BAR0 (R614 to R621, Table 18-2): which offsets exist, and what a read of each returns.
-/

namespace Sys2Proof.Machine.Regs

/-! The map. -/

/-- What the physical function presents in its configuration space (Table 15-1, R530). -/
def pciIdentity : List (String × Nat) :=
  [("Vendor ID", 0x1F4E), ("Device ID", 0x6400), ("Subsystem vendor ID", 0x1F4E), ("Subsystem ID", 0x0001),
    ("Class code", 0x118000), ("BAR0 bytes", 0x10000), ("BAR2 bytes", 0x10000), ("MSI-X vectors", 64)]

/-- The 64-bit registers, by their offsets. -/
def is64 (o : Nat) : Bool :=
  decide (o = 0x0040) || (decide (0x0100 ≤ o) && decide (o < 0x0500) && decide (o % 16 = 0)) ||
    (decide (0x1000 ≤ o) && decide (o < 0x1200) && decide (o % 32 = 0)) || decide (o = 0x1200) || decide (o = 0x3008) ||
    decide (o = 0x3010)

/-- Whether an offset, a multiple of 4, lies in a register of the HBD window. -/
def hbdHas (o : Nat) : Bool :=
  [0x0000, 0x0004, 0x0008, 0x000C, 0x0010, 0x0014, 0x0020, 0x0030, 0x0034, 0x0038, 0x0040, 0x0044, 0x0048, 0x004C, 0x0050,
    0x0054, 0x1200, 0x1204, 0x1208].contains o ||
  (decide (0x0100 ≤ o) && decide (o < 0x0920)) || (decide (0x0F00 ≤ o) && decide (o < 0x0F18)) ||
  (decide (0x1000 ≤ o) && decide (o < 0x1200) && decide (o % 32 < 0x1C)) || (decide (0x2000 ≤ o) && decide (o < 0x2030)) ||
  (decide (0x3000 ≤ o) && decide (o < 0x3028) && decide (o ≠ 0x3004))

/-- The offsets of the field pair window. -/
def pairOffsets : List Nat :=
  [0x4000, 0x4004, 0x4008, 0x400C, 0x4040, 0x4044, 0x4048, 0x404C, 0x4050, 0x4054, 0x4058, 0x405C, 0x4060, 0x4064] ++
  [0x4100, 0x4104, 0x4108, 0x4140, 0x4144, 0x4148, 0x4180, 0x4184, 0x4188, 0x418C, 0x41C0, 0x41C4, 0x41C8] ++
  [0x4200, 0x4204, 0x4208, 0x4240, 0x4244, 0x4280, 0x4284, 0x4288, 0x428C, 0x4290, 0x4294, 0x4298] ++
  [0x42C0, 0x42C4, 0x42C8, 0x42CC, 0x4300, 0x4304, 0x4308, 0x430C, 0x4310, 0x4314, 0x4318, 0x431C] ++
  [0x4340, 0x4344, 0x4348, 0x434C, 0x4350]

/-- The offsets of a diagnostic window, from its base. -/
def diagHas (o : Nat) : Bool :=
  decide (o < 0x10) || (decide (0x100 ≤ o) && decide (o < 0x120)) || (decide (0x120 ≤ o) && decide (o < 0x138))

/-- Whether a 4-byte access at an offset meets a register (R615, R616). -/
def has (o : Nat) : Bool :=
  decide (o % 4 = 0) &&
    (if o < 0x4000 then hbdHas o
    else if o < 0x8000 then pairOffsets.contains o
    else if o < 0xC000 then diagHas (o - 0x8000)
    else decide (o < 0x10000) && diagHas (o - 0xC000))

/-! The HBD's windows. -/

/-- READY_STATUS (Table 3-9). -/
def ready (s : State) : Nat :=
  Bits.b2n s.pwr.hbdReady + 2 * Bits.b2n s.boot.ended + s.boot.cda.st * 2 ^ 4 + s.boot.cdb.st * 2 ^ 6 +
    Bits.b2n s.boot.fidOk * 2 ^ 8 + Bits.b2n s.pair.linkA * 2 ^ 9 + Bits.b2n s.pair.linkB * 2 ^ 10 +
    Bits.b2n s.boot.fail * 2 ^ 11 + s.boot.failCode * 2 ^ 12 + s.hbd.lastStatus * 2 ^ 16 + s.hbd.nrCount * 2 ^ 24

/-- PAIR_PENDING (R620). -/
def pending (s : State) : Nat := if s.linkUp then min 256 s.hbd.pairPending.length else 0

/-- One of RING_BASE, RING_SIZE, RING_IRQ (Table 15-14), a base as 64 bits. -/
def ringReg (s : State) (n k : Nat) : Nat :=
  let r := Tab.get s.hbd.rings n
  match k with
  | 0 => r.base
  | 8 => r.size
  | _ => if n < 32 then 0 else r.threshold + r.delayUs * 2 ^ 16

/-- A host DMA channel's register (Table 15-17), HDMA_CHAIN as 64 bits. -/
def hdmaReg (s : State) (h k : Nat) : Nat :=
  let d := Tab.get s.hbd.hdma h
  match k with
  | 0x00 => d.chain
  | 0x08 => Bits.b2n d.pause
  | 0x0C => d.st
  | 0x10 => d.bytes
  | 0x14 => d.descs
  | _ => d.limit

/-- Slack registers: last and minimum (Tables 2-11, 2-12). -/
def slackReg (s : State) (die region : Nat) : Nat :=
  let r := if die = 0 then Tab.get s.hbd.slack region else Tab.get s.tm.slack (die * 16 + region)
  Bits.unsigned 16 r.last + Bits.unsigned 16 r.min * 2 ^ 16

/-- The register at its own offset in the HBD windows; a 64-bit register whole. -/
def hbdRead (s : State) (o : Nat) : Nat :=
  match o with
  | 0x0000 => 0x64004E46
  | 0x0004 => 0x00000101
  | 0x0008 => ready s
  | 0x000C => s.hbd.modeReg
  | 0x0010 => 0
  | 0x0014 => pending s
  | 0x0020 => Pair.summaryReg s
  | 0x0030 => s.hbd.sessNum
  | 0x0034 => s.hbd.sess + Bits.b2n s.hbd.dbErr * 2 ^ 3 + s.hbd.openReason * 2 ^ 8 + s.hbd.changes * 2 ^ 16
  | 0x0038 => s.hbd.pollUs + Bits.b2n s.hbd.pollEn * 2 ^ 8
  | 0x0040 => s.hbd.dbBase
  | 0x0048 => s.hbd.violAddr
  | 0x004C => Ops.violInfo s
  | 0x0050 => s.hbd.ringErr
  | 0x0054 => min 4096 s.hbd.outstanding.length
  | 0x1200 => s.hbd.hdmaErr
  | 0x1208 => s.hbd.hdmaErrInfo
  | 0x2020 => Bits.leAt Trusted.serial 0 4
  | 0x2024 => Bits.leAt Trusted.serial 4 4
  | 0x2028 => Trusted.statusReg s
  | 0x202C => Trusted.svnReg s
  | 0x3000 => s.hbd.mirrorCfg
  | 0x3008 => s.hbd.mirFBase
  | 0x3010 => s.hbd.mirHBase
  | 0x3018 => RecOps.mirrorStatus s
  | 0x301C => s.hbd.mirFHead
  | 0x3020 => s.hbd.mirHHead
  | 0x3024 => s.hbd.hdumpCfg
  | _ =>
    if 0x0100 ≤ o ∧ o < 0x0500 then ringReg s ((o - 0x100) / 16) (o % 16)
    else if 0x0500 ≤ o ∧ o < 0x0900 then Tab.get s.hbd.route ((o - 0x500) / 4)
    else if 0x0900 ≤ o ∧ o < 0x0920 then s.hbd.irqSource / 2 ^ (8 * (o - 0x900)) % 2 ^ 32
    else if 0x0F00 ≤ o ∧ o < 0x0F18 then slackReg s 0 ((o - 0xF00) / 4)
    else if 0x1000 ≤ o ∧ o < 0x1200 then hdmaReg s ((o - 0x1000) / 32) (o % 32)
    else if 0x2000 ≤ o ∧ o < 0x2020 then Bits.leAt Trusted.identity (o - 0x2000) 4
    else 0

/-- The levels of HGPIO0 to HGPIO7, by bit (R646, Table 19-9): outputs that follow the HBD's registers. -/
def hgpio (s : State) : Nat :=
  let mode := hbdRead s 0x000C % 8
  let health := hbdRead s 0x0020
  if s.pwr.hbdReady then
    1 + 2 * Bits.b2n ((hbdRead s 0x0008).testBit 1) + 4 * Bits.b2n (decide (mode = 4) || decide (mode = 5)) +
      8 * Bits.b2n (decide (mode = 6)) + 16 * Bits.b2n (decide (mode = 7)) + 32 * Bits.b2n (health.testBit 5) +
      64 * Bits.b2n (decide (health % 4 = 1)) + 128 * Bits.b2n (decide (hbdRead s 0x0034 % 4 = 1))
  else 0

/-! The field pair window, as the active die holds it. -/

/-- TIME_STATUS (Table 2-14). -/
def timeStatus (s : State) : Nat :=
  Net.syncState s + Bits.b2n (Net.timeMaster s) * 4 + Bits.b2n s.tm.ppsLocked * 8 + Bits.b2n s.tm.holdover * 16 +
    Bits.b2n s.tm.lock * 32

/-- TXTS_STATUS (Table 2-16). -/
def txtsStatus (s : State) : Nat :=
  s.tm.txA.length + Bits.b2n s.tm.ovfA * 2 ^ 5 + s.tm.txB.length * 2 ^ 8 + Bits.b2n s.tm.ovfB * 2 ^ 13

/-- GOV_STATUS (Table 2-17). -/
def govStatus (s : State) : Nat :=
  let g := s.tm.gov
  g.out + Bits.b2n g.atMax * 2 ^ 16 + Bits.b2n (decide (g.out = 760)) * 2 ^ 17 + Bits.b2n g.fault * 2 ^ 18 +
    Bits.b2n (Ops.govOn s) * 2 ^ 19

/-- A register of the field pair window (Table 18-2). -/
def pairRead (s : State) (o : Nat) : Nat :=
  match o with
  | 0x4000 => s.chk.enable
  | 0x4004 => Bits.b2n s.hbd.checkBusy
  | 0x4008 => Checks.statusReg s
  | 0x400C => s.chk.loc
  | 0x4040 => s.tm.latticeCfg.toNat
  | 0x4044 => s.tm.slackTarget.toNat
  | 0x4048 => s.tm.govCfg.toNat
  | 0x404C => s.tm.timeCfg.toNat
  | 0x4050 => timeStatus s
  | 0x4054 => Bits.unsigned 32 s.tm.rate
  | 0x4058 => Bits.unsigned 32 s.tm.theta
  | 0x405C => txtsStatus s
  | 0x4060 => govStatus s
  | 0x4100 => s.mot.cfg.toNat
  | 0x4104 => Mot.status s
  | 0x4108 => AxisIo.status s
  | 0x4140 => Loop.counts s
  | 0x4144 => Loop.flags s
  | 0x4148 => Loop.loadK s
  | 0x4180 => s.acq.regOvr
  | 0x4184 => s.acq.injOvr
  | 0x4188 => s.acq.xchk
  | 0x418C => s.acq.suspect
  | 0x41C0 => AcqOps.flags s
  | 0x41C4 => AcqOps.loadMb s
  | 0x41C8 => AcqOps.counts s
  | 0x4200 => Seq.state s
  | 0x4204 => s.prog.seqFlags
  | 0x4208 => s.prog.groupCfg.toNat
  | 0x4240 => Prog.status s
  | 0x4244 => Prog.flags s
  | 0x4280 => s.nodeId
  | 0x4284 => Net.statusReg s
  | 0x4288 => s.net.flags
  | 0x428C => s.net.hash % 2 ^ 32
  | 0x4290 => s.net.hash / 2 ^ 32 % 2 ^ 32
  | 0x4294 => Pier.portsReg s
  | 0x4298 => Pier.isolatedReg s
  | 0x42C0 => s.pair.redundancyCfg.toNat
  | 0x42C4 => Pair.statusReg s
  | 0x42C8 => s.pair.flags
  | 0x42CC => Pair.countsReg s
  | 0x4300 => Safe.summary s
  | 0x4304 => s.saf.flags
  | 0x4308 => s.saf.crc1
  | 0x430C => s.saf.crc2
  | 0x4310 => Out.valveBits s 0 (·.locked)
  | 0x4314 => Out.valveBits s 32 (·.locked)
  | 0x4318 => Out.valveBits s 0 (·.test.untested)
  | 0x431C => Out.valveBits s 32 (·.test.untested)
  | 0x4340 => s.acq.fdmaPause
  | 0x4344 => s.acq.fdmaStopped
  | 0x434C => s.acq.fdmaLimit.toNat
  | 0x4350 => s.acq.fdmaErrAddr
  | _ => 0

/-! The diagnostic windows. -/

/-- ROLE of a die (Table 18-6). -/
def role (s : State) (d : Nat) : Nat :=
  if s.pair.st = 0 then 0
  else if s.pair.active = d then 1
  else if s.pair.st = 1 then 2
  else if s.pair.st = 3 then 3
  else 0

/-- A register of a die's diagnostic window, by its offset from the window's base (Tables 2-11, 18-6 to 18-9). -/
def diagRead (s : State) (d o : Nat) : Nat :=
  let x := Pair.own s d
  match o with
  | 0x0 => d + role s d * 4 + s.md.mode.code * 2 ^ 4 + x.lastChecker * 2 ^ 8
  | 0x4 => Bits.unsigned 16 x.tj + Bits.unsigned 16 x.tjMax * 2 ^ 16
  | 0x8 => x.ecc + x.scrubs * 2 ^ 16
  | 0xC => 0
  | _ => if o < 0x120 then slackReg s d ((o - 0x100) / 4) else slackReg s d (8 + (o - 0x120) / 4)

/-- The die that answers a read of the field side's windows: 1 or 2; 0 none (R43, R614). Log: 83 (DEDUCED, unsafe). -/
def answering (s : State) (o : Nat) : Nat := if o < 0x8000 then s.pair.active else if o < 0xC000 then 1 else 2

/-- The registers of the field pair window as a frame boundary leaves them. -/
def pairRegs (s : State) : Tab Nat :=
  pairOffsets.filterMap fun o =>
    let v := pairRead s o
    if v = 0 then none else some (o, v)

/-- What reads of the field pair window return until the next frame boundary (R621). -/
def latchRegs (s : State) : State := if s.tm.lock then { s with pair.regs := some (pairRegs s) } else s

/-- A field-side register as the die that answers holds it: of the pair window as the last frame boundary left it (R621). -/
def fieldRead (s : State) (o : Nat) : Nat :=
  if o < 0x8000 then (s.pair.regs.map fun t => Tab.get t o).getD (pairRead s o)
  else if o < 0xC000 then diagRead s 1 (o - 0x8000)
  else diagRead s 2 (o - 0xC000)

/-! Reads. -/

/-- Whether the field-side windows answer NOT_READY (R144). -/
def fieldClosed (s : State) : Bool := !s.boot.ended || !s.linkUp

/-- A read in the HBD windows (R617): of 8 bytes it returns both halves of a 64-bit register; of 4 bytes, the low half
latches the
high half, which the next read of that high half returns. -/
def hbdWindowRead (o : Nat) (wide : Bool) (s : State) : State :=
  if wide then { s with hbd.readData := hbdRead s o }
  else if is64 o then
    let v := hbdRead s o
    { s with hbd.readData := v % 2 ^ 32, hbd.latch := some (o + 4, v / 2 ^ 32 % 2 ^ 32) }
  else if decide (4 ≤ o) && is64 (o - 4) then
    match s.hbd.latch with
    | some (a, v) =>
      if a = o then { s with hbd.readData := v, hbd.latch := none }
      else { s with hbd.readData := hbdRead s (o - 4) / 2 ^ 32 % 2 ^ 32 }
    | none => { s with hbd.readData := hbdRead s (o - 4) / 2 ^ 32 % 2 ^ 32 }
  else { s with hbd.readData := hbdRead s o }

/-- A read of the field side's windows (R144, R569, R621): a request goes to the die that answers; CHECK_BUSY the HBD answers
itself (R127). -/
def fieldWindowRead (o : Nat) (s : State) : State :=
  if decide (o = 0x4004) && s.boot.ended then { s with hbd.readData := Bits.b2n s.hbd.checkBusy }
  else
    { s with hbd.diagNum := s.hbd.diagNum + 1, hbd.diag := s.hbd.diag ++ [{ num := s.hbd.diagNum, offset := o }] }

/-- A read that the link has delivered (R144, R615, R616). -/
def readNow (o : Nat) (wide : Bool) (s : State) : State :=
  if decide (0x4000 ≤ o) && fieldClosed s && !(decide (o = 0x4004) && s.boot.ended) then
    Ops.notReadyAccess o false { s with hbd.readData := 0 }
  else if !has o || (wide && !is64 o) then Ops.violation o 1 false 15 s
  else if o < 0x4000 then hbdWindowRead o wide s
  else fieldWindowRead o s

/-- DIAG_REQUEST: the die answers while its state reads 3 (R569). -/
def diagRequest (req : Nat) (s : State) : State :=
  let d (q : DiagReq) : Nat := answering s q.offset
  if !s.linkUp then s else
  { s with hbd.diag := s.hbd.diag.map fun q =>
      if decide (q.num = req) && q.reply.isNone && decide (d q ≠ 0) && decide ((Pair.bootOf s (d q)).st = 3) then
        { q with reply := some (fieldRead s q.offset) }
      else q }

/-- DIAG_REPLY: the host read completes with the reply's data (R569). -/
def diagReply (req : Nat) (s : State) : State :=
  match s.hbd.diag.find? fun q => decide (q.num = req) with
  | none => s
  | some q =>
    match q.reply with
    | none => s
    | some v =>
      if !s.linkUp then s else { s with hbd.readData := v, hbd.diag := s.hbd.diag.filter fun q => !decide (q.num = req) }

/-- DIAG_REPLY_TIMEOUT (R569): `us` µs have passed since the request. -/
def diagTimeout (req us : Nat) (s : State) : State :=
  match s.hbd.diag.find? fun q => decide (q.num = req) with
  | none => s
  | some q =>
    if us < 40 then s
    else Ops.violation q.offset 5 false 15
      { s with hbd.readData := 0, hbd.diag := s.hbd.diag.filter fun q => !decide (q.num = req) }

/-- An access of a size or at an offset that no register admits (R144, R567, R616). -/
def badAccess (o : Nat) (write : Bool) (be : Nat) (s : State) : State :=
  if decide (0x4000 ≤ o) && fieldClosed s then Ops.notReadyAccess o write s else Ops.violation o 1 write be s

end Sys2Proof.Machine.Regs
end

