-- ==== Sys2Proof/Machine/Setup.lean ====
section
/-!
DEFINITION. Setup writes (R20, R103, R127, R136, R567, R568, R573, R614 to R624): what the HBD's own registers do, and how a
write to the field side is judged, sent and applied.
-/

namespace Sys2Proof.Machine.Setup

/-! The HBD's windows. -/

/-- A 64-bit register after a write of both halves or of one. -/
def half (old v : Nat) (wide high : Bool) : Nat :=
  if wide then v % 2 ^ 64
  else if high then old % 2 ^ 32 + v % 2 ^ 32 * 2 ^ 32
  else v % 2 ^ 32 + old / 2 ^ 32 * 2 ^ 32

/-- A page-aligned address register. -/
def aligned (v : Nat) : Nat := v / 4096 * 4096 % 2 ^ 64

/-- A write that is answered with Completer Abort, or discarded for its value (KIND 2). -/
def abort (o : Nat) (s : State) : State := Ops.violation o 2 true 15 s

/-- A write that only CLOSED admits (R545, R573, R598). -/
def whenClosed (o : Nat) (f : State → State) (s : State) : State := if s.hbd.sess = 0 then f s else abort o s

/-- A write of what a session open checks: a refused open after it counts as new (R546). -/
def newOpen (s : State) : State := { s with hbd.openFail := none }

/-- RING_SIZE_n (R537). -/
def ringSize (o n v : Nat) (s : State) : State :=
  let l := v % 32
  let mask := if n < 32 then 0x00001F1F else 0x0003001F
  if (decide (l ≠ 0) && (decide (l < 6) || decide (16 < l))) || (decide (32 ≤ n) && decide (Bits.field v 17 16 = 3)) then
    abort o s
  else { newOpen s with hbd.rings := Tab.modify s.hbd.rings n fun r => { r with size := v &&& mask } }

/-- A write to RING_BASE_n, RING_SIZE_n or RING_IRQ_n (Table 15-14). -/
def ringWrite (o v : Nat) (wide : Bool) (s : State) : State :=
  let n := (o - 0x100) / 16
  let k := o % 16
  whenClosed o (fun s =>
    if k = 8 then ringSize o n v s
    else if k = 12 then
      if n < 32 then newOpen s
      else { newOpen s with hbd.rings := Tab.modify s.hbd.rings n fun r => { r with threshold := v % 2 ^ 16, delayUs := v / 2 ^ 16 % 2 ^ 16 } }
    else { newOpen s with hbd.rings := Tab.modify s.hbd.rings n fun r =>
      { r with base := aligned (half r.base v wide (decide (k = 4))) } }) s

/-- A write to a host DMA channel's register (R560, R563, R573). -/
def hdmaWrite (o v : Nat) (s : State) : State :=
  let h := (o - 0x1000) / 32
  let d := Dma.chan s h
  match o % 32 with
  | 0x08 =>
    let s1 := if v.testBit 0 && !d.pause then Dma.pause h s else if !v.testBit 0 && d.pause then Dma.pauseClear h s else s
    if v.testBit 1 then Dma.resume h s1 else s1
  | 0x18 =>
    let l := v % 2 ^ 17
    if d.work.isSome || decide (l = 0) || decide (65536 < l) then abort o s else Dma.setChan h { d with limit := l } s
  | _ => s

/-- MIRROR_CFG (Table 16-9). -/
def mirrorCfg (o v : Nat) (s : State) : State :=
  let f := v % 32
  let h := Bits.field v 12 8
  if (decide (f ≠ 0) && (decide (f < 8) || decide (16 < f))) || (decide (h ≠ 0) && (decide (h < 8) || decide (12 < h))) then
    abort o s
  else { newOpen s with hbd.mirrorCfg := v &&& 0x00011F1F }

/-- A write to MIRROR_STATUS (R584, R586). -/
def mirrorStatus (v : Nat) (s : State) : State :=
  { s with hbd.gap := s.hbd.gap && !v.testBit 0, hbd.hGap := s.hbd.hGap && !v.testBit 1 }

/-- Clears IRQ_SOURCE bits (Table 15-16). -/
def irqClear (o v : Nat) (s : State) : State :=
  { s with hbd.irqSource := Bits.w1c s.hbd.irqSource (v % 2 ^ 32 * 2 ^ (8 * (o - 0x900))) 256 }

/-- MODE_FORCE: the value crosses the barrier as a message of its own; with both links down it has no effect (R122, R620). -/
def modeForce (v : Nat) (s : State) : State :=
  if s.linkUp then Dma.send 2 (.modeForce v) { s with hbd.pairPending := s.hbd.pairPending ++ [2] } else s

/-- A write in the HBD's windows, at an offset that a register has. -/
def hbdWrite (o v : Nat) (wide : Bool) (s : State) : State :=
  match o with
  | 0x0008 => readyStatusClr v s
  | 0x0010 => modeForce v s
  | 0x0034 => sessionCtrlClose v s
  | 0x0038 => Machine.dbPoll v s
  | 0x0040 => whenClosed o (fun s => { newOpen s with hbd.dbBase := aligned (half s.hbd.dbBase v wide false) }) s
  | 0x0044 => whenClosed o (fun s => { newOpen s with hbd.dbBase := aligned (half s.hbd.dbBase v wide true) }) s
  | 0x004C => violInfoClr v s
  | 0x0050 => ringErrClear v s
  | 0x3000 => whenClosed o (mirrorCfg o v) s
  | 0x3008 => whenClosed o (fun s => { newOpen s with hbd.mirFBase := aligned (half s.hbd.mirFBase v wide false) }) s
  | 0x300C => whenClosed o (fun s => { newOpen s with hbd.mirFBase := aligned (half s.hbd.mirFBase v wide true) }) s
  | 0x3010 => whenClosed o (fun s => { newOpen s with hbd.mirHBase := aligned (half s.hbd.mirHBase v wide false) }) s
  | 0x3014 => whenClosed o (fun s => { newOpen s with hbd.mirHBase := aligned (half s.hbd.mirHBase v wide true) }) s
  | 0x3018 => mirrorStatus v s
  | 0x3024 => whenClosed o (fun s => { s with hbd.hdumpCfg := v &&& 0x9F }) s
  | _ =>
    if 0x0100 ≤ o ∧ o < 0x0500 then ringWrite o v wide s
    else if 0x0500 ≤ o ∧ o < 0x0900 then { s with hbd.route := Tab.set s.hbd.route ((o - 0x500) / 4) (v &&& 0xBF) }
    else if 0x0900 ≤ o ∧ o < 0x0920 then irqClear o v s
    else if 0x1000 ≤ o ∧ o < 0x1200 then hdmaWrite o v s
    else s

/-! The field pair window. -/

/-- The registers with a field that a write changes, and the modes that permit it (R103, R107, R127, R485, R573); none for
a register whose every field is read-only. -/
def permit (o : Nat) : Option (Mode → Bool) :=
  if [0x4000, 0x4040, 0x4048, 0x404C, 0x4100, 0x4208, 0x4280, 0x42C0, 0x434C].contains o then
    some fun m => decide (m = .configure)
  else if o = 0x4044 then some fun m => m.afterBoot && decide (m ≠ .safeStop)
  else if [0x405C, 0x4064, 0x4108, 0x4144, 0x4180, 0x4184, 0x4188, 0x418C, 0x41C0, 0x4204, 0x4244, 0x4288, 0x42C8, 0x4304,
      0x4310, 0x4314, 0x4340, 0x4348].contains o then some Mode.afterBoot
  else none

/-- Whether a write starts a check, so that the HBD sets CHECK_BUSY for it and CHECK_BUSY discards it: one to SUBSYS_ENABLE,
REDUNDANCY_CFG, or a register of R136 with one of its subsystems enabled (R127). Log: 35 (DEDUCED, unsafe). -/
def startsCheck (o : Nat) (s : State) : Bool := decide (o = 0x4000) || decide (o = 0x42C0) || Checks.isChecked s o

/-- TXTS_STATUS (Table 2-16). -/
def txtsWrite (v : Nat) (s : State) : State :=
  { s with tm.ovfA := s.tm.ovfA && !v.testBit 5, tm.ovfB := s.tm.ovfB && !v.testBit 13 }

/-- What a permitted write does at its application frame. -/
def effect (o v : Nat) (s : State) : State :=
  match o with
  | 0x4000 => Checks.start (.subsys (v % 4096)) s
  | 0x42C0 => Checks.start (.redundancy (v &&& 0x000F9F01)) s
  | 0x405C => txtsWrite v s
  | 0x4064 => slackClear v s
  | 0x4108 => AxisIo.statusWrite v s
  | 0x4144 => Loop.flagsWrite v s
  | 0x4180 => { s with acq.regOvr := Bits.w1c s.acq.regOvr v 32 }
  | 0x4184 => { s with acq.injOvr := Bits.w1c s.acq.injOvr v 32 }
  | 0x4188 => { s with acq.xchk := Bits.w1c s.acq.xchk v 32 }
  | 0x418C => { s with acq.suspect := Bits.w1c s.acq.suspect v 32 }
  | 0x41C0 => AcqOps.flagsWrite v s
  | 0x4204 => { s with prog.seqFlags := Bits.w1c s.prog.seqFlags v 32 }
  | 0x4244 => Prog.flagsWrite v s
  | 0x4288 => { s with net.flags := Bits.w1c s.net.flags v 32 }
  | 0x42C8 => { s with pair.flags := Bits.w1c s.pair.flags v 32 }
  | 0x4304 => { s with saf.flags := Bits.w1c s.saf.flags v 32 }
  | 0x4310 => Out.valveFaultClear false v s
  | 0x4314 => Out.valveFaultClear true v s
  | 0x4340 => Dma.fdmaPause v s
  | 0x4348 => Dma.fdmaResume v s
  | 0x434C => { s with acq.fdmaLimit := BitVec.ofNat 32 (v % 2 ^ 17) }
  | _ => if Checks.isChecked s o then Checks.start (.register o v) s else Checks.setRegister o v s

/-- A pair-window write at its application frame: one that the mode no longer permits is discarded and logged (R568); a check
it was to start does not keep CHECK_BUSY set. -/
def applyWrite (o v : Nat) (s : State) : State :=
  match permit o with
  | none => s
  | some ok =>
    if ok s.md.mode then effect o v s
    else
      let s1 := Ops.violation o 4 true 15 s
      if startsCheck o s && s1.hbd.checkBusy && s1.chk.running.isNone && s1.chk.result.isNone then
        { s1 with hbd.checkDone := some s1.tm.frame }
      else s1

/-- The mode as the HBD judges a write by it (R568). -/
def hbdMode (s : State) : Mode := Mode.ofCode (s.hbd.modeReg % 8)

/-- A write to the field pair window as the HBD receives it (R103, R127, R144, R567, R618). -/
def pairWrite (o v : Nat) (s : State) : State :=
  if Regs.fieldClosed s then Ops.notReadyAccess o true s
  else
    match permit o with
    | none => s
    | some ok =>
      if !ok (hbdMode s) then abort o s
      else if s.hbd.checkBusy && startsCheck o s then Ops.violation o 4 true 15 s
      else if decide (o = 0x434C) && (decide (v % 2 ^ 17 = 0) || decide (65536 < v % 2 ^ 17)) then abort o s
      else
        let s1 := if startsCheck o s then { s with hbd.checkBusy := true, hbd.checkDone := none } else s
        Dma.send 2 (.pairWrite o (v % 2 ^ 32)) { s1 with hbd.pairPending := s1.hbd.pairPending ++ [2] }

/-- A write to a diagnostic window as the HBD receives it (R144, R618, R623). Log: 83 (DEDUCED, unsafe). -/
def diagWrite (o v : Nat) (s : State) : State :=
  if Regs.fieldClosed s then Ops.notReadyAccess o true s
  else if o % 0x4000 ≠ 0x00C then s
  else if hbdMode s ≠ .commission then abort o s
  else Dma.send 2 (.diagWrite (if o < 0xC000 then .cda else .cdb) o (v % 2 ^ 32)) s

/-- A setup write that the link has delivered (R615, R616). -/
def deliver (o v : Nat) (wide : Bool) (s : State) : State :=
  if decide (0x4000 ≤ o) && Regs.fieldClosed s then Ops.notReadyAccess o true s
  else if !Regs.has o || (wide && !Regs.is64 o) then Ops.violation o 1 true 15 s
  else if o < 0x4000 then hbdWrite o v wide s
  else if o < 0x8000 then pairWrite o v s
  else diagWrite o v s

/-- Whether PAIR_PENDING withholds credit (R620). Log: 83 (DEDUCED, unsafe). -/
def full (s : State) : Bool := s.linkUp && decide (256 ≤ s.hbd.pairPending.length)

/-- What an access does that the link has delivered. -/
def take : Access → State → State
  | .write o v w, s => deliver o v w s
  | .read o w, s => Regs.readNow o w s
  | .bad o w be, s => Regs.badAccess o w be s

/-- Whether an access needs posted credit: every write does. -/
def Access.posted : Access → Bool
  | .write _ _ _ => true
  | .read _ _ => false
  | .bad _ w _ => w

/-- An access of the host: while PAIR_PENDING reads 256 a write waits on the link, and behind an access that waits every
other
one (R620). -/
def access (a : Access) (s : State) : State :=
  if (full s && Access.posted a) || !s.hbd.waiting.isEmpty then { s with hbd.waiting := s.hbd.waiting ++ [a] } else take a s

/-- SETUP_WRITE (R620, R622). -/
def setupWrite (o v : Nat) (wide : Bool) (s : State) : State := access (.write o v wide) s

/-- LOW_HALF_READ (R617). -/
def lowHalfRead (o : Nat) (wide : Bool) (s : State) : State := access (.read o wide) s

/-- PAIR_WINDOW_READ (R621). -/
def pairWindowRead (o : Nat) (s : State) : State := access (.read o false) s

/-- UNSUPPORTED_ACCESS (R616). -/
def unsupportedAccess (o : Nat) (write : Bool) (be : Nat) (s : State) : State := access (.bad o write be) s

/-- Accesses that wait are taken as credit returns. Log: 83 (DEDUCED, unsafe). -/
def drain : Nat → State → State
  | 0, s => s
  | n + 1, s =>
    match s.hbd.waiting with
    | [] => s
    | a :: rest => if full s && Access.posted a then s else drain n (take a { s with hbd.waiting := rest })

/-- A field register's write when its row stands for the write and its application frame at once: it needs the field side
(R144), and while CHECK_BUSY is 1 one that starts a check is discarded (R127). -/
def direct (o v : Nat) (s : State) : State :=
  if Regs.fieldClosed s then Ops.notReadyAccess o true s
  else if startsCheck o s && s.hbd.checkBusy then Ops.violation o 4 true 15 s
  else applyWrite o v s

/-- A DIAG_INJECT write when its row stands for the write and its application frame at once (R144, R624). -/
def injectAt (d v : Nat) (s : State) : State :=
  if Regs.fieldClosed s then Ops.notReadyAccess (if d = 1 then 0x800C else 0xC00C) true s else Pair.inject d v s

/-- CHECKED_SETUP_WRITE (R136). -/
def checkedWrite (o v : Nat) (s : State) : State := if (Checks.registerBits o).isEmpty then s else direct o v s

end Sys2Proof.Machine.Setup
end

