-- ==== Sys2Proof/Machine/Modes.lean ====
section
/-!
DEFINITION. The operating modes (R105 to R125): what a change of mode does, the automatic changes, MODE_REQUEST, and the
field reset that MODE_FORCE and the supplies cause.
-/

namespace Sys2Proof.Machine.Modes

/-- Whether an axis is driven by the Safety region in SAFE_STOP (R173, R499). -/
def driven (s : State) (a : Nat) : Bool := s.enabled 7 && (Safe.monitored s.saf.cfg).contains a

/-- The safety configuration CRCs compared at a change of mode; a requested entry to COMMISSION or RUN has compared them
before
it (R116, Table 14-3). Log: 32 (DEDUCED, unsafe). -/
def compareCrc (s : State) : State := if Safe.crcAgree s then s else Safe.channelLost (Pair.other s) 4 false s

/-- What entering a mode does to the units (Tables 3-1, 3-2): `old` is the mode left. -/
def enter (old new : Mode) (s : State) : State :=
  match new with
  | .reset => s
  | .boot => s
  | .configure =>
    Safe.allOff (Seq.stopAll (Prog.stopAll (Loop.stop (Mot.enterConfigure
      { s with md.outHeld := false, md.stopping := false, md.ssLive := false, md.forceConfigure := false }))))
  | .commission => live old s
  | .run =>
    if old = .hold then Mot.leaveHold s else live old (Safe.endSession s)
  | .hold => if old = .run then Mot.enterHold (Safe.endSession s) else s
  | .degraded => Safe.endSession { s with md.ret := old, md.degLeft := Safe.degFrames s }
  | .safeStop =>
    let s0 := if old = .configure then Loop.start s else s
    let s1 := { s0 with md.stopping := true, md.ssLive := old.live && !s.md.outHeld, md.outHeld := false }
    Safe.endSession (Safe.enterSafeStop (Seq.stopAll (Mot.enterSafeStop (driven s1) s1)))
where
  /-- First boundary of COMMISSION or RUN entered from CONFIGURE (R115, R235, R380, R138). -/
  live (old : Mode) (s : State) : State :=
    if old = .configure then
      Loop.start { s with md.outHeld := true, prog.auto := true, saf.begun := true }
    else s

/-- A change of mode at this boundary with its cause (R114): `asked` when a request made it. -/
def change (new : Mode) (cause : Nat) (asked : Bool) (s : State) : State :=
  let old := s.md.mode
  let s1 := Ops.raise Event.modeChange (mkSrc 1 7 0) (old.code + new.code * 2 ^ 8 + cause * 2 ^ 16) s.tm.frame
    { s with md := { s.md with mode := new, cause := cause, changes := (s.md.changes + 1) % 256 } }
  let s2 := enter old new s1
  if asked && (decide (new = .commission) || decide (new = .run)) then s2 else compareCrc s2

/-- Modes that lose a die or a channel into DEGRADED (Table 3-3). -/
def canDegrade (m : Mode) : Bool :=
  match m with
  | .commission => true
  | .run => true
  | .hold => true
  | _ => false

/-- Modes SAFE_STOP is entered from. -/
def canStop (m : Mode) : Bool := canDegrade m || decide (m = .configure) || decide (m = .degraded)

/-- Whether what DEGRADED lacks is back (R120). -/
def restored (s : State) : Bool := decide (s.pair.st = 1) && s.channel 1 && s.channel 2

/-- The lowest of the cause codes found. -/
def lowest (l : List Nat) : Nat := l.foldl min 9

/-- The degraded time runs by one frame (R120). Log: 33 (DEDUCED, unsafe), 108 (DESIGN CHOICE, unsafe). -/
def countDegraded (s : State) : State :=
  if s.md.mode ≠ .degraded then s
  else
    let s1 := { s with md.degLeft := s.md.degLeft - 1 }
    if decide (s1.md.degLeft = 0) && !s1.md.degExpired then
      Ops.raise Event.degradedExpired (mkSrc 1 7 0) 0 0 { s1 with md.degExpired := true }
    else s1

/-- STOPPING clears at the first boundary with every group off and every axis at standstill (R506).
Log: 30 (DEDUCED, unsafe), 109 (DESIGN CHOICE, unsafe). -/
def stopEnds (s : State) : State :=
  if decide (s.md.mode = .safeStop) && s.md.stopping && Safe.groupsOff s && Mot.allStill s then
    { s with md.stopping := false }
  else s

/-- The automatic changes of mode at a boundary (R117, R118, R120, R123, Table 3-3).
Log: 30 (DEDUCED, unsafe), 108 (DESIGN CHOICE, unsafe). -/
def automatic (s0 : State) : State :=
  let m := s0.md.mode
  let back := restored s0
  let stops := s0.md.stopCauses ++ (if s0.md.degExpired && decide (m = .degraded) && !back then [7] else [])
  let losses := s0.md.lossCauses
  let s1 := { s0 with md.stopCauses := [], md.lossCauses := [], md.degExpired := false }
  if !stops.isEmpty && canStop m then change .safeStop (lowest stops) false s1
  else if decide (m = .degraded) && back then change s1.md.ret 8 false s1
  else if !losses.isEmpty && canDegrade m then change .degraded (lowest losses) false s1
  else if decide (m = .safeStop) && s1.md.forceConfigure && !s1.md.forceReset && !s1.md.stopping then
    change .configure 1 false s1
  else s1

/-- DEGRADED_EXPIRED: the count reaches zero by the next boundary (R120). -/
def degradedExpired (s : State) : State :=
  if decide (s.md.mode = .degraded) && decide (s.md.degLeft ≤ 1) && !s.md.degExpired then
    Ops.raiseMid Event.degradedExpired (mkSrc 1 7 0) 0 0 { s with md.degExpired := true }
  else s

/-! MODE_REQUEST. -/

/-- The result of Table 3-5. -/
def result (s : State) (before after ret : Mode) : Nat :=
  s.tm.frame % 2 ^ 64 + before.code * 2 ^ 64 + after.code * 2 ^ 72 + ret.code * 2 ^ 80

/-- Whether a sequencer is running or paused. -/
def seqBusy (s : State) : Bool := s.prog.seqs.any fun q => decide (q.2.st ≠ 0)

/-- Whether a check of the field side keeps CHECK_BUSY at 1 (R127, R130). -/
def checking (s : State) : Bool := s.checking

/-- The first failing condition of a list. -/
def firstOf : List (Bool × Nat) → Option Nat
  | [] => none
  | (bad, r) :: t => if bad then some r else firstOf t

/-- The conditions of a listed transition in their order (Table 3-3, R611); none where no request makes it. -/
def conditions (s : State) (old new : Mode) : Option (List (Bool × Nat)) :=
  let still := (!Mot.allStill s, 0x79)
  let step := (decide (s.pair.st ≠ 1), 0x75)
  let crc := (!Safe.crcAgree s, 0x6E)
  let dbg := (s.trust.fieldScope, 0x97)
  let start := [step, (checking s, 0x78), (!s.enabled 7, 0x7A), crc, dbg]
  match old, new with
  | .configure, .commission => some start
  | .configure, .run => some start
  | .commission, .run => some [still, step, crc, dbg]
  | .commission, .configure => some [still]
  | .run, .hold => some []
  | .hold, .run => some [step, crc, dbg]
  | .run, .configure => some [still, (seqBusy s, 0x7B)]
  | .hold, .configure => some [still, (seqBusy s, 0x7B)]
  | .safeStop, .configure => some [(s.md.stopping, 0x79)]
  | m, .safeStop => if canStop m then some [] else none
  | _, _ => none

/-- Targets MODE_REQUEST may name (R111). Log: 32 (DEDUCED, unsafe). -/
def targetOk (t : Nat) : Bool := decide (2 ≤ t) && decide (t ≤ 7) && decide (t ≠ 6)

/-- MODE_REQUEST (R112, R113, R121). Log: 97 (DEDUCED, unsafe). -/
def request (c : Cmd) (s : State) : Reply :=
  let old := s.md.mode
  let new := Mode.ofCode (Arg.u c 0 1)
  if new = old then .done s (result s old old .reset)
  else if decide (old = .degraded) && decide (new = .hold) then
    let s1 := if s.md.ret = .hold then s else Mot.enterHold { s with md.ret := .hold }
    .done s1 (result s .degraded .degraded .hold)
  else
    match conditions s old new with
    | none => .wrongMode
    | some l =>
      match firstOf l with
      | some r => .refuse r
      | none => .done (change new 0 true s) (result s old new .reset)

/-! Field reset. -/

/-- The commands sent to the field side whose completion has not returned complete NOT_READY (R125). -/
def failSent (s : State) : State :=
  let back := if s.linkUp then s.hbd.compls else s.hbd.compls.filter (·.atHbd)
  let gone := s.hbd.outstanding.filter fun x => x.sent && !back.any fun k => !k.interim && !k.dup && decide (k.org = x.org)
  gone.foldl (fun s x => Ops.completeHbd x.org .notReady 0 0 s) { s with hbd.compls := back }

/-- Host DMA chains, and the fetches of load data, cannot go on across a field reset: their commands complete NOT_READY
and the
channels are idle; their other registers stay (R19, R125). Log: 28 (DEDUCED, unsafe). -/
def failChains (s : State) : State :=
  let s1 := s.hbd.hdma.foldl (fun s q => match q.2.work with
    | some w => Ops.completeHbd w.org .notReady 0 0 s
    | none => s) s
  let s2 := s1.hbd.loadQueue.foldl (fun s e => Ops.completeHbd (Dma.originOf e) .notReady 0 0 s) s1
  { s2 with hbd.hdma := Tab.mapVals s2.hbd.hdma fun _ d => { d with st := 0, work := none }, hbd.loadQueue := [] }

/-- MODE as the field side reports it (Table 3-10). -/
def modeReg (s : State) : Nat :=
  let deg := decide (s.md.mode = .degraded)
  s.md.mode.code + Bits.b2n (decide (s.md.mode = .safeStop) && s.md.stopping) * 2 ^ 3 +
    (if deg then s.md.ret.code * 2 ^ 4 + min 255 ((s.md.degLeft + 7999) / 8000) * 2 ^ 8 else 0) +
    s.md.cause * 2 ^ 16 + s.md.changes * 2 ^ 24

/-- CHECK_BUSY falls (R127, Table 15-2). -/
def busyFalls (s : State) : State :=
  if s.hbd.checkBusy then Ops.fire 55 { s with hbd.checkBusy := false, hbd.checkDone := none } else s

/-- CDA, CDB and the FID are reset; `cause` is what the change to BOOT will carry (R19, R114, R122, R125, R619). The HBD
keeps
its registers, its counters and its own time; writes that wait for credit go on. Log: 29 (DEDUCED, unsafe). -/
def fieldReset (cause : Nat) (s0 : State) : State :=
  let s1 := failChains (failSent s0)
  let s2 := Pair.setLink .cda false (Pair.setLink .cdb false s1)
  let s3 := if s2.boot.ended || s2.boot.fail then Ops.fire 53 s2 else s2
  let s4 := busyFalls s3
  let h := s4.hbd
  let t : State :=
    { s4 with
      tm := {}, md := { cause := cause, resetCause := cause }, boot := {}, chk := {}, pair := {}
      log := { counters := s4.log.counters.filter fun q => decide (q.1 < 8) }
      trust := { s4.trust with
        fieldScope := false, hbdUntil := s0.trust.hbdUntil - s0.tm.control
        challengeUntil := s0.trust.challengeUntil - s0.tm.control }
      nodeId := 0, mot := {}, loop := {}, acq := {}, out := {}
      saf := { store := s4.saf.store }, prog := {}, net := {}, staged := [], deck := [], rep := {} }
  let u : State :=
    { t with
      hbd := { h with down := [], pairPending := [], diag := [], clockAt := 0
                      clock := if s4.tm.lock && h.clockSet then (Ops.hbdBoundary s4).toNat else h.clock
                      streams := if s0.linkUp then h.streams else []
                      streamSeq := [], upNum := 0, upAcked := 0
                      fieldRecs := if s0.linkUp then h.fieldRecs else []
                      restart := h.restart || decide (s0.log.seq ≠ 0) || !h.fieldRecs.isEmpty, latch := none } }
  let v : State := { u with hbd.modeReg := modeReg u }
  Setup.drain v.hbd.waiting.length (if v.hbd.modeReg = h.modeReg then v else Ops.fire 54 v)

/-- FIELD_RESET: the reset that MODE_FORCE awaits, at a boundary with STOPPING = 0 (R122).
Log: 109 (DESIGN CHOICE, unsafe). -/
def fieldResetDue (s : State) : State :=
  if s.md.forceReset && !(s.md.stopping || s.md.mode.live) then fieldReset 1 s else s

/-- A field reset as MODE_FORCE asks for it (R122). -/
def forceReset (s : State) : State :=
  if s.md.mode.live then { change .safeStop 1 false s with md.forceReset := true }
  else if decide (s.md.mode = .safeStop) && s.md.stopping then { s with md.forceReset := true }
  else fieldReset 1 s

/-- A MODE_FORCE write that is discarded (R123, R124, R567). Log: 34 (DEDUCED, unsafe). -/
def forceReject (s : State) : State := Ops.hRaise Event.modeForceReject (mkSrc 0 0 0) 0 0 (Ops.violLog 0x10 4 true 15 s)

/-- MODE_FORCE to CONFIGURE (R123). -/
def forceConfigure (s : State) : State :=
  if s.md.mode ≠ .safeStop then forceReject s
  else if s.md.stopping then { s with md.forceConfigure := true }
  else change .configure 1 false s

/-- A MODE_FORCE value at its application frame (R122 to R124). With both links down it has no effect. -/
def force (v : Nat) (s : State) : State :=
  if !s.linkUp then s
  else if Bits.field v 7 0 ≠ 0xC3 then forceReject s
  else if Bits.field v 10 8 = 0 then forceReset s
  else if Bits.field v 10 8 = 2 then forceConfigure s
  else forceReject s

/-- A MODE_FORCE write whose TARGET is that of a row: what the row does; any other value is rejected (R122 to R124). -/
def forceTo (target v : Nat) (s : State) : State :=
  if Bits.field v 10 8 = target then force v s else if s.linkUp then forceReject s else s

end Sys2Proof.Machine.Modes
end

