-- ==== Sys2Proof/Machine/Boots.lean ====
section
/-!
DEFINITION. Supplies, resets and start-up of the two sides (R58, R85, R137 to R146, R531, R570, R602 to R604, R632, R647).
-/

namespace Sys2Proof.Machine.Boots

/-- FIELD_SUPPLY_VALID (R137): RESET until lattice lock. -/
def fieldSupplyValid (s : State) : State :=
  if s.pwr.fieldValid then s else { s with pwr.fieldValid := true, md.cause := 9, md.resetCause := 9 }

/-- FIELD_SUPPLY_LOST (R632). -/
def fieldSupplyLost (s : State) : State :=
  if s.pwr.fieldValid then { Modes.fieldReset 9 s with pwr.fieldValid := false } else s

/-- The field side stops in BOOT (R142), and source 53 fires. Log: 27 (DESIGN CHOICE, safe). -/
def fail (code : Nat) (s : State) : State :=
  if s.boot.fail then s else Ops.fire 53 { s with boot.fail := true, boot.failCode := code }

/-- Whether both dies or all images of a field kind have failed (R142, R602). With one die held for its self-test and the
other for its verification, no code of Table 3-9 is stated: one of the two, a free value. -/
def judge (s : State) : State :=
  if decide (s.md.mode ≠ .boot) || s.boot.ended then s
  else if s.pwr.hbdReady && (decide (s.trust.res2 ≠ 1) || decide (s.trust.res3 ≠ 1)) then fail 2 s
  else if s.boot.cda.held && s.boot.cdb.held then
    if s.boot.cda.failVerify = s.boot.cdb.failVerify then fail (if s.boot.cda.failVerify then 3 else 1) s
    else
      let t := s.draw
      fail (if Config.unstated s.free = 0 then 1 else 3) t
  else s

/-- LATTICE_LOCK (R49, R58, R114): device time starts at 0 and RESET becomes BOOT. -/
def latticeLock (s : State) : State :=
  if !s.pwr.fieldValid || s.tm.lock then s
  else
    let t := Modes.change .boot s.md.resetCause true { s with tm := { s.tm with lock := true } }
    judge { t with boot.cda.st := 1, boot.cdb.st := 1 }

/-- A die fails in BOOT: reset and tried once more, then held (R141). -/
def dieFails (d : Nat) (verify : Bool) (code : Nat) (s : State) : State :=
  let b := Pair.bootOf s d
  let n := b.fails + 1
  let s1 := Ops.raiseMid Event.bootDieFail (mkSrc d 7 0) code 0 s
  judge (Pair.setBoot d (if 2 ≤ n then { fails := n, held := true, failVerify := verify } else { fails := n, st := 1 }) s1)

/-- ROM_SELF_TEST_END (R139, R141, R470). -/
def romSelfTestEnd (die : FieldDie) (pass : Bool) (s : State) : State :=
  match die with
  | .fid => if s.tm.lock then { s with boot.fidOk := pass } else s
  | .cda => control 1 s
  | .cdb => control 2 s
where
  control (d : Nat) (s : State) : State :=
    let b := Pair.bootOf s d
    if b.st ≠ 1 then s
    else if pass then Pair.setBoot d { b with st := 2 } s
    else if s.md.mode = .boot then dieFails d false 0 s
    else if s.pair.st = 2 then Pair.hold false s
    else s

/-- HBD_READY (R143, R602): the flash's directory as the HBD ROM finds it. -/
def hbdReady (flash : List FlashEntry) (s : State) : State :=
  if !s.pwr.hostValid || s.pwr.perst || s.pwr.hbdReady then s else judge (Trusted.load flash s)

/-- IMAGE_VERIFIED: a control die has checked the two images delivered to it, in BOOT by the HBD, in resynchronisation by the
active die (R603, R604). -/
def imageVerified (die : Die) (ctl fid : Image) (s : State) : State :=
  let d := Pair.dieOf die
  let b := Pair.bootOf s d
  let delivered := decide (b.img = ctl.header ++ ctl.body ++ (fid.header ++ fid.body))
  if b.st ≠ 2 then s
  else
    let a := Trusted.check s.trust 2 ctl
    let r := if a = 1 then Trusted.check s.trust 3 fid else a
    if s.md.mode = .boot then
      if !s.pwr.hbdReady || b.verified || !delivered then s
      else if r = 1 then Pair.setBoot d { b with verified := true } s
      else dieFails d true r s
    else if decide (s.pair.st = 2) && s.pair.girder then
      let same := decide (Bits.ofLe (Trusted.imageH ctl) = s.trust.h2) && decide (Bits.ofLe (Trusted.imageH fid) = s.trust.h3)
      if decide (r = 1) && same then
        Pair.setBoot d { b with verified := true } { s with pair.st := 3, pair.resync := {} }
      else Pair.hold true s
    else s

/-- BOOT_END (R140, R141): both dies start in step, or the one that is ready alone. Records held in RESET and BOOT take
this boundary (R108). The lone die, or CDA of two, is active. Log: 26 (DEDUCED, unsafe). -/
def bootEnd (s : State) : State :=
  let a := s.boot.cda
  let b := s.boot.cdb
  let both := a.verified && b.verified
  if decide (s.md.mode ≠ .boot) || s.boot.fail || !(both || (a.verified && b.held) || (b.verified && a.held)) then s
  else
    let one := if both then 1 else 2
    let s1 : State :=
      { s with
        boot := { s.boot with ended := true, cda := if a.verified then { a with st := 3 } else a
                              cdb := if b.verified then { b with st := 3 } else b }
        pair := { s.pair with st := one, active := if a.verified then 1 else 2
                              cda := { s.pair.cda with channel := a.verified }, cdb := { s.pair.cdb with channel := b.verified } }
        log := { s.log with held := s.log.held ++ s.log.raised, raised := [] } }
    Ops.fire 53 (Modes.change .configure 2 true (Safe.load s1))

/-- FIELD_RESET (R122). Log: 28 (DEDUCED, unsafe). -/
def fieldReset (s : State) : State := Modes.fieldResetDue s

/-! The host side. -/

/-- What outlives a reset of the HBD: what waits in the field-side backlog, what was sent across the barrier,
CHECK_BUSY, host
memory, and what the regions `kept` hold: after PERST# and Function Level Reset the recorder mirror and the HBD's time (R18,
R28, R85, R531, R551, R619). -/
def hbdReset (kept : List Nat) (s0 : State) : State :=
  let mirror := kept.contains 5
  let s := (List.range 6).foldl (fun s r => if kept.contains r then s else Ops.regionReset 0 r s) s0
  let h := s.hbd
  let base : Hbd :=
    { upNum := h.upNum, upAcked := h.upAcked, downNum := h.downNum, down := h.down, upHeld := true, period := h.period
      compls := h.compls.filter fun k => !k.atHbd, outstanding := h.outstanding.filter (·.sent), streams := h.streams
      streamSeq := h.streamSeq, mem := h.mem, fieldRecs := h.fieldRecs, restart := h.restart, lastOld := h.lastOld
      checkBusy := h.checkBusy, checkDone := h.checkDone, slack := h.slack
      healthOld := if h.healthBits = 0 then h.healthOld else some (h.healthBits, h.reports, h.healthAge) }
  let kept : Hbd :=
    if mirror then
      { base with clock := h.clock, clockAt := h.clockAt, clockSet := h.clockSet, clockRead := h.clockRead, gap := h.gap
                  hGap := h.hGap, epoch := h.epoch, mirFHead := h.mirFHead, mirHHead := h.mirHHead
                  hSeq := h.hSeq, hRing := h.hRing }
    else base
  { s with hbd := kept, trust := { s.trust with
    hbdScope := false, challenge := if mirror then s.trust.challenge else none } }

/-- A load whose fetch or delivery is cut off completes BUS_ERROR, with CARRIED set, in the next session; messages whose
sending still lay ahead are not sent (R551). Log: 28 (DEDUCED, unsafe). -/
def cutLoads (s : State) : State :=
  let unsent := s.hbd.down.filterMap fun x => match x.body with
    | .command e => if 2 < x.wait then some e else none
    | _ => none
  let fetching := unsent ++ s.hbd.loadQueue ++ s.hbd.hdma.filterMap fun q => q.2.work.bind (·.load)
  fetching.foldl (fun s e => (Dma.unstage e.cmd (Ops.complete (Dma.originOf e) .busError 0 0
    (Dma.markSent (Dma.originOf e) s))).2) { s with hbd.down := s.hbd.down.filter fun x => decide (x.wait ≤ 2) }

/-- A session closes without draining (R551). -/
def hardClose (s : State) : State := if s.hbd.sess = 0 then s else Ops.closeEnd true s

/-- HOST_SUPPLY_VALID (R85, R619). -/
def hostSupplyValid (s : State) : State :=
  if s.pwr.hostValid then s
  else { hbdReset [] s with pwr.hostValid := true, pwr.hbdReady := false, pwr.perst := true }

/-- A control die that loads its image in BOOT discards what has been delivered of it: its delivery is interrupted (R139). -/
def dropImages (s : State) : State :=
  { s with boot := { s.boot with cda := { s.boot.cda with img := [] }, cdb := { s.boot.cdb with img := [] } } }

/-- HOST_SUPPLY_LOST (R18): the links fall silent, which the field side finds within 10 ms (Table 19-3).
Log: 29 (DEDUCED, unsafe). -/
def hostSupplyLost (s : State) : State :=
  if !s.pwr.hostValid then s
  else
    let t := hbdReset [] (cutLoads (dropImages s))
    { t with pwr.hostValid := false, pwr.hbdReady := false
             trust := { t.trust with res1 := 0, res2 := 0, res3 := 0, entry2 := 0, entry3 := 0, h1 := 0, h2 := 0, h3 := 0
                                     run1 := (0, 0), run2 := (0, 0), run3 := (0, 0) } }

/-- PERST (R531, R551): both links lose training. Log: 29 (DEDUCED, unsafe). -/
def perst (s : State) : State :=
  if s.pwr.perst then s
  else
    let t := hbdReset [3, 5] (hardClose (cutLoads (dropImages (Pair.linkDown .cdb true (Pair.linkDown .cda true s)))))
    { t with pwr.perst := true }

/-- PERST_RELEASE (R531). -/
def perstRelease (s : State) : State := { s with pwr.perst := false }

/-- FUNCTION_LEVEL_RESET (R531, R551): the links stay. -/
def functionLevelReset (s : State) : State :=
  if !s.pwr.hostValid || s.pwr.perst then s else hbdReset [3, 4, 5] (hardClose (cutLoads s))

/-! Barrier messages of start-up. -/

/-- LINK_CONTROL (R139, R550, R570). -/
def linkControl (m : LinkCtl) (s : State) : State :=
  match m with
  | .train l =>
    if s.tm.lock && s.pwr.hostValid && !s.pwr.perst && !s.boot.ended then Pair.setLink l true s else s
  | .sessionOpen => { s with hbd.upHeld := false }
  | .sessionClose => { s with hbd.upHeld := true }
  | .hold => { s with hbd.upHeld := true }
  | .release => { s with hbd.upHeld := false }
  | .hostReset => { s with hbd.upHeld := true }

/-- BOOT (R603): a die's self-test state and its verification result as the HBD is told them, or a die's request for its
image, which the HBD answers with BULK_DOWN. -/
def bootMsg (m : BootMsg) (s : State) : State :=
  match m with
  | .selfTest d passed => romSelfTestEnd d passed s
  | .imageRequest d =>
    let n := Pair.dieOf d
    let b := Pair.bootOf s n
    if decide (b.st = 2) && !b.verified then Pair.setBoot n { b with img := [] } s else s
  | .verification d r =>
    let n := Pair.dieOf d
    let b := Pair.bootOf s n
    if decide (s.md.mode = .boot) && decide (b.st = 2) && s.pwr.hbdReady && !b.verified && !b.img.isEmpty then
      if r.val = 1 then Pair.setBoot n { b with verified := true } s else dieFails n true r.val s
    else s

end Sys2Proof.Machine.Boots
end

