-- ==== Sys2Proof/Machine/Homing.lean ====
section
/-!
DEFINITION. Homing (R208 to R214): the HOME command and the homing's part of a servo tick.
-/

namespace Sys2Proof.Machine

namespace Home

/-- The search direction. -/
def dir (h : Homing) : Int := if h.neg then -1 else 1

/-- The limit in the search direction. -/
def limitAhead (h : Homing) : Switch := if h.neg then .limitNeg else .limitPos

/-- The reference switch (Table 5-2). -/
def reference (h : Homing) : Switch := if h.method < 2 then .home else limitAhead h

/-- Whether the method ends at an index edge (Table 5-2). -/
def byIndex (h : Homing) : Bool := h.method % 2 = 1

/-- Begins a run at a velocity in a direction (R209). -/
def run (a : Nat) (h : Homing) (vel d now : Int) (s : State) : State :=
  let x := s.axis a
  let m : Move := { vel := vel, acc := h.acc, dec := h.acc, jerk := h.jerk, jerkD := h.jerk, jog := true }
  let r := Plan.move x.st now m (x.p + d * 2 ^ 62) Plan.zero (Plan.toF vel 32)
  s.setAxis a { x with prof := some r.prof, homing := some h }

/-- Begins a ramp stop along ACC and JERK (R209). -/
def halt (a : Nat) (h : Homing) (now : Int) (s : State) : State :=
  let x := s.axis a
  if x.standstill then s.setAxis a { x with homing := some h }
  else s.setAxis a { x with prof := some (Plan.stopProfile x.st now h.acc h.jerk), homing := some h }

/-- Ends the homing with an outcome: it ramp-stops and completes at standstill (R213). -/
def fail (a outcome : Nat) (h : Homing) (now : Int) (s : State) : State :=
  halt a { h with outcome := outcome, phase := .ending } now s

/-- A limit edge the method does not handle (R210). -/
def limitFail (a : Nat) (h : Homing) (now : Int) (s : State) : State :=
  fail a (if h.tripped then 1 else 5) h now s

/-- Position of a captured edge (R205, R211). -/
def edgePos (x : Axis) (e : Edge) : Int :=
  Bits.fit 64 (
    if x.io.flags.testBit 2 then
      x.o + Bits.roundDiv ((x.e + Bits.signed 32 (Bits.unsigned 32 ((e.c : Int) - x.cLast))) * x.io.num * 2 ^ 24) x.io.den
    else Bits.roundShift e.g 40)

/-- Leaves the reference switch on its far side (R209, label leave). -/
def leave (a : Nat) (h : Homing) (now : Int) (s : State) : State :=
  if 0 < dir h * (s.axis a).v then halt a { h with phase := .leaveStop } now s
  else run a { h with phase := .leave } h.vApproach (-dir h) now s

/-- Whether a qualified edge is one of the reference switch in the chatter window (R209). -/
def inWindow (h : Homing) (q : Switch × Edge) : Bool :=
  h.t1.any fun e => decide (q.1 = reference h) && decide (e.ctime ≤ q.2.ctime) &&
    decide (q.2.ctime < e.ctime + h.chatterUs * 256000)

/-- One qualified edge of the axis's switches (R209, R210). -/
def onEdge (a : Nat) (now : Int) (s : State) (q : Switch × Edge) : State :=
  match (s.axis a).homing with
  | none => s
  | some h =>
    if q.1 = reference h then
      match h.phase with
      | .search => if q.2.level then leave a h now s else s
      | .reverseStop => if q.2.level then s.setAxis a { s.axis a with homing := some { h with phase := .leaveStop } } else s
      | .leave => if q.2.level then s else halt a { h with phase := .leaveEnd } now s
      | .approach =>
        if q.2.level then s.setAxis a { s.axis a with homing := some { h with phase := .window, t1 := some q.2, edges := 1 } }
        else s
      | .window => if inWindow h q then s.setAxis a { s.axis a with homing := some { h with edges := h.edges + 1 } } else s
      | _ => s
    else if q.1 = .home || !q.2.level then s
    else
      match h.phase with
      | .search =>
        if h.method < 2 && decide (q.1 = limitAhead h) then
          if h.reversed then fail a 1 h now s
          else halt a { h with phase := .reverseStop, reversed := true, tripped := true } now s
        else limitFail a h now s
      | .ending => s
      | .start => s
      | .failing => s
      | _ => limitFail a h now s

/-- Whether every edge of the chatter window can have qualified by this boundary (R212). -/
def windowClosed (x : Axis) (h : Homing) (e : Edge) (control : Int) : Bool :=
  decide (e.ctime + (h.chatterUs + x.io.debounceUs) * 256000 ≤ control)

/-- Defines the home point: the commit point of HOME (R211, R212, R497). -/
def define (a : Nat) (h : Homing) (e : Edge) (now : Int) (s : State) : State :=
  let x := s.axis a
  let ep := edgePos x e
  let d := h.homePos - ep
  let eE := x.e + Bits.signed 32 (Bits.unsigned 32 ((e.c : Int) - x.cLast))
  let shifted := x.prof.map fun pr => { pr with phases := pr.phases.map fun ph => { ph with p := ph.p + d } }
  let x1 := { x with o := Bits.fit 64 (x.o + d), p := Bits.fit 64 (x.p + d), prof := shifted, referenced := true, faulted := false
                     safeRef := some (h.homePos, eE, e.g / 2 ^ 64) }
  let s1 := (s.setAxis a x1).setChan a ((s.chan a).shift (d * 2 ^ 40))
  halt a { h with phase := .ending, defined := true, outcome := 0, edgePos := ep, homeEdge := e } now s1

/-- The verdict on the chatter window, once every edge in it can have qualified; edges that still wait for a tick count
(R209). -/
def judge (x : Axis) (h : Homing) (control : Int) : Homing :=
  match h.t1 with
  | none => h
  | some e =>
    if h.phase == .window && !h.judged && windowClosed x h e control then
      let n := h.edges + (x.edges.filter (inWindow h)).length
      if h.chatterCount < n then { h with outcome := 2, phase := .failing } else { h with judged := true }
    else h

/-- A qualified index edge: the first one after t1 ends methods 1 and 3 (R209, R214). -/
def onIndex (a : Nat) (s : State) (i : Edge) : State :=
  let x := s.axis a
  match x.homing with
  | none => s
  | some h =>
    if byIndex h && h.phase == .window && h.idx.isNone && h.t1.any fun e => decide (e.ctime < i.ctime) then
      s.setAxis a { x with homing := some { h with idx := some i } }
    else s

/-- What the homing decides at a tick after its edges (R209, R212). -/
def decideTick (a : Nat) (now : Int) (s : State) : State :=
  let x := s.axis a
  match x.homing with
  | none => s
  | some h0 =>
    let h := judge x h0 now
    match h.phase with
    | .reverseStop => if x.standstill then run a { h with phase := .search } h.vSearch (-dir h) now s else s
    | .leaveStop => if x.standstill then run a { h with phase := .leave } h.vApproach (-dir h) now s else s
    | .leaveEnd => if x.standstill then run a { h with phase := .approach } h.vApproach (dir h) now s else s
    | .failing => halt a { h with phase := .ending } now s
    | .window =>
      match h.t1 with
      | none => s
      | some e =>
        let s1 := s.setAxis a { x with homing := some h }
        if !byIndex h then (if h.judged then define a h e now s else s1)
        else if h.chatterCount < h.edges then s1
        else
          let far (p : Int) : Bool := decide ((h.idxMax : Int) * 1024 * 2 ^ 24 < (p - edgePos x e).natAbs)
          match h.idx with
          | some i => if far (edgePos x i) then fail a 3 h now s1 else define a h i now s1
          | none => if far (actualPos x (s.chan a)) then fail a 3 h now s1 else s1
    | _ => s

/-- The result of HOME (Table 5-4). -/
def result (h : Homing) : Nat :=
  Bits.unsigned 64 (if h.defined then h.edgePos else 0) + h.outcome * 2 ^ 64 + min 255 h.edges * 2 ^ 72 +
    h.homeEdge.time % 256 * 2 ^ 80 + Bits.b2n h.reversed * 2 ^ 88 + Time.nanos h.homeEdge.time * 2 ^ 96

/-- Completes a homing that has come to standstill (R213). -/
def finish (a : Nat) (s : State) : State :=
  let x := s.axis a
  match x.homing with
  | none => s
  | some h =>
    if h.phase == .ending && x.standstill then
      let s0 := s.setAxis a { x with homing := none, referenced := x.referenced && h.defined, index := [] }
      let s1 := if h.aborted then s0 else Ops.complete h.org .done 0 (result h) s0
      if h.defined then
        Ops.raise Event.homeDone (mkSrc 1 1 a) (Time.nanos h.homeEdge.time) (Time.secs h.homeEdge.time) s1
      else Ops.raise Event.homeFail (mkSrc 1 1 a) h.outcome 0 s1
    else s

/-- Merges switch edges and index edges by timestamp, with equal timestamps the switch edge first (R214). -/
def merge : List (Switch × Edge) → List Edge → List (Sum (Switch × Edge) Edge)
  | [], is => is.map .inr
  | q :: qs, is =>
    (is.filter fun i => decide (i.ctime < q.2.ctime)).map .inr ++ .inl q :: merge qs (is.filter fun i => !decide (i.ctime < q.2.ctime))

/-- The homing's part of a servo tick, before the commands of that tick: its edges in time order, then its decision (R209,
R214). Index edges stay until the homing ends, since t1 may qualify after them. -/
def tick (a : Nat) (now : Int) (s0 : State) : State :=
  let x := s0.axis a
  let one (s : State) (q : Sum (Switch × Edge) Edge) : State :=
    match q with
    | .inl e => onEdge a now s e
    | .inr i => onIndex a s i
  decideTick a now ((merge x.edges x.index).foldl one (s0.setAxis a { x with edges := [] }))

/-- The start of homing at its tick (R208, R209). -/
def start (a : Nat) (now : Int) (s : State) : State :=
  let x := s.axis a
  match x.homing with
  | none => s
  | some h0 =>
    if h0.phase == .start && (!x.standstill || !x.queue.isEmpty || x.follow.isSome) then
      Ops.complete h0.org .refused 0x1F 0 (s.setAxis a { x with homing := none })
    else if h0.phase == .start then
      let h := { h0 with phase := .search }
      let s1 := Ops.interim h.org .accepted 0 (s.setAxis a { x with edges := [], index := [] })
      if ((s.chan a).input (reference h)).active then leave a h now s1
      else run a h h.vSearch (dir h) now s1
    else s

/-- HOME_CHATTER_WINDOW_END (R209): the window's edges are judged. -/
def chatterWindowEnd (a : Nat) (s : State) : State :=
  let x := s.axis a
  match x.homing with
  | none => s
  | some h => s.setAxis a { x with homing := some (judge x h s.tm.control) }

/-- HOME (R208). -/
def home (c : Cmd) (s : State) : Reply :=
  let a := c.unit
  let x := s.axis a
  let h : Homing :=
    { org := c.origin 0x0206, method := Arg.u c 0 1, neg := (Arg.u c 1 1).testBit 0, chatterCount := Arg.u c 2 1
      chatterUs := Arg.u c 4 2, idxMax := Arg.u c 6 2, vSearch := Arg.s c 8 8, vApproach := Arg.s c 16 8
      acc := Arg.s c 24 8, jerk := Arg.s c 32 8, homePos := Arg.s c 40 8 }
  if !s.enabled 0 then .refuse 0x10
  else if x.barred then .refuse 0x19
  else if x.isHoming || !x.standstill || !x.queue.isEmpty || x.follower then .refuse 0x1F
  else if decide (s.permMode = .commission) && Mot.otherMoves s a then .refuse 0x16
  else if decide (3 < h.method) || decide (h.chatterCount = 0) || decide (32 < h.chatterCount) ||
      decide (h.chatterUs < 100) || decide (byIndex h = decide (h.idxMax = 0)) ||
      decide (h.vSearch ≤ 0) || decide (x.lim.vel < h.vSearch) || decide (h.vApproach ≤ 0) ||
      decide (h.vSearch < h.vApproach) || decide (h.acc ≤ 0) || decide (x.lim.acc < h.acc) || decide (h.jerk ≤ 0) ||
      decide (x.lim.jerk < h.jerk) then .refuse 0x1D
  else .quiet (s.setAxis a { x with homing := some h, tickQ := x.tickQ ++ [(s.tm.frame, .home)] })

end Home

end Sys2Proof.Machine
end

