-- ==== Sys2Proof/Machine/Servo.lean ====
section
/-!
DEFINITION. The servo tick (R149, R150, R155, R172, R178, R185, R191, R195, R203, R207): one row for all axes.
-/

namespace Sys2Proof.Machine

namespace Servo

/-- Accumulator strobes from this boundary to the next servo tick boundary (R191). -/
def strobes (s : State) : Nat :=
  let c := s.tm.control
  let n := s.tickFrames - s.tm.frame % s.tickFrames
  let c1 := c + (n * frame256 : Nat)
  ((c1 + 5119) / 5120 - (c + 5119) / 5120).toNat

/-- A missed evaluation (R81, R82, R173, R195): two in a row start a ramp stop from the profile at this tick.
Log: 46 (DEDUCED, unsafe). -/
def miss (a : Nat) (now : Int) (s0 : State) : State :=
  let x0 := s0.axis a
  let s1 := Ops.raiseLimited Event.motionOverrun (mkSrc 1 1 a) 0
    (s0.setAxis a { x0 with misses := x0.misses + 1, missNow := false })
  if x0.misses = 1 then
    let s2 := Mot.evalAxis a now s1
    Mot.beginStop a .ramp 3 now { s2 with mot.missStops := Bits.satInc 8 s2.mot.missStops }
  else s1

/-- A hardware limit in the direction of motion (R207). -/
def hwLimit (a : Nat) (now : Int) (s : State) : State :=
  let x := s.axis a
  let hit (q : Switch × Edge) : Option Nat :=
    if !q.2.level then none
    else match q.1 with
      | .limitPos => if 0 < x.v then some 0 else none
      | .limitNeg => if x.v < 0 then some 1 else none
      | .home => none
  let s1 := s.setAxis a { x with edges := [] }
  if x.io.flags.testBit 6 && x.homing.isNone then
    match x.edges.findSome? hit with
    | some k => Mot.beginStop a .quick 10 now (Ops.raise Event.axisHwLimit (mkSrc 1 1 a) k 0 s1)
    | none => s1
  else s1

/-- Following error of a tick and its run over FE_LIMIT (R203). -/
def followError (a : Nat) (s : State) : State :=
  let x := s.axis a
  let ch := s.chan a
  let g := Bits.fit 64 (Bits.roundShift ch.g 40)
  let act := actualPos x ch
  let fe := match x.io.output with
    | 1 => Bits.fit 64 (g - act)
    | 2 => Bits.fit 64 (x.p - act)
    | _ => 0
  let beyond := decide (x.io.feLimit ≠ 0) && decide ((x.io.feLimit : Int) * 2 ^ 24 < fe.natAbs)
  s.setAxis a { x with fe := fe, shownA := act, feRun := if beyond then x.feRun + 1 else 0 }

/-- Sends the increment of an axis with OUTPUT 1 (R191); for a tick that begins with the outputs held off it is 0 (R196).
Log: 39 (DEDUCED, unsafe). -/
def sendIncrement (a : Nat) (s : State) : State :=
  let x := s.axis a
  if x.io.output ≠ 1 then s
  else if !s.stepsOn then s.setChan a ((s.chan a).drive 0 (s.chan a).neg)
  else
    let ch := s.chan a
    let d := x.p * 2 ^ 40 - ch.g
    let inc := (Bits.roundDiv ((d.natAbs : Int) * 1) (max 1 (strobes s))).toNat
    let cut := decide (0x3333333333333333 < inc)
    let neg := if d = 0 then ch.neg else decide (d < 0)
    let s1 := s.setChan a (ch.drive (min inc 0x3333333333333333) neg)
    if cut then
      Ops.count 1 19 1 (Ops.raiseLimitedWith Event.stepRateClamp (mkSrc 1 1 a) 0 0 { s1 with mot.rateClamp := true })
    else s1

/-- The axes with anything to evaluate. -/
def active (s : State) : List Nat := s.mot.axes.map (·.1)

/-- Completes every STOP whose axes stand still (R172) and every OVERRIDE whose tick has come (R175). -/
def completions (s0 : State) : State :=
  let f := s0.tm.frame
  let isDone (k : StopCmd) : Bool :=
    decide (k.app < f) && (Bits.bitsOf k.mask 64).all fun a => (s0.axis a).standstill
  let s1 := (s0.mot.stops.filter isDone).foldl (fun s k => Ops.complete k.org .done 0 f s) s0
  let s2 := (s0.mot.ovrs.filter fun k => decide (k.app < f)).foldl (fun s k => Ops.complete k.org .done 0 0 s) s1
  { s2 with mot.stops := s0.mot.stops.filter fun k => !isDone k
            mot.ovrs := s0.mot.ovrs.filter fun k => !decide (k.app < f) }

/-- Whether axes are evaluated in the present mode (Table 3-2). Log: 46 (DEDUCED, unsafe). -/
def evaluates (m : Mode) : Bool :=
  match m with
  | .commission => true
  | .run => true
  | .hold => true
  | .degraded => true
  | .safeStop => true
  | _ => false

/-- Evaluates all axes, followers after their masters (R150, R180). -/
def evaluate (now : Int) (s0 : State) : State :=
  let axes := active s0
  let ok (a : Nat) : Bool := !(s0.axis a).missNow
  let s1 := (axes.filter ok).foldl (fun s a => Mot.evalAxis a now (s.setAxis a { s.axis a with misses := 0 })) s0
  let followers := axes.filter fun a => ok a && (s0.axis a).follow.isSome
  let depth (a : Nat) : Nat := match (s0.axis a).follow with
    | some f => Mot.depthAbove (·.follow) s0 4 f.master
    | none => 0
  let s2 := [1, 2, 3, 4, 5].foldl (fun s d => (followers.filter fun a => decide (depth a = d)).foldl
    (fun s a => Mot.tickFollower a now s) s) s1
  (axes.filter fun a => !ok a).foldl (fun s a => miss a now s) s2

/-- One axis after its evaluation: homing, limits, commands, starts. -/
def act (now : Int) (s : State) (a : Nat) : State :=
  let s1 := if (s.axis a).homing.isSome then Home.tick a now s else hwLimit a now s
  Home.finish a (Mot.tickCommands Home.start a now s1)

/-- SERVO_TICK (R149, R150). Log: 98 (DEDUCED, safe). -/
def servoTick (s : State) : State :=
  if !s.tm.due s.tickFrames 0 || decide (s.mot.lastTick = s.tm.frame + 1) then s
  else if !s.enabled 0 then { s with mot.lastTick := s.tm.frame + 1 }
  else if !evaluates s.md.mode then AxisIo.latchShown { s with mot.lastTick := s.tm.frame + 1 }
  else
    let now := s.tm.control
    let axes := active s
    let late := axes.filter fun a => (s.axis a).missNow
    let inTime := axes.filter fun a => !(s.axis a).missNow
    let s1 := evaluate now { s with mot.lastTick := s.tm.frame + 1 }
    let s2 := inTime.foldl (act now) s1
    let s3 := late.foldl (fun s a => Home.finish a (if 2 ≤ (s.axis a).misses then Mot.tickCommands Home.start a now s else s)) s2
    let s4 := inTime.foldl (fun s a => sendIncrement a s) (axes.foldl (fun s a => followError a s) s3)
    AxisIo.latchShown (Ops.count 1 16 inTime.length (completions s4))

/-- FOLLOW_MASTER_LOST (R181), at a servo tick boundary whose tick has been taken. -/
def followMasterLost (a : Nat) (s : State) : State :=
  match (s.axis a).follow with
  | none => s
  | some f =>
    if Mot.masterLost f && decide (s.mot.lastTick = s.tm.frame + 1) then
      Mot.beginStop a .quick 7 s.tm.control (Ops.raise Event.followMasterLost (mkSrc 1 1 a) 0 0 s)
    else s

/-- AXIS_FE_FAULT (R203). -/
def axisFeFault (a : Nat) (s : State) : State :=
  let x := s.axis a
  if decide (x.io.feLimit ≠ 0) && decide (x.io.feTicks ≤ x.feRun) && !x.faulted then
    Mot.axisFault a (Ops.raise Event.axisFeFault (mkSrc 1 1 a) (Ops.p32 (wholeCounts x.fe)) 0 s)
  else s

end Servo

end Sys2Proof.Machine
end

