-- ==== Sys2Proof/Machine/Aborts.lean ====
section
/-!
DEFINITION. ABORT (R50 to R54, R555): the lookup of its target among the field-side operations and the host DMA chains, and
what an abort before the commit point leaves (Table 1-8).
-/

namespace Sys2Proof.Machine.Aborts

/-- Whether a command is the one an ABORT names: by tag and session; a recipe's own actions have no tag (R555).
Log: 78 (DEDUCED, unsafe). -/
def names (c : Cmd) (o : Origin) : Bool :=
  let ses := Arg.u c 4 2
  decide (o.tag = Arg.u c 0 4) && decide (o.session = if ses = 0 then c.session.toNat else ses) && decide (o.sq < 32)

/-! Motion: a move has its commit point at the servo tick that starts it. -/

/-- The origin of a command that waits for its tick. Log: 44 (DEDUCED, unsafe). -/
def tickOrigin : TickCmd → Option Origin
  | .replace m _ => some m.org
  | .follow f => some f.org
  | .jog m => some m.org
  | _ => none

/-- Whether a HOME has neither reached its commit point nor ended its search (R212). -/
def homeOpen (h : Homing) : Bool := !h.defined && h.phase != .ending && h.phase != .failing

/-- Whether a motion command waits in the queue or for its tick, on one axis. -/
def waits (hit : Origin → Bool) (x : Axis) : Bool :=
  (x.queue.any fun m => !m.started && hit m.org) || (x.tickQ.any fun q => (tickOrigin q.2).any hit) ||
    x.homing.any fun h => homeOpen h && hit h.org

/-- Takes a waiting command off its axis (Table 1-8: the queue behind it closes up). -/
def remove (hit : Origin → Bool) (x : Axis) : Axis :=
  let home := x.homing.any fun h => h.phase == .start && hit h.org
  { x with
    queue := x.queue.filter fun m => m.started || !hit m.org
    tickQ := x.tickQ.filter fun q => !(tickOrigin q.2).any hit && !(home && q.2 == .home)
    homing := if home then none else x.homing, relook := true }

/-- The origin a waiting motion command has. -/
def waiting (hit : Origin → Bool) (x : Axis) : Option Origin :=
  ((x.queue.map (·.org)) ++ x.tickQ.filterMap (fun q => tickOrigin q.2) ++ (x.homing.map (·.org)).toList).find? hit

/-- Whether the tick of this boundary still comes and is the commit point of a waiting command (R51).
Log: 78 (DEDUCED, unsafe). -/
def commitsNow (hit : Origin → Bool) (a : Nat) (s : State) : Bool :=
  let t := Servo.servoTick s
  !waits hit (t.axis a) && !(t.hbd.compls.any fun k => hit k.org && decide (k.status = .aborted))

/-- An abort of a MOVE, JOG, FOLLOW or HOME that has not started. Log: 44 (DEDUCED, unsafe). -/
def motion (hit : Origin → Bool) (s : State) : Option (State × Status) :=
  match s.mot.axes.find? fun q => waits hit q.2 with
  | none => none
  | some q =>
    let a := q.1
    if commitsNow hit a s then some (s, .nothingToAbort)
    else
      match q.2.homing.filter fun h => h.phase != .start && homeOpen h && hit h.org, waiting hit q.2 with
      | some h, _ =>
        -- a homing in progress ramp-stops; it has defined nothing
        some (Home.fail a 4 { h with aborted := true } s.tm.control (Ops.complete h.org .aborted 0 0 s), .done)
      | none, none => none
      | none, some o => some (Ops.complete o .aborted 0 0 (s.setAxis q.1 (remove hit q.2)), .done)

/-! Loops, captures, programs, safety. -/

/-- An abort of a loop change that waits for its slot boundary (R221); at that boundary the commit wins. -/
def loop (hit : Origin → Bool) (s : State) : Option (State × Status) :=
  match s.loop.slots.find? fun q => q.2.ops.any fun p => hit p.1 with
  | none => none
  | some (u, x) =>
    if Loop.boundaryDue s u x then some (s, .nothingToAbort)
    else
      match x.ops.find? fun p => hit p.1 with
      | none => none
      | some p => some (Ops.complete p.1 .aborted 0 0 (s.setSlot u { x with ops := x.ops.filter fun p => !hit p.1 }), .done)

/-- An abort of CAPTURE_ARM, which completes the ABORT by itself: at a boundary with a sample still to come it waits
(R306). -/
def capture (hit : Origin → Bool) (o : Origin) (s : State) : Option State :=
  match s.acq.cap.find? fun q => q.2.arm.any hit with
  | none => none
  | some (e, x) =>
    if AcqOps.sampleDue e s then some (AcqOps.setCap s e { x with ends := x.ends ++ [(true, o)] })
    else some (AcqOps.actAbort e o s)

/-- An abort of PROG_CHANGE before its cycle start; a cycle that starts at this boundary takes it (R51, R369).
Log: 78 (DEDUCED, unsafe). -/
def change (hit : Origin → Bool) (s : State) : Option (State × Status) :=
  match s.prog.tasks.find? fun q => q.2.changes.any fun h => hit h.org with
  | none => none
  | some (t, x) =>
    if !((Prog.startAll s).task t).changes.any fun h => hit h.org then some (s, .nothingToAbort)
    else
      match x.changes.find? fun h => hit h.org with
      | none => none
      | some h =>
        some (Ops.complete h.org .aborted 0 0 (s.setTask t { x with changes := x.changes.filter fun h => !hit h.org }), .done)

/-- An abort of SAFETY_COMMIT before the boundary at which it takes effect (R513). -/
def commit (hit : Origin → Bool) (s : State) : Option (State × Status) :=
  match s.saf.commit with
  | some (o, _) => if hit o then some (Ops.complete o .aborted 0 0 { s with saf.commit := none }, .done) else none
  | none => none

/-- Whether a message brings data of a load. -/
def loadOf (e : Entry) : DownBody → Bool
  | .bulk (.load session tag _ _) => decide (session = e.cmd.session) && decide (tag = e.cmd.tag)
  | _ => false

/-- An abort of a command that has not reached its application frame; an abort cannot be aborted (R53). -/
def unapplied (hit : Origin → Bool) (s : State) : Option (State × Status) :=
  let is (d : Down) : Bool := match d.body with
    | .command e => hit (Dma.originOf e)
    | _ => false
  match s.hbd.down.find? is with
  | none => none
  | some d =>
    match d.body with
    | .command e =>
      if e.opcode = 0x0A01 then some (s, .nothingToAbort)
      else some (Ops.complete (Dma.originOf e) .aborted 0 0
        { (Dma.unstage e.cmd s).2 with hbd.down := s.hbd.down.filter fun d => !is d && !loadOf e d.body }, .done)
    | _ => none

/-- The first lookup that finds the target. -/
def firstHit (s : State) : List (State → Option (State × Status)) → Option (State × Status)
  | [] => none
  | f :: t => (f s).orElse fun _ => firstHit s t

/-- ABORT of a field-side operation at its application frame (R51 to R53). Log: 78 (DEDUCED, unsafe). -/
def field (c : Cmd) (s : State) : State :=
  let o := c.origin 0x0A01
  let hit := names c
  match capture hit o s with
  | some t => t
  | none =>
    match firstHit s [unapplied hit, motion hit, loop hit, Seq.abort hit, Net.abort hit, change hit, commit hit] with
    | some (t, st) => Ops.complete o st 0 0 t
    | none => Ops.complete o .nothingToAbort 0 0 s

/-- ABORT of what the HBD has in hand: a chain, or a load it has not sent yet; none when the target is none of these
(R555). Log: 78 (DEDUCED, unsafe). -/
def host (c : Cmd) (s : State) : Option State :=
  let o := c.origin 0x0A01
  let ses := Arg.u c 4 2
  let session := if ses = 0 then c.session.toNat else ses
  match Dma.target s (Arg.u c 0 4) session with
  | some h =>
    let (t, ok) := Dma.abortChain h s
    some (Ops.completeHbd o (if ok then .done else .nothingToAbort) 0 0 t)
  | none =>
    match Dma.loadTarget s (Arg.u c 0 4) session with
    | some e => some (Ops.completeHbd o .done 0 0 (Dma.abortLoad e s))
    | none => none

/-- ABORT: what the HBD has in hand at once, everything else as the field side finds it. Log: 78 (DEDUCED, unsafe). -/
def abort (c : Cmd) (s : State) : State := (host c s).getD (field c s)

end Sys2Proof.Machine.Aborts
end

