-- ==== Sys2Proof/Machine/Debug.lean ====
section
/-!
DEFINITION. Closing the debug scopes, and the test access ports (R611, R647).
-/

namespace Sys2Proof.Machine.Debug

/-- Closes scopes; when field scope closes, the field side is reset as by MODE_FORCE (R611). -/
def close (hbd field : Bool) (s : State) : State :=
  let s1 := { s with trust.hbdScope := s.trust.hbdScope && !hbd, trust.fieldScope := s.trust.fieldScope && !field }
  if field && s.trust.fieldScope then Modes.forceReset s1 else s1

/-- DEBUG_LOCK closes both scopes; the command completes before the field side's reset (R611). Log: 90 (DEDUCED, unsafe). -/
def lock (c : Cmd) (s : State) : Reply :=
  .quiet (close true true (Ops.completeHbd (c.origin 0x0922) .done 0 0 s))

/-- The least lifetime end of the open scopes. Log: 90 (DEDUCED, unsafe). -/
def nextEnd (s : State) : Int :=
  let t := s.trust
  if t.hbdScope && t.fieldScope then min t.hbdUntil t.fieldUntil else if t.hbdScope then t.hbdUntil else t.fieldUntil

/-- DEBUG_SCOPE_EXPIRY: the scope whose LIFETIME_S ends first closes once it has ended; both when they end together (R611).
Log: 90 (DEDUCED, unsafe). -/
def scopeExpiry (t : Instant) (s : State) : State :=
  let e := nextEnd s
  if s.tm.controlAt t < e then s
  else close (s.trust.hbdScope && decide (s.trust.hbdUntil = e)) (s.trust.fieldScope && decide (s.trust.fieldUntil = e)) s

/-- Whether the scope of a test access port is open (R610, R647). Log: 11 (DESIGN CHOICE, safe). -/
def tapOpen (fieldTap : Bool) (s : State) : Bool := if fieldTap then s.trust.fieldScope else s.trust.hbdScope

/-- TAP_INSTRUCTION: BYPASS, which changes nothing, until the scope is open; what an instruction does then the spec does not
say (R647). Log: 11 (DESIGN CHOICE, safe). -/
def tapInstruction (fieldTap : Bool) (s : State) : Answer :=
  if tapOpen fieldTap s then .refused .debugTapOpen else .next s

end Sys2Proof.Machine.Debug
end

