-- ==== Sys2Proof/Machine/Commands.lean ====
section
/-!
DEFINITION. The commands of the submission rings: for each its opcode, the element it names, its format, the modes that
permit
it and its effect at its application frame, with the completion it enters (R8 to R12, R39 to R43, R107, R655).
-/

namespace Sys2Proof.Machine.Cmds

/-! Permitted modes. -/

/-- Every mode after BOOT. -/
def anyMode (_ : Mode) : Bool := true

/-- CONFIGURE only. -/
def confOnly (m : Mode) : Bool := decide (m = .configure)

/-- CONFIGURE and COMMISSION, for a motion command of the return mode too. -/
def setupModes (m : Mode) : Bool := decide (m = .configure) || decide (m = .commission)

/-- CONFIGURE and COMMISSION. -/
def setupOnly (m : Mode) : Bool := decide (m = .configure) || decide (m = .commission)

/-- RUN. -/
def runOnly (m : Mode) : Bool := decide (m = .run)

/-- COMMISSION. -/
def commOnly (m : Mode) : Bool := decide (m = .commission)

/-- COMMISSION and RUN. -/
def commRun (m : Mode) : Bool := decide (m = .commission) || decide (m = .run)

/-- RUN and HOLD. -/
def runHold (m : Mode) : Bool := decide (m = .run) || decide (m = .hold)

/-- CONFIGURE, RUN and HOLD. -/
def confRunHold (m : Mode) : Bool := decide (m = .configure) || runHold m

/-- COMMISSION, RUN, HOLD and DEGRADED. -/
def live (m : Mode) : Bool := m.live

/-- COMMISSION onward, SAFE_STOP included. -/
def fromComm (m : Mode) : Bool := m.live || decide (m = .safeStop)

/-- Every mode after BOOT but SAFE_STOP (R101). -/
def timeModes (m : Mode) : Bool := decide (m ≠ .safeStop)

/-- CONFIGURE, COMMISSION, RUN and HOLD (R483). -/
def swapModes (m : Mode) : Bool := setupOnly m || runHold m

/-! Elements and formats. -/

/-- A loop slot or a servo loop. Log: 48 (DEDUCED, unsafe). -/
def slotUnit (u : Nat) : Bool := decide (u < 832)

/-- A capture engine. -/
def engine (u : Nat) : Bool := decide (32 ≤ u) && decide (u < 96)

/-- A step sequencer. -/
def seqUnit (u : Nat) : Bool := decide (16 ≤ u)

/-- A task number (R655). Log: 96 (DEDUCED, unsafe). -/
def taskOk (c : Cmd) : Bool := decide (Arg.u c 0 2 < 1024)

/-- FOLLOW: the master's Locator names an axis with die field 1, SOURCE 0 or 1 (Table 4-9, R39, R655).
Log: 43 (DEDUCED, unsafe), 96 (DEDUCED, unsafe). -/
def followFormat (c : Cmd) : Bool :=
  let l := Arg.u c 0 4
  locDefined l && decide (locDie l = 1) && decide (locRegion l = 1) && decide (Arg.u c 12 1 < 2) && Arg.zeroFrom c 16

/-- LOOP_SLOT: reserved bits and bytes zero, REMOTE a Locator (Table 6-7, R39). -/
def slotFormat (c : Cmd) : Bool :=
  decide (Arg.u c 1 1 < 4) && decide (Bits.field (Arg.u c 35 1) 6 2 = 0) && Arg.zero c 37 1 && Arg.zeroFrom c 45 &&
    locDefined (Arg.u c 24 4)

/-- The Locators of NET_PUBS (Table 12-9, R39). -/
def pubLocs (c : Cmd) : Bool :=
  (List.range (min 3 (Arg.u c 0 1))).all fun j => locDefined (Arg.u c (12 + 12 * j) 4)

/-! How a command is carried out. -/

/-- Enters the completion; a checked configuration change has taken the draw its budget test depends on (R78, R136). -/
def fin (op : Nat) (c : Cmd) (s : State) (r : Reply) : State :=
  let t := Ops.finish Checks.ofCommand (c.origin op) s r
  match r with
  | .config _ _ => t.draw
  | .configLater _ _ _ => t.draw
  | _ => t

/-- A command that names an element of the pair. -/
def pairCmd (op region : Nat) (unit : Nat → Bool) (fmt read : Bool) (ok : Mode → Bool) (c : Cmd) (s : State) (r : Reply) :
    State :=
  fin op c s (Ops.pre c (c.namesPair s.nodeId region unit) fmt read ok s r)

/-- A motion command: in DEGRADED it is accepted as in the return mode (R656). -/
def motionCmd (op : Nat) (unit : Nat → Bool) (fmt : Bool) (ok : Mode → Bool) (c : Cmd) (s : State) (r : Reply) : State :=
  pairCmd op 1 unit fmt false (fun _ => ok s.permMode) c s r

/-- A command that names a stage of a slot (R37). -/
def stageCmd (op : Nat) (fmt : Bool) (ok : Mode → Bool) (c : Cmd) (s : State) (r : Reply) : State :=
  fin op c s (Ops.pre c (c.namesPair s.nodeId 2 slotUnit fun i => decide (1 ≤ i)) fmt false ok s r)

/-- A command of the time service: the spec names the pair without an element, so any is taken. -/
def timeCmd (op : Nat) (fmt : Bool) (ok : Mode → Bool) (c : Cmd) (s : State) (r : Reply) : State :=
  fin op c s (Ops.pre c (c.namesPair s.nodeId (locRegion c.locN) fun _ => true) fmt false ok s r)

/-- A safety command: it keeps the session alive (R511). -/
def safetyCmd (op : Nat) (unit : Nat → Bool) (fmt read : Bool) (ok : Mode → Bool) (c : Cmd) (s : State)
    (body : State → Reply) : State :=
  let t := Safe.touch s
  pairCmd op 6 unit fmt read ok c t (body t)

/-- A command of the HBD. -/
def hbdCmd (op region : Nat) (unit : Nat → Bool) (fmt : Bool) (ok : Mode → Bool) (c : Cmd) (s : State) (r : Reply) : State :=
  Ops.finishHbd (c.origin op) s (Ops.hbdPre c (c.namesDie s.nodeId 0 region unit) fmt ok s r)

/-- PAIR_SWAP's tests: a fault flagged for the boundary comes before the mode (Table 13-6). -/
def swapPre (c : Cmd) (s : State) : Reply :=
  let named := c.namesPair s.nodeId 7 fun u => decide (u = 0)
  Ops.pre c named (Arg.zeroFrom c 0) (Pair.swapLost s && c.isPair) (fun m => swapModes m || Pair.swapLost s) s
    (if Pair.swapLost s then .refuse 0x75 else Pair.swap s)

/-- NOP: DONE with the frame number of its application frame (Table 15-7). -/
def nopReply (s : State) : Reply := .done s (s.tm.frame % 2 ^ 64)

/-! The commands. -/

/-- TIME_SET, opcode 0x0530. Log: 24 (DEDUCED, unsafe). -/
def timeSet (c : Cmd) (s : State) : State :=
  timeCmd 0x0530 (TimeCmd.setFormat c) timeModes c s (TimeCmd.timeSet c s)

/-- TXTS_READ, opcode 0x0531. Log: 24 (DEDUCED, unsafe). -/
def txtsRead (c : Cmd) (s : State) : State :=
  timeCmd 0x0531 (decide (Arg.u c 0 1 < 2) && Arg.zeroFrom c 1) anyMode c s (Sys2Proof.Machine.txtsRead c s)

/-- MODE_REQUEST, opcode 0x0701. Log: 31 (DEDUCED, unsafe). -/
def modeRequest (c : Cmd) (s : State) : State :=
  pairCmd 0x0701 7 (fun u => decide (u = 0)) (c.isPair && Modes.targetOk (Arg.u c 0 1) && Arg.zeroFrom c 1) false anyMode c s
    (Modes.request c s)

/-- AXIS_LIMITS, opcode 0x0110. -/
def axisLimits (c : Cmd) (s : State) : State :=
  motionCmd 0x0110 (fun u => decide (u < 64)) (decide (Arg.u c 40 2 < 4) && Arg.zeroFrom c 42) setupModes c s
    (Mot.axisLimits c s)

/-- AXIS_STOPS, opcode 0x0111. -/
def axisStops (c : Cmd) (s : State) : State :=
  motionCmd 0x0111 (fun u => decide (u < 64)) (Arg.zeroFrom c 32) setupModes c s (Mot.axisStops c s)

/-- AXIS_IO, opcode 0x0112. -/
def axisIo (c : Cmd) (s : State) : State :=
  motionCmd 0x0112 (fun u => decide (u < 64)) (decide (Arg.u c 2 1 < 128) && decide (Arg.u c 3 1 < 4) && decide (Arg.u c 5 1 < 8) && Arg.zeroFrom c 21) setupModes c s
    (AxisIo.axisIo c s)

/-- MOVE, opcode 0x0201. -/
def move (c : Cmd) (s : State) : State :=
  motionCmd 0x0201 (fun u => decide (u < 64)) (decide (Arg.u c 44 2 < 4) && Arg.zeroFrom c 46) runHold c s
    (Mot.move c s)

/-- STOP, opcode 0x0202. -/
def stop (c : Cmd) (s : State) : State :=
  pairCmd 0x0202 1 (fun u => decide (u = 0)) (decide (Arg.u c 8 1 < 2) && Arg.zeroFrom c 9) false live c s
    (Mot.stop c s)

/-- OVERRIDE, opcode 0x0203. -/
def override (c : Cmd) (s : State) : State :=
  motionCmd 0x0203 (fun u => decide (u = 0)) (Arg.zeroFrom c 10) runHold c s (Mot.override c s)

/-- FOLLOW, opcode 0x0204. -/
def follow (c : Cmd) (s : State) : State :=
  motionCmd 0x0204 (fun u => decide (u < 64)) (followFormat c) runOnly c s (Mot.follow c s)

/-- JOG, opcode 0x0205. -/
def jog (c : Cmd) (s : State) : State :=
  motionCmd 0x0205 (fun u => decide (u < 64)) (Arg.zeroFrom c 24) commOnly c s (Mot.jog c s)

/-- HOME, opcode 0x0206. -/
def home (c : Cmd) (s : State) : State :=
  motionCmd 0x0206 (fun u => decide (u < 64)) (decide (Arg.u c 1 1 < 2) && Arg.zero c 3 1) commRun c s (Home.home c s)

/-- AXIS_STATUS, opcode 0x0220. -/
def axisStatus (c : Cmd) (s : State) : State :=
  pairCmd 0x0220 1 (fun u => decide (u < 64)) (Arg.zeroFrom c 0) true anyMode c s (Mot.axisStatus c s)

/-- ENCODER_STATUS, opcode 0x0221. -/
def encoderStatus (c : Cmd) (s : State) : State :=
  pairCmd 0x0221 1 (fun u => decide (u < 64)) (Arg.zeroFrom c 0) true anyMode c s (AxisIo.encoderStatus c s)

/-- LOOP_SLOT, opcode 0x0120. -/
def loopSlot (c : Cmd) (s : State) : State :=
  pairCmd 0x0120 2 (slotUnit) (slotFormat c) false confOnly c s (Loop.loopSlot c s)

/-- LOOP_STAGE, opcode 0x0121. -/
def loopStage (c : Cmd) (s : State) : State :=
  pairCmd 0x0121 2 (slotUnit) (Loop.stageFormat c && (decide (Arg.u c 1 1 ≠ 8) || locDefined (Arg.u c 10 4))) false setupModes c s
    (Loop.loopStage c s)

/-- LOOP_TABLE, opcode 0x0122. -/
def loopTable (c : Cmd) (s : State) : State :=
  pairCmd 0x0122 2 (slotUnit) (decide (7 < Arg.u c 3 1) || Arg.zeroFrom c (4 + 6 * Arg.u c 3 1)) false setupModes c s
    (Loop.loopTable c s)

/-- LOOP_SETPOINT, opcode 0x0301. -/
def loopSetpoint (c : Cmd) (s : State) : State :=
  pairCmd 0x0301 2 (slotUnit) (Arg.zeroFrom c 3) false fromComm c s (Loop.loopSetpoint c s)

/-- LOOP_MODE, opcode 0x0302. -/
def loopMode (c : Cmd) (s : State) : State :=
  pairCmd 0x0302 2 (slotUnit) (decide (Arg.u c 0 1 < 2) && Arg.zeroFrom c 4) false fromComm c s (Loop.loopMode c s)

/-- LOOP_SET, opcode 0x0303. -/
def loopSet (c : Cmd) (s : State) : State :=
  pairCmd 0x0303 2 (slotUnit) (decide (Arg.u c 0 1 < 2) && Arg.zeroFrom c 1) false fromComm c s (Loop.loopSet c s)

/-- LOOP_PRESET, opcode 0x0304. -/
def loopPreset (c : Cmd) (s : State) : State :=
  stageCmd 0x0304 (Arg.zeroFrom c 6) fromComm c s (Loop.loopPreset c s)

/-- LOOP_OSC_CLEAR, opcode 0x0305. -/
def loopOscClear (c : Cmd) (s : State) : State :=
  pairCmd 0x0305 2 (slotUnit) (Arg.zeroFrom c 0) false fromComm c s (Loop.loopOscClear c s)

/-- LOOP_STATUS, opcode 0x0320. -/
def loopStatus (c : Cmd) (s : State) : State :=
  pairCmd 0x0320 2 (slotUnit) (Arg.zeroFrom c 0) true anyMode c s (Loop.loopStatus c s)

/-- ADC_CONVERTER, opcode 0x0130. -/
def adcConverter (c : Cmd) (s : State) : State :=
  pairCmd 0x0130 3 (fun u => decide (u < 32)) (Arg.zeroFrom c 20) false confOnly c s (Adc.converter c s)

/-- ADC_SEQUENCE, opcode 0x0131. -/
def adcSequence (c : Cmd) (s : State) : State :=
  pairCmd 0x0131 3 (fun u => decide (u < 32)) (Adc.sequenceFormat c) false confOnly c s (Adc.sequence c s)

/-- ADC_DMA, opcode 0x0132. -/
def adcDma (c : Cmd) (s : State) : State :=
  pairCmd 0x0132 3 (fun u => decide (96 ≤ u)) (Arg.zero c 5 3 && Arg.zeroFrom c 12) false confOnly c s (Adc.dma c s)

/-- ADC_STATUS, opcode 0x0420. -/
def adcStatus (c : Cmd) (s : State) : State :=
  pairCmd 0x0420 3 (fun u => decide (u < 32)) (Arg.zeroFrom c 0) true anyMode c s (Adc.status c s)

/-- ACQ_TAP_ASSIGN, opcode 0x0140. -/
def acqTapAssign (c : Cmd) (s : State) : State :=
  pairCmd 0x0140 3 (fun u => decide (u = 0)) (locDefined (Arg.u c 4 4) && Arg.zeroFrom c 10) false confOnly c s
    (AcqOps.tapAssign c s)

/-- ACQ_REDUCE, opcode 0x0141. -/
def acqReduce (c : Cmd) (s : State) : State :=
  pairCmd 0x0141 3 (fun u => decide (u = 0)) (decide (Arg.u c 5 1 < 4) && Arg.zeroFrom c 8) false anyMode c s
    (AcqOps.reduce c s)

/-- CAPTURE_CFG, opcode 0x0142. -/
def captureCfg (c : Cmd) (s : State) : State :=
  pairCmd 0x0142 3 (engine) (Arg.zero c 31 1 && Arg.zeroFrom c 36) false anyMode c s (AcqOps.captureCfg c s)

/-- CAPTURE_TRIGGER, opcode 0x0143. -/
def captureTrigger (c : Cmd) (s : State) : State :=
  pairCmd 0x0143 3 (engine) (decide (Arg.u c 1 1 < 8) && Arg.zeroFrom c 36) false anyMode c s
    (AcqOps.captureTrigger c s)

/-- CAPTURE_ARM, opcode 0x0401. -/
def captureArm (c : Cmd) (s : State) : State :=
  pairCmd 0x0401 3 (engine) (decide (Arg.u c 0 1 < 2) && Arg.zeroFrom c 1) false anyMode c s (AcqOps.captureArm c s)

/-- CAPTURE_STOP, opcode 0x0402. -/
def captureStop (c : Cmd) (s : State) : State :=
  pairCmd 0x0402 3 (engine) (Arg.zeroFrom c 0) false anyMode c s (AcqOps.captureStop c s)

/-- SEQ_CFG, opcode 0x0150. -/
def seqCfg (c : Cmd) (s : State) : State :=
  pairCmd 0x0150 4 (seqUnit) (Arg.zeroFrom c 6) false confOnly c s (Seq.seqCfg c s)

/-- SEQ_LOAD, opcode 0x0151. Log: 17 (DEDUCED, safe). -/
def seqLoad (c : Cmd) (load : Option Bytes) (s : State) : State :=
  pairCmd 0x0151 4 (seqUnit) (Arg.zeroFrom c 12) false confRunHold c s (Seq.seqLoad c load s)

/-- SEQ_START, opcode 0x0801. -/
def seqStart (c : Cmd) (s : State) : State :=
  pairCmd 0x0801 4 (seqUnit) (Seq.startFormat c) false runOnly c s (Seq.seqStart c s)

/-- SEQ_RESUME, opcode 0x0802. -/
def seqResume (c : Cmd) (s : State) : State :=
  pairCmd 0x0802 4 (seqUnit) (Arg.zeroFrom c 0) false runOnly c s (Seq.seqResume c s)

/-- SEQ_STATUS, opcode 0x0820. -/
def seqStatus (c : Cmd) (s : State) : State :=
  pairCmd 0x0820 4 (seqUnit) (Arg.zeroFrom c 0) true anyMode c s (Seq.seqStatus c s)

/-- PROG_CFG, opcode 0x0160. -/
def progCfg (c : Cmd) (s : State) : State :=
  pairCmd 0x0160 4 (fun u => decide (u = 0)) (Arg.zeroFrom c 5) false confOnly c s (Prog.progCfg c s)

/-- PROG_LOAD, opcode 0x0161. Log: 17 (DEDUCED, safe). -/
def progLoad (c : Cmd) (load : Option Bytes) (s : State) : State :=
  pairCmd 0x0161 4 (fun u => decide (u = 0)) (Arg.zeroFrom c 12) false confOnly c s (Prog.progLoad c load s)

/-- TASK_CFG, opcode 0x0162. -/
def taskCfg (c : Cmd) (s : State) : State :=
  pairCmd 0x0162 4 (fun u => decide (u = 0)) (Prog.taskFormat c) false confOnly c s (Prog.taskCfg c s)

/-- PROG_IMAGE, opcode 0x0163. -/
def progImage (c : Cmd) (s : State) : State :=
  pairCmd 0x0163 4 (fun u => decide (u = 0)) (Arg.zero c 3 1 && Arg.zero c 8 4) false confOnly c s (Prog.progImage c s)

/-- PROG_MAP, opcode 0x0164. -/
def progMap (c : Cmd) (s : State) : State :=
  pairCmd 0x0164 4 (fun u => decide (u = 0)) (Prog.mapFormat c) false confOnly c s (Prog.progMap c s)

/-- PROG_CHANGE, opcode 0x0165. -/
def progChange (c : Cmd) (s : State) : State :=
  pairCmd 0x0165 4 (fun u => decide (u = 0)) (Prog.changeFormat c) false live c s (Prog.progChange c s)

/-- FORCE_SET, opcode 0x0166. -/
def forceSet (c : Cmd) (s : State) : State :=
  pairCmd 0x0166 4 (fun u => decide (u = 0)) (Prog.forceFormat c) false live c s (Prog.forceSet c s)

/-- FORCE_CLEAR, opcode 0x0167. -/
def forceClear (c : Cmd) (s : State) : State :=
  pairCmd 0x0167 4 (fun u => decide (u = 0)) (Arg.zeroFrom c 1) false live c s (Prog.forceClear c s)

/-- TASK_CONTROL, opcode 0x0168. -/
def taskControl (c : Cmd) (s : State) : State :=
  pairCmd 0x0168 4 (fun u => decide (u = 0)) (taskOk c && decide (Arg.u c 2 1 < 3) && Arg.zeroFrom c 3) false fromComm c s
    (Prog.taskControl c s)

/-- TASK_FLAGS, opcode 0x0169. -/
def taskFlags (c : Cmd) (s : State) : State :=
  pairCmd 0x0169 4 (fun u => decide (u = 0)) (taskOk c && Arg.zero c 2 2 && Arg.zeroFrom c 8) false fromComm c s
    (Prog.taskFlags c s)

/-- TASK_STATUS, opcode 0x0170. -/
def taskStatus (c : Cmd) (s : State) : State :=
  pairCmd 0x0170 4 (fun u => decide (u = 0)) (taskOk c && Arg.zeroFrom c 2) true anyMode c s (Prog.taskStatus c s)

/-- TASK_FAULT_READ, opcode 0x0171. -/
def taskFaultRead (c : Cmd) (s : State) : State :=
  pairCmd 0x0171 4 (fun u => decide (u = 0)) (taskOk c && Arg.zeroFrom c 2) true anyMode c s (Prog.taskFaultRead c s)

/-- FORCE_READ, opcode 0x0172. -/
def forceRead (c : Cmd) (s : State) : State :=
  pairCmd 0x0172 4 (fun u => decide (u = 0)) (Arg.zeroFrom c 1) true anyMode c s (Prog.forceRead c s)

/-- NET_SYSTEM, opcode 0x0180. -/
def netSystem (c : Cmd) (s : State) : State :=
  pairCmd 0x0180 5 (fun u => decide (u = 0)) (Net.systemFormat c) false confOnly c s (Net.netSystem c s)

/-- NET_NODES, opcode 0x0181. -/
def netNodes (c : Cmd) (s : State) : State :=
  pairCmd 0x0181 5 (fun u => decide (u = 0)) (Net.nodesFormat c) false confOnly c s (Net.netNodes c s)

/-- NET_SLOTS, opcode 0x0182. -/
def netSlots (c : Cmd) (s : State) : State :=
  pairCmd 0x0182 5 (fun u => decide (u = 0)) (Net.slotsFormat c) false confOnly c s (Net.netSlots c s)

/-- NET_PUBS, opcode 0x0183. -/
def netPubs (c : Cmd) (s : State) : State :=
  pairCmd 0x0183 5 (fun u => decide (u = 0)) (Net.pubsFormat c && pubLocs c) false confOnly c s (Net.netPubs c s)

/-- NET_LOCAL, opcode 0x0184. -/
def netLocal (c : Cmd) (s : State) : State :=
  pairCmd 0x0184 5 (fun u => decide (u = 0)) (Arg.zeroFrom c 1) false confOnly c s (Net.netLocal c s)

/-- NET_SEND, opcode 0x0501. Log: 17 (DEDUCED, safe). -/
def netSend (c : Cmd) (load : Option Bytes) (s : State) : State :=
  pairCmd 0x0501 5 (fun u => decide (u = 0)) (Net.sendFormat c) false anyMode c s (Net.netSend c load s)

/-- NET_PORT_STATUS, opcode 0x0520. -/
def netPortStatus (c : Cmd) (s : State) : State :=
  fin 0x0520 c s (Ops.pre c (c.namesDie s.nodeId 3 4 (fun _ => true) || c.namesDie s.nodeId 3 5 (fun _ => true))
    (Arg.zeroFrom c 0) true anyMode s (Pier.portStatus c s))

/-- NET_NODE_MAP, opcode 0x0521. -/
def netNodeMap (c : Cmd) (s : State) : State :=
  pairCmd 0x0521 5 (fun u => decide (u = 0)) (Arg.zeroFrom c 1) true anyMode c s (Net.nodeMap c s)

/-- PAIR_SWAP, opcode 0x0710. -/
def pairSwap (c : Cmd) (s : State) : State :=
  fin 0x0710 c s (swapPre c s)

/-- DIE_RETRY, opcode 0x0711. -/
def dieRetry (c : Cmd) (s : State) : State :=
  pairCmd 0x0711 7 (fun u => decide (u = 0)) (Arg.zeroFrom c 0) false anyMode c s (Pair.retry s)

/-- VALVE_CFG, opcode 0x01A0. -/
def valveCfg (c : Cmd) (s : State) : State :=
  pairCmd 0x01A0 7 (fun u => decide (u = 0)) (Out.valveFormat c) false confOnly c s (Out.valveCfg c s)

/-- PWM_CFG, opcode 0x01A1. -/
def pwmCfg (c : Cmd) (s : State) : State :=
  pairCmd 0x01A1 7 (fun u => decide (u = 0)) (Out.pwmFormat c) false confOnly c s (Out.pwmCfg c s)

/-- SAFETY_UNLOCK, opcode 0x0601. -/
def safetyUnlock (c : Cmd) (s : State) : State :=
  safetyCmd 0x0601 (fun u => decide (u = 0)) (Arg.zero c 1 3 && Arg.zeroFrom c 40) false setupOnly c s (Safe.unlock c)

/-- SAFETY_COMMIT, opcode 0x0602. -/
def safetyCommit (c : Cmd) (s : State) : State :=
  safetyCmd 0x0602 (fun u => decide (u = 0)) (Arg.zeroFrom c 0) false setupOnly c s (Safe.commit c)

/-- SAFETY_CANCEL, opcode 0x0603. -/
def safetyCancel (c : Cmd) (s : State) : State :=
  safetyCmd 0x0603 (fun u => decide (u = 0)) (Arg.zeroFrom c 0) false setupOnly c s (Safe.cancel)

/-- SAFETY_PASSWORD, opcode 0x0604. -/
def safetyPassword (c : Cmd) (s : State) : State :=
  safetyCmd 0x0604 (fun u => decide (u = 0)) (Arg.zero c 1 3 && Arg.zeroFrom c 36) false setupOnly c s
    (Safe.setPassword c)

/-- SAFETY_ACK, opcode 0x0605. -/
def safetyAck (c : Cmd) (s : State) : State :=
  safetyCmd 0x0605 (fun u => decide (u = 0)) (Arg.zeroFrom c 1) false live c s (Safe.safetyAck c)

/-- SAFE_SELECT, opcode 0x0606. -/
def safeSelect (c : Cmd) (s : State) : State :=
  safetyCmd 0x0606 (fun u => decide (u = 0)) (decide (1 ≤ Arg.u c 8 1) && decide (Arg.u c 8 1 ≤ 3) && decide (Arg.u c 9 1 < 2) && Arg.zeroFrom c 10) false live c s
    (Safe.safeSelect c)

/-- SAFETY_GLOBAL, opcode 0x0610. -/
def safetyGlobal (c : Cmd) (s : State) : State :=
  safetyCmd 0x0610 (fun u => decide (u = 0)) (Arg.zeroFrom c 13) false setupOnly c s
    (Safe.object 0 0x64 Safe.globalOk c)

/-- SAFETY_INPUT, opcode 0x0611. -/
def safetyInput (c : Cmd) (s : State) : State :=
  safetyCmd 0x0611 (fun u => decide (u < 16)) (decide (Arg.u c 7 1 < 4) && Arg.zeroFrom c 16) false setupOnly c s
    (Safe.object (1 + c.unit) 0x61 Safe.inputOk c)

/-- SAFETY_OUTPUT, opcode 0x0612. -/
def safetyOutput (c : Cmd) (s : State) : State :=
  safetyCmd 0x0612 (fun u => decide (16 ≤ u) && decide (u < 24)) (decide (Arg.u c 1 1 < 4) && Arg.zeroFrom c 4) false setupOnly c s
    (Safe.object (1 + c.unit) 0x62 Safe.outputOk c)

/-- SAFETY_AXIS, opcode 0x0613. -/
def safetyAxis (c : Cmd) (s : State) : State :=
  safetyCmd 0x0613 (fun u => decide (64 ≤ u)) (decide (Arg.u c 0 1 < 8) && Arg.zero c 3 1 && Arg.zeroFrom c 40) false setupOnly c s
    (Safe.object (c.unit - 39) 0x63 Safe.axisOk c)

/-- SAFETY_SLP, opcode 0x0614. -/
def safetySlp (c : Cmd) (s : State) : State :=
  safetyCmd 0x0614 (fun u => decide (64 ≤ u)) (Arg.zeroFrom c 20) false setupOnly c s
    (Safe.object (c.unit + 25) 0x63 Safe.slpRangeOk c)

/-- SAFETY_AXIS_STATUS, opcode 0x0620. -/
def safetyAxisStatus (c : Cmd) (s : State) : State :=
  safetyCmd 0x0620 (fun u => decide (64 ≤ u)) (Arg.zeroFrom c 0) true anyMode c s (Safe.axisStatus c)

/-- SAFETY_LOG_READ, opcode 0x0621. Log: 116 (DESIGN CHOICE, unsafe). -/
def safetyLogRead (c : Cmd) (s : State) : State :=
  safetyCmd 0x0621 (fun u => decide (u = 0)) (decide (Arg.u c 1 1 < 2) && Arg.zeroFrom c 2) true anyMode c s
    (Safe.logRead c)

/-- NOP (R554), opcode 0x0A02. -/
def nop (c : Cmd) (s : State) : State :=
  pairCmd 0x0A02 7 (fun u => decide (u = 0)) (Arg.zeroFrom c 0) false anyMode c s (nopReply s)

/-- COUNTER_SELECT, opcode 0x0A20. -/
def counterSelect (c : Cmd) (s : State) : State :=
  fin 0x0A20 c s (Ops.pre c (RecOps.namesRegion c s.nodeId) (Arg.zeroFrom c 17) (decide (locDie c.locN = 0) || decide (locDie c.locN = 3))
    anyMode s (RecOps.counterSelect c s))

/-- COUNTER_DUMP_CFG, opcode 0x0A21. -/
def counterDumpCfg (c : Cmd) (s : State) : State :=
  pairCmd 0x0A21 7 (fun u => decide (u = 5)) (Arg.zeroFrom c 3) false anyMode c s (RecOps.counterDumpCfg c s)

/-- PRECISE_CFG, opcode 0x0A22. -/
def preciseCfg (c : Cmd) (s : State) : State :=
  pairCmd 0x0A22 7 (fun u => decide (u = 5)) (Arg.zero c 1 1 && Arg.zeroFrom c 6) false anyMode c s
    (RecOps.preciseCfg c s)

/-- TRUST_SVN_COMMIT, opcode 0x0901. -/
def trustSvnCommit (c : Cmd) (s : State) : State :=
  hbdCmd 0x0901 3 (fun u => decide (u = 0)) (Arg.zeroFrom c 0) confOnly c s
    (Trusted.svnCommit s)

/-- TRUST_PROVISION, opcode 0x0902. Log: 91 (DEDUCED, unsafe). -/
def trustProvision (c : Cmd) (load : Option Bytes) (s : State) : State :=
  hbdCmd 0x0902 3 (fun u => decide (u = 0)) (Arg.zeroFrom c 8) confOnly c s
    (Trusted.provision c load s)

/-- ATTEST, opcode 0x0910. -/
def attest (c : Cmd) (s : State) : State :=
  hbdCmd 0x0910 3 (fun u => decide (u = 0)) (Arg.zeroFrom c 40) anyMode c s
    (Trusted.attest c s)

/-- IDENTITY_CERT, opcode 0x0911. -/
def identityCert (c : Cmd) (s : State) : State :=
  hbdCmd 0x0911 3 (fun u => decide (u = 0)) (Arg.zeroFrom c 8) anyMode c s
    (Trusted.cert c s)

/-- DEBUG_CHALLENGE, opcode 0x0920. -/
def debugChallenge (c : Cmd) (s : State) : State :=
  hbdCmd 0x0920 3 (fun u => decide (u = 0)) (Arg.zeroFrom c 0) anyMode c s
    (Trusted.debugChallenge s)

/-- DEBUG_UNLOCK, opcode 0x0921. Log: 91 (DEDUCED, unsafe). -/
def debugUnlock (c : Cmd) (load : Option Bytes) (s : State) : State :=
  hbdCmd 0x0921 3 (fun u => decide (u = 0)) (Arg.zeroFrom c 8) anyMode c s
    (Trusted.debugUnlock c load s)

/-- DEBUG_LOCK, opcode 0x0922. -/
def debugLock (c : Cmd) (s : State) : State :=
  hbdCmd 0x0922 3 (fun u => decide (u = 0)) (Arg.zeroFrom c 0) anyMode c s
    (Debug.lock c s)

/-- ABORT, opcode 0x0A01. -/
def abort (c : Cmd) (s : State) : State :=
  hbdCmd 0x0A01 1 (fun u => decide (u = 0)) (Arg.zeroFrom c 6) anyMode c s
    (.quiet (Aborts.abort c s))

/-- DMA_TO_DECK, opcode 0x0A10. -/
def dmaToDeck (c : Cmd) (s : State) : State :=
  hbdCmd 0x0A10 2 (fun u => decide (u < 16)) (Dma.format c) anyMode c s
    (Dma.start true c s)

/-- DMA_FROM_DECK, opcode 0x0A11. -/
def dmaFromDeck (c : Cmd) (s : State) : State :=
  hbdCmd 0x0A11 2 (fun u => decide (u < 16)) (Dma.format c) anyMode c s
    (Dma.start false c s)

/-- An opcode that no chapter defines (R655). Log: 96 (DEDUCED, unsafe). -/
def unknown (op : Nat) (c : Cmd) (s : State) : State := Ops.complete (c.origin op) .malformed 0 0 s

/-- A command at its application frame, by its opcode. Log: 4 (DESIGN CHOICE, safe). -/
def apply (op : Nat) (c : Cmd) (load : Option Bytes) (s : State) : State :=
  match op with
  | 0x0530 => timeSet c s
  | 0x0531 => txtsRead c s
  | 0x0701 => modeRequest c s
  | 0x0110 => axisLimits c s
  | 0x0111 => axisStops c s
  | 0x0112 => axisIo c s
  | 0x0201 => move c s
  | 0x0202 => stop c s
  | 0x0203 => override c s
  | 0x0204 => follow c s
  | 0x0205 => jog c s
  | 0x0206 => home c s
  | 0x0220 => axisStatus c s
  | 0x0221 => encoderStatus c s
  | 0x0120 => loopSlot c s
  | 0x0121 => loopStage c s
  | 0x0122 => loopTable c s
  | 0x0301 => loopSetpoint c s
  | 0x0302 => loopMode c s
  | 0x0303 => loopSet c s
  | 0x0304 => loopPreset c s
  | 0x0305 => loopOscClear c s
  | 0x0320 => loopStatus c s
  | 0x0130 => adcConverter c s
  | 0x0131 => adcSequence c s
  | 0x0132 => adcDma c s
  | 0x0420 => adcStatus c s
  | 0x0140 => acqTapAssign c s
  | 0x0141 => acqReduce c s
  | 0x0142 => captureCfg c s
  | 0x0143 => captureTrigger c s
  | 0x0401 => captureArm c s
  | 0x0402 => captureStop c s
  | 0x0150 => seqCfg c s
  | 0x0151 => seqLoad c load s
  | 0x0801 => seqStart c s
  | 0x0802 => seqResume c s
  | 0x0820 => seqStatus c s
  | 0x0160 => progCfg c s
  | 0x0161 => progLoad c load s
  | 0x0162 => taskCfg c s
  | 0x0163 => progImage c s
  | 0x0164 => progMap c s
  | 0x0165 => progChange c s
  | 0x0166 => forceSet c s
  | 0x0167 => forceClear c s
  | 0x0168 => taskControl c s
  | 0x0169 => taskFlags c s
  | 0x0170 => taskStatus c s
  | 0x0171 => taskFaultRead c s
  | 0x0172 => forceRead c s
  | 0x0180 => netSystem c s
  | 0x0181 => netNodes c s
  | 0x0182 => netSlots c s
  | 0x0183 => netPubs c s
  | 0x0184 => netLocal c s
  | 0x0501 => netSend c load s
  | 0x0520 => netPortStatus c s
  | 0x0521 => netNodeMap c s
  | 0x0710 => pairSwap c s
  | 0x0711 => dieRetry c s
  | 0x01A0 => valveCfg c s
  | 0x01A1 => pwmCfg c s
  | 0x0601 => safetyUnlock c s
  | 0x0602 => safetyCommit c s
  | 0x0603 => safetyCancel c s
  | 0x0604 => safetyPassword c s
  | 0x0605 => safetyAck c s
  | 0x0606 => safeSelect c s
  | 0x0610 => safetyGlobal c s
  | 0x0611 => safetyInput c s
  | 0x0612 => safetyOutput c s
  | 0x0613 => safetyAxis c s
  | 0x0614 => safetySlp c s
  | 0x0620 => safetyAxisStatus c s
  | 0x0621 => safetyLogRead c s
  | 0x0A02 => nop c s
  | 0x0A20 => counterSelect c s
  | 0x0A21 => counterDumpCfg c s
  | 0x0A22 => preciseCfg c s
  | 0x0901 => trustSvnCommit c s
  | 0x0902 => trustProvision c load s
  | 0x0910 => attest c s
  | 0x0911 => identityCert c s
  | 0x0920 => debugChallenge c s
  | 0x0921 => debugUnlock c load s
  | 0x0922 => debugLock c s
  | 0x0A01 => abort c s
  | 0x0A10 => dmaToDeck c s
  | 0x0A11 => dmaFromDeck c s
  | _ => unknown op c s

/-- COMMAND (R21): the opcode's effect; a load's data is the message's own or what has arrived for it.
Log: 16 (DEDUCED, unsafe). -/
def command (op : Nat) (c : Cmd) (load : Option Bytes) (s : State) : State :=
  match load with
  | some d => apply op c (some d) s
  | none => let q := Dma.unstage c s; apply op c q.1 q.2

end Sys2Proof.Machine.Cmds
end

