-- ==== Sys2Proof/Machine/Doorbell.lean ====
section
/-!
DEFINITION. The doorbell poll (R534 to R541, R543 to R548, R553, R658): sessions as the host's page opens, changes and closes
them, and the submission entries it makes the engine read and forward.
-/

namespace Sys2Proof.Machine.Doorbell

/-! Forwarding an entry. -/

/-- The completion status of the last completion, if any is new. -/
def lastStatus (old new : State) : Option Status :=
  if new.hbd.compls.length ≤ old.hbd.compls.length then none else new.hbd.compls.getLast?.map (·.status)

/-- Whether an entry is malformed, judged as every command judges it, before its mode and its element's state (R12).
Log: 80 (DEDUCED, unsafe). -/
def malformed (e : Entry) (s : State) : Bool :=
  let b := { s with md.mode := .boot }
  lastStatus b (Cmds.apply e.opcode.toNat e.cmd none b) == some Status.malformed

/-- Whether the field side can be reached and has left BOOT (R144, R145). Log: 80 (DEDUCED, unsafe). -/
def fieldReady (s : State) : Bool := s.md.mode.afterBoot && s.linkUp

/-- A command the HBD itself carries out: DMA and trust commands. -/
def isHbd (op : Nat) : Bool :=
  decide (op = 0x0A10) || decide (op = 0x0A11) || (decide (0x0900 ≤ op) && decide (op < 0x0A00))

/-- A command the HBD carries out at its read. One that names host memory to be read waits for that data (R606, R610). -/
def runHbd (e : Entry) (s : State) : State :=
  let t := Cmds.apply e.opcode.toNat e.cmd none s
  let reads := decide (e.opcode = 0x0902) || decide (e.opcode = 0x0921)
  if reads && lastStatus s t == some Status.busError then s else t

/-- Sends a command of the field side, a load once its data is fetched. -/
def sendField (e : Entry) (s : State) : State :=
  if malformed e s then Ops.completeHbd (Dma.originOf e) .malformed 0 0 s
  else if !fieldReady s then Ops.completeHbd (Dma.originOf e) .notReady 0 0 s
  else if Dma.isLoad e.opcode.toNat then Dma.queueLoad e s
  else Dma.sendCommand e s

/-- ABORT as the HBD reads it: a chain or a waiting load at once, else it travels as a pair command (R555). -/
def readAbort (e : Entry) (s : State) : State :=
  if malformed e s || !s.md.mode.afterBoot then Cmds.abort e.cmd s
  else (Aborts.host e.cmd s).getD (sendField e s)

/-- Acts on an entry the engine has read: a tag in use is refused before every other test (R12, R543). -/
def forward (e : Entry) (s0 : State) : State :=
  let o := Dma.originOf e
  let s := Ops.countDie 0 1 17 1 s0
  if s.hbd.outstanding.any fun x => decide (x.org.tag = o.tag) && decide (x.org.session = o.session) then
    Ops.pushCompl { org := o, status := .refused, reason := 0xA1, atHbd := true, dup := true } s
  else
    let s1 := { s with hbd.outstanding := s.hbd.outstanding ++ [{ org := o, sent := false, period := s.hbd.period }] }
    if e.opcode = 0x0A01 then readAbort e s1
    else if isHbd e.opcode.toNat then runHbd e s1
    else sendField e s1

/-! Rings. -/

/-- Whether completions wait for ring `c`, which cannot take them (R544). Log: 91 (DEDUCED, unsafe). -/
def waitsFor (s : State) (c : Nat) : Bool :=
  s.hbd.compls.any fun k => decide (s.hbd.cqOf k.org.sq = c) && (decide (s.hbd.kind c ≠ 1) || decide (s.hbd.room c = 0))

/-- The ring an entry was read from and the session it was read in. Log: 80 (DEDUCED, unsafe). -/
def asRead (q : Nat) (s : State) (e : Entry) : Entry :=
  { e with cmd := { e.cmd with sq := Fin.ofNat 32 q, session := BitVec.ofNat 16 s.hbd.sessNum } }

/-- Reads at most `n` entries of ring `q`, oldest first: the state, and how many it read. A missing entry is a failed read
(R539, R543, R544, R658). -/
def readEntries (q : Nat) : Nat → List Entry → State → Nat → State × Nat
  | 0, _, s, k => (s, k)
  | n + 1, es, s, k =>
    if decide (4096 ≤ s.hbd.outstanding.length) || waitsFor s (s.hbd.cqOf q) then (s, k)
    else
      let head := Tab.get s.hbd.sqHead q
      match es with
      | [] => (Ops.ringStop q (((Tab.get s.hbd.rings q).base + head % s.hbd.entries q * 64) % 2 ^ 32) s, k)
      | e :: rest =>
        readEntries q n rest (forward (asRead q s e) { s with hbd.sqHead := Tab.set s.hbd.sqHead q ((head + 1) % 2 ^ 32) })
          (k + 1)

/-- One submission ring in a poll (R535, R539, R541). -/
def ring (p : DoorbellPage) (s : State) (q : Nat) : State :=
  let size := s.hbd.entries q
  if size = 0 ∨ s.hbd.ringErr.testBit q then s
  else
    let tail := (p.sqTail.getD q 0).toNat
    let n := (tail + 2 ^ 32 - Tab.get s.hbd.sqHead q) % 2 ^ 32
    if size < n then Ops.ringStop q 0 s
    else
      let es := match p.entries.find? fun x => decide (x.1 = q) with
        | some x => x.2
        | none => []
      let r := readEntries q (min n 64) es s 0
      if r.2 = 0 then r.1 else Ops.pageWrite (0x840 + 4 * q) (Tab.get r.1.hbd.sqHead q) r.1

/-- Takes up the host's CQ_HEAD of every ring; one that moves by more than the ring size is ignored (R534).
Log: 81 (DEDUCED, unsafe). -/
def heads (p : DoorbellPage) (s : State) : State :=
  { s with hbd.cqHead := (List.range 32).foldl (fun t c =>
      let h := (p.cqHead.getD c 0).toNat
      if decide (s.hbd.kind c ≠ 0) && decide ((h + 2 ^ 32 - Tab.get s.hbd.cqHead c) % 2 ^ 32 ≤ s.hbd.entries (32 + c)) then
        Tab.set t c h
      else t) s.hbd.cqHead }

/-! Sessions. -/

/-- Session state or number has changed (Table 15-2). -/
def changed (s : State) : State :=
  Ops.fire 50 { s with hbd.changes := (s.hbd.changes + 1) % 2 ^ 16, hbd.period := s.hbd.period + 1 }

/-- A refused open: its event once per value and configuration (R546). -/
def openRefused (v : Nat) (s : State) : State :=
  let s1 := { s with hbd.openReason := 0xA5 }
  if s.hbd.openFail = some v then s1
  else Ops.hRaise Event.sessionOpenFail (mkSrc 0 1 64) 0 0 { s1 with hbd.openFail := some v }

/-- Opens session `v` (R546): SQ_HEAD and CQ_TAIL of every ring become 0, in the page too. Log: 81 (DEDUCED, unsafe). -/
def openSession (v : Nat) (s : State) : State :=
  if !s.hbd.openOk then openRefused v s
  else
    let s1 := { s with
      hbd.sqHead := [], hbd.cqTail := [], hbd.cqHead := [], hbd.sess := 1, hbd.sessNum := v, hbd.openFail := none
      hbd.upHeld := false, hbd.mem := Mem.clear s.hbd.mem (s.hbd.dbBase + 0x840) 0x100 }
    Dma.sessionOpened (changed (Ops.pageWrite 0x800 v s1))

/-- Discards a ring's unread entries (R547); a tail that moves by more than the ring size is not acted on (R534). -/
def discard (p : DoorbellPage) (s : State) (q : Nat) : State :=
  let tail := (p.sqTail.getD q 0).toNat
  if decide (s.hbd.entries q = 0) || decide (s.hbd.entries q < (tail + 2 ^ 32 - Tab.get s.hbd.sqHead q) % 2 ^ 32) then s
  else Ops.pageWrite (0x840 + 4 * q) tail { s with hbd.sqHead := Tab.set s.hbd.sqHead q tail }

/-- A soft change to session `v` (R547). Log: 81 (DEDUCED, unsafe). -/
def softChange (p : DoorbellPage) (v : Nat) (s : State) : State :=
  let s1 := (List.range 32).foldl (discard p) s
  changed (Ops.hRaise Event.hostSessionChange (mkSrc 0 1 64) s.hbd.sessNum v
    (Ops.pageWrite 0x800 v { s1 with hbd.sessNum := v }))

/-- What a poll does in CLOSED. Log: 81 (DEDUCED, unsafe). -/
def pollClosed (v : Nat) (s : State) : State :=
  if v = 0 then { s with hbd.openFail := none } else if 65535 < v then s else openSession v s

/-- What a poll does in OPEN. -/
def pollOpen (p : DoorbellPage) (v : Nat) (s : State) : State :=
  if v = 0 then Ops.closeBegin s
  else
    let s1 := heads p s
    if v ≤ 65535 ∧ v ≠ s.hbd.sessNum then softChange p v s1 else (List.range 32).foldl (ring p) s1

/-- DOORBELL_POLL (R534): `us` µs have passed since the start of the read before it, which the first read of a polling period
does not have; CLOSING starts no new access (R550). Log: 81 (DEDUCED, unsafe). -/
def poll (p : DoorbellPage) (us : Nat) (s : State) : State :=
  if !s.hbd.pollEn || decide (s.hbd.sess = 2) || (s.hbd.polled && decide (us < s.hbd.pollUs)) then s
  else
    let n := (s.hbd.polls + 1) % 2 ^ 32
    let s1 := Ops.countDie 0 1 16 1 { s with hbd.polls := n, hbd.polled := true }
    let s2 := Ops.pageWrite 0x804 n s1
    if s.hbd.sess = 0 then pollClosed p.session.toNat s2 else pollOpen p p.session.toNat s2

end Sys2Proof.Machine.Doorbell
end

