-- ==== Sys2Proof/Machine/TimeMsg.lean ====
section
/-!
DEFINITION. The TIME message, with which the HBD takes up the field side's time, mode and progress, and faults of the
HBD (R32,
R85, R105, R127, R620).
-/

namespace Sys2Proof.Machine.Setup

/-- TIME: the HBD takes the active die's time and mode; PAIR_PENDING falls by the writes whose application frame has
passed, and CHECK_BUSY clears once the check's result has been entered (R85, R105, R127, R620).
Log: 84 (DEDUCED, unsafe). -/
def time (s : State) : State :=
  if !s.tm.lock || !s.linkUp then s
  else timeTaken (showAgain (Ops.hbdTime s))
where
  /-- After a reset of the HBD, HEALTH_SUMMARY shows the field side's state again (R619). -/
  showAgain (s : State) : State :=
    match s.hbd.healthOld with
    | some (b, n, a) => { s with hbd := { s.hbd with healthBits := b, reports := n, healthAge := a, healthOld := none } }
    | none => s
  /-- Mode, PAIR_PENDING and CHECK_BUSY. -/
  timeTaken (s : State) : State :=
    let m := Modes.modeReg s
    let s1 : State := { s with
      hbd.modeReg := m, hbd.upNum := (s.hbd.upNum + 1) % 2 ^ 32
      hbd.pairPending := s.hbd.pairPending.filter fun w => decide (w ≠ 0) }
    let s2 := if m = s.hbd.modeReg then s1 else Ops.fire 54 s1
    let s3 := if s2.hbd.checkDone.isSome then Modes.busyFalls s2 else s2
    drain s3.hbd.waiting.length s3

/-! HBD_FAULT. -/

/-- What the traffic of a faulted host DMA channel meets: its chain ends BUS_ERROR (R32). Log: 84 (DEDUCED, unsafe). -/
def dmaFault (h : Nat) (s : State) : State :=
  let d := Dma.chan s h
  match d.work with
  | none => s
  | some w => Dma.startLoad (Dma.settle h (Dma.setChan h { d with work := some { w with len := 0, ending := some .busError } } s))

/-- A fault of ring unit `u` (Table 1-5): a submission ring stops as after a failed read, the poller as after a failed poll
(R32, R538, R658). Log: 84 (DEDUCED, unsafe). -/
def ringFault (u : Nat) (s : State) : State :=
  if u < 32 then submissionReadFail u s else if u = 64 then doorbellBusError s else s

/-- A fault of the mirror: it records a gap (R32, R586). Log: 84 (DEDUCED, unsafe). -/
def mirrorFault (s : State) : State :=
  if s.hbd.gap then s else Ops.hRaise Event.mirrorGap (mkSrc 0 5 0) s.hbd.mirFHead 0 { s with hbd.gap := true }

/-- The units of a marked extent. -/
def extentUnits (x : Extent) (unit n : Nat) : List Nat :=
  match x with
  | .unit => [unit]
  | .cluster => (List.range 8).map (unit / 8 * 8 + ·)
  | .region => List.range n

/-- HBD_FAULT: the unit or region is reset and returned to service; the traffic it was handling is reported (R32).
Log: 84 (DEDUCED, unsafe). -/
def hbdFault (region : Nat) (x : Extent) (unit : Nat) (s : State) : State :=
  let s := if x = .region then Ops.regionReset 0 region s else s
  match region with
  | 1 => (extentUnits x unit 65).foldl (fun s u => ringFault u s) s
  | 2 => ((extentUnits x unit 16).filter (· < 16)).foldl (fun s h => dmaFault h s) s
  | 5 => mirrorFault s
  | _ => s

end Sys2Proof.Machine.Setup
end

