-- ==== Sys2Proof/Machine/Frame.lean ====
section
/-!
DEFINITION. The frame (R21, R64, R67, R73, R80 to R82, R378, R457, R490, R622): what a frame boundary does, in its order, and
the exchange at lattice point 5,850.
-/

namespace Sys2Proof.Machine.Frame

/-! The exchange at lattice point 5,850. -/

/-- The dies whose sets are used: both in step, else the active die alone (R80, R457). -/
def dies (s : State) (a b : DieLocal) : List (Nat × DieLocal) :=
  if s.pair.st = 1 then [(1, a), (2, b)] else if s.pair.active = 1 then [(1, a)] else [(2, b)]

/-- The greatest frame number that the boundary ending the present frame carries: its own, or the label a step or a TIME_SET
due there gives it (R87, R89, R101). -/
def nextLabel (s : State) : Nat :=
  let own := match s.tm.stepDue with
    | some th => Ops.stepLabel th { s with tm := s.tm.advance }
    | none => s.tm.frame + 1
  s.hbd.down.foldl (fun m d =>
    match d.body with
    | .command e => if d.wait = 1 ∧ e.opcode = 0x0530 then max m (TimeCmd.label e.cmd) else m
    | _ => m) own

/-- Whether the frame that began last ends at a boundary of a period and phase (R65, R89). -/
def endsAt (s : State) (p φ : Nat) : Bool := Time.hits (s.tm.frame + 1) (nextLabel s) p φ

/-- A loop evaluation due at the next boundary is discarded there (R239). Log: 46 (DEDUCED, unsafe). -/
def missLoop (u : Nat) (s : State) : State :=
  let x := s.slot u
  let pp := Loop.period s u x
  if x.next.isSome && endsAt s pp.1 pp.2 then s.setSlot u { x with missed := true } else s

/-- A profile evaluation due at the next boundary sends nothing there (R195). -/
def missAxis (a : Nat) (s : State) : State :=
  if (s.mot.axes.any fun q => decide (q.1 = a)) && s.enabled 0 && Servo.evaluates s.md.mode && endsAt s s.tickFrames 0 then
    s.setAxis a { s.axis a with missNow := true }
  else s

/-- The overrun behaviour of one item that either die lists (Table 2-4). A task's is that its cycle does not count as ended;
the Safety region's and the output transfer's are the listing die's own. -/
def missItem (s : State) : WorkItem → State
  | .loop u => missLoop u.val s
  | .axis a => missAxis a.val s
  | .task _ => s
  | .step q => Seq.miss q.val s
  | .slot k => Net.miss k.val s
  | .reduction t => AcqOps.miss t.val s
  | .safety => s
  | .output => s

/-- What an item means for the die that lists it: its safety channel is lost, or it counts as faulted (Table 2-4). The frame
in which a channel is lost is none of the 64 of R509. Log: 69 (DEDUCED, unsafe). -/
def missOwn (d : Nat) (s : State) : WorkItem → State
  | .safety => Safe.channelLost d 4 true (Safe.evaluate s)
  | .output => Pair.unitFault d 7 2 false s
  | _ => s

/-- The engine that runs a task's present cycle. -/
def engineOf (s : State) (t : Nat) : Option Nat := (s.task t).cyc.bind (·.engine)

/-- Engines that either die lists, with those of tasks listed as late (R80, R361). -/
def busyOf (s : State) (l : List (Nat × DieLocal)) : List Nat :=
  l.flatMap fun q => q.2.busy.map (·.val) ++ q.2.missed.filterMap fun w =>
    match w with
    | .task t => engineOf s t.val
    | _ => none

/-- Takes up one die's slack reports: its own regions 0 to 7, and the FID's as that die reports them. The FID's events come
from the active die's report (R68, R69). Log: 23 (DEDUCED, unsafe). -/
def slackDie (s : State) (d : Nat) (x : DieLocal) : State :=
  x.slack.zipIdx.foldl (fun s q =>
    let z := Ops.slackOf (Ops.workOf s q.2) q.1
    let t := Ops.slackReport (d * 16 + q.2) z s
    if q.2 < 8 then Ops.slackFloor (d * 16 + q.2) (mkSrc d q.2 0) z t
    else if 14 ≤ q.2 then s
    else if s.pair.active = d then Ops.slackFloor (48 + (q.2 - 8)) (mkSrc 3 (q.2 - 8) 0) z t
    else t) s

/-- The least slack a die reports. -/
def leastOf (s : State) (x : DieLocal) : Int :=
  (x.slack.take 14).zipIdx.foldl (fun m q => min m (Ops.slackOf (Ops.workOf s q.2) q.1)) 32767

/-- The governor at the end of a frame: the interval's minimum, and a region below the floor at once (R73). -/
def govern (m : Int) (s : State) : State :=
  let s1 : State := { s with tm.gov.minSlack := min s.tm.gov.minSlack m, pair.slackWin := min s.pair.slackWin m }
  if Ops.govOn s1 && decide (m < (Bits.field s1.tm.slackTarget.toNat 31 16 : Nat)) then
    Ops.govWrite (s1.tm.lp + 5850) (Ops.govUp s1)
  else s1

/-- Event counts the model forms itself (Table 16-4). Log: 89 (DEDUCED, unsafe). -/
def derived (region sel : Nat) : Bool :=
  decide (sel = 1) || decide (sel = 7) ||
    match region with
    | 0 => decide (sel = 6)
    | 1 => decide (sel = 16) || decide (sel = 17) || decide (sel = 19) || decide (sel = 20)
    | 6 => false
    | 7 => decide (sel = 19) || decide (sel = 20)
    | _ => decide (16 ≤ sel)

/-- A die's measurements: temperature, busy counts and event counts of the frame (R457, R590, Table 13-2). -/
def measureDie (s : State) (d : Nat) (x : DieLocal) : State :=
  let y := Pair.own s d
  let s1 := Pair.setOwn d { y with tj := x.tj, tjMax := max y.tjMax x.tj } s
  let s2 := x.busyPts.zipIdx.foldl (fun s q =>
    if q.2 < 8 then { s with log.counters := Tab.modify s.log.counters (d * 8 + q.2) fun k => { k with busy := k.busy + q.1 } }
    else s) s1
  let s3 := x.counts.foldl (fun s q => if q.1 < 8 && !derived q.1 q.2.1 then Ops.countDie d q.1 q.2.1 q.2.2 s else s) s2
  let scrubs := (x.counts.filter fun q => decide (q.1 = 0) && decide (q.2.1 = 18)).foldl (fun n q => n + q.2.2) y.scrubs
  let s4 := Pair.setOwn d { Pair.own s3 d with scrubs := scrubs % 2 ^ 16 } s3
  { s4 with log.sampled := x.latencies.foldl (fun l q => RecOps.giveLatency (decide (d = 2)) q.1.val q.2 l) s4.log.sampled }

/-- The FID's temperature as the active die reads it, and the window's highest (Tables 13-7, 18-9). -/
def temperature (l : List (Nat × DieLocal)) (s : State) : State :=
  let fid := match l.find? fun q => decide (q.1 = s.pair.active) with
    | some q => q.2.fidTj
    | none => s.pair.fidTj
  { s with pair.fidTj := fid, pair.tjWin := l.foldl (fun m q => max m q.2.tj) (max s.pair.tjWin fid) }

/-- The standby's self-test: passes completed and the progress of the present one (R475). -/
def selfTest (l : List (Nat × DieLocal)) (s : State) : State :=
  match l.find? fun q => decide (q.1 ≠ s.pair.active) with
  | some q => { s with pair.passes := s.pair.passes + q.2.passes, pair.coverage := q.2.coverage }
  | none => s

/-- DEADLINE (R80): the miss sets and cycles in progress are exchanged and the overrun behaviour applied.
Log: 9 (DESIGN CHOICE, safe). -/
def deadline (a b : DieLocal) (s : State) : State :=
  if s.pair.st = 0 then s
  else
    let l := dies s a b
    let items := (l.flatMap fun q => q.2.missed).eraseDups
    let s1 := Prog.exchange (busyOf s l) s
    let s2 := items.foldl missItem s1
    let s3 := l.foldl (fun s q => q.2.missed.eraseDups.foldl (missOwn q.1) s) s2
    let s4 := l.foldl (fun s q => slackDie s q.1 q.2) s3
    let s5 := govern (l.foldl (fun m q => min m (leastOf s4 q.2)) 32767) s4
    let s6 := l.foldl (fun s q => measureDie s q.1 q.2) s5
    selfTest l (temperature l s6)

/-! The frame boundary. -/

/-- What the last boundary and the frame behind it still decide, before the counter moves on: samples, verdicts, the ends of
recipe steps, payloads of static slots, and the records of the last boundary. -/
def close (s : State) : State :=
  RecOps.commit (Net.form (Seq.closeBoundary (AcqOps.sampleAll (Safe.evaluate (AcqOps.actAllEnds s)))))

/-- The counter reaches the boundary; a step that is due is applied there (R62, R83, R87). -/
def advance (s0 : State) : State :=
  let held := Seq.held s0
  let s1 : State := { s0 with tm := s0.tm.advance }
  let s2 := match s1.tm.stepDue with
    | some th => TimeCmd.step th s1
    | none => s1
  Seq.countFrames held (RecOps.takeMid s2)

/-- Write-one-to-clear registers, whose writes come before what this boundary sets (R622). Log: 79 (DEDUCED, unsafe). -/
def isClear (o : Nat) : Bool :=
  [0x405C, 0x4108, 0x4144, 0x4180, 0x4184, 0x4188, 0x418C, 0x41C0, 0x4204, 0x4244, 0x4288, 0x42C8, 0x4304, 0x4310,
    0x4314].contains o

/-- A due message that clears flags. Log: 79 (DEDUCED, unsafe). -/
def clearMsg (s : State) (d : Down) : State :=
  match d.body with
  | .pairWrite o v => if isClear o then Setup.applyWrite o v s else s
  | _ => s

/-- A due message at its application frame. A field reset on the way leaves nothing to apply the rest to.
Log: 4 (DESIGN CHOICE, safe). -/
def applyMsg (s : State) (d : Down) : State :=
  if !s.tm.lock then s
  else
    match d.body with
    | .command e => if e.opcode = 0x0A01 then Aborts.field e.cmd s else Cmds.command e.opcode.toNat e.cmd none s
    | .pairWrite o v => if isClear o then s else Setup.applyWrite o v s
    | .diagWrite die _ v => Pair.inject (Pair.dieOf die) v s
    | .modeForce v => Modes.force v s
    | .bulk b => Dma.bulkDown b s

/-- Whether a message is the command that an ABORT names. -/
def isTarget (c : Cmd) (d : Down) : Bool :=
  match d.body with
  | .command e => decide (e.opcode ≠ 0x0A01) && Aborts.names c (Dma.originOf e)
  | _ => false

/-- An ABORT is put behind the command it names when that follows. -/
def putAbort (a : Down) (c : Cmd) : List Down → List Down
  | [] => [a]
  | d :: rest => if isTarget c d then d :: a :: rest else d :: putAbort a c rest

/-- The order in which due messages are applied: ascending barrier sequence numbers, but a command counts as applied
before an
ABORT of the same boundary that names it (R21, R51). -/
def order : List Down → List Down
  | [] => []
  | d :: rest =>
    match d.body with
    | .command e =>
      if e.opcode = 0x0A01 ∧ rest.any (isTarget e.cmd) then putAbort d e.cmd (order rest) else d :: order rest
    | _ => d :: order rest

/-- Messages whose application frame is this boundary leave the queue; the others come one boundary nearer (R20). -/
def takeDue (s : State) : List Down × State :=
  let near := s.hbd.down.map fun d => { d with wait := d.wait - 1 }
  (near.filter fun d => decide (d.wait = 0),
    { s with hbd.down := near.filter fun d => decide (d.wait ≠ 0), hbd.pairPending := s.hbd.pairPending.map (· - 1) })

/-- Event counts of the FID or the HBD that its own rows do not show, and its busy lattice points (R590); `own` names the
events that the rows show. -/
def bridgeCounts (die : Nat) (own : Nat → Nat → Bool) (counts : List (Nat × Nat × Nat)) (busy : List Nat) (s : State) : State :=
  let s1 := counts.foldl (fun s q =>
    if q.1 < 6 && decide (q.2.1 ≠ 1) && decide (q.2.1 ≠ 7) && !own q.1 q.2.1 then Ops.countDie die q.1 q.2.1 q.2.2 s else s) s
  busy.zipIdx.foldl (fun s q =>
    if q.2 < 6 then { s with log.counters := Tab.modify s.log.counters (die * 8 + q.2) fun k => { k with busy := k.busy + q.1 } }
    else s) s1

/-- What the FID's regions have counted in the ended frame. -/
def fidCounts (inp : FieldInputs) (s : State) : State :=
  bridgeCounts 3 (fun r sel => decide (16 ≤ sel) && (decide (r = 0) || decide (r = 4) || decide (r = 5))) inp.counts
    inp.busyPts s

/-- What the HBD's regions have counted in the ended frame. Log: 89 (DEDUCED, unsafe). -/
def hbdCounts (inp : FieldInputs) (s : State) : State :=
  if s.pwr.hbdReady then
    bridgeCounts 0 (fun r sel => decide (16 ≤ sel) &&
      (decide (r = 1) || decide (r = 5) || (decide (r = 2) && decide (sel ≠ 17)))) inp.hbdCounts inp.hbdBusyPts s
  else s

/-- The FID latches the field inputs and the results of the ended frame (R64, R201, R276, R490, R639). -/
def latch (inp : FieldInputs) (s : State) : State :=
  let s1 := Safe.latch inp.edm.toNat (Out.latchTrig (AxisIo.latch (fidCounts inp (RecOps.countFrame s))))
  AcqOps.closeIntervals (Adc.boundary (Dma.fdmaBoundary { s1 with out.readback := inp.valveRb.toNat }))

/-- Results of the frames before take effect: loop outputs, the pair's decisions, the safety verdict and a committed safety
configuration, frames received (R220, R424, R465, R490, R513). Log: 9 (DESIGN CHOICE, safe), 79 (DEDUCED, unsafe). -/
def takeEffect (s : State) : State :=
  let s1 := Out.pwmFromLoops (Loop.takeEffectAll { s with md.outHeld := false })
  Net.deliver (Safe.applyCommit (Safe.takeEffect (Taps.latch (Pair.boundary s1))))

/-- Cycles and recipe steps commit (R378), then the mode changes that no request makes. -/
def commits (s : State) : State :=
  let s1 := Seq.commitAll (Prog.commitAll s)
  Modes.fieldResetDue (Modes.automatic (Modes.stopEnds (Modes.countDegraded s1)))

/-- Blocks, records and samples that are due are handed to the barrier (R297, R307, R592, R594). -/
def handOver (s : State) : State :=
  AcqOps.deliver (AcqOps.handOver (RecOps.handOver (RecOps.enterSamples (Ops.txAppendAll s))))

/-- The FID drives the outputs of this boundary; `held` tells that they were held off until now (R16, R115, R505). -/
def outputs (held : Bool) (s : State) : State :=
  let s1 := if held && s.stepsOn && s.md.mode.live then Safe.release s else s
  Out.apply (Safe.drive (Out.pwmFromLoops s1))

/-- What follows the messages: idle slots copy their shadows, checks enter their results, cycles start, a SAFE_STOP
entered here may have nothing to stop,
outputs are driven (R130, R378, R506). -/
def finish (held : Bool) (s : State) : State :=
  if !s.tm.lock then s
  else Seq.judge (outputs held (Modes.stopEnds (Prog.startAll (Checks.enter (handOver (Loop.copyIdle s))))))

/-- What has its boundary among the frame numbers that a TIME_SET of this boundary has skipped: trigger events, loop outputs,
cycles and recipe steps; `label` is the number the boundary had (R89, R101, R325). Log: 21 (DEDUCED, unsafe). -/
def catchUp (label : Nat) (s : State) : State :=
  if s.tm.frame ≤ label then Seq.commitSkipped label s
  else
    let s1 := Adc.frameEvent { s with tm.late := label + 1 }
    let s2 := Seq.commitSkipped label (Prog.commitAll (Out.pwmFromLoops (Loop.takeEffectAll s1)))
    { s2 with tm.late := 0 }

/-- FRAME_BOUNDARY (R64); the HBD's own frame goes on without a lattice too.
Log: 3 (DESIGN CHOICE, safe), 4 (DESIGN CHOICE, safe), 30 (DEDUCED, unsafe), 79 (DEDUCED, unsafe). -/
def boundary (inp : FieldInputs) (s0 : State) : State :=
  let s := hbdCounts inp (Ops.hbdFrame s0)
  if !s.tm.lock then s
  else
    let held := s.md.outHeld
    let r := takeDue (advance (close (Pair.retain inp s)))
    let msgs := order r.1
    let s1 := RecOps.latch (commits (takeEffect (latch inp (msgs.foldl clearMsg (Checks.endIdle r.2)))))
    Regs.latchRegs (finish held (catchUp s1.tm.frame (msgs.foldl applyMsg s1)))

end Sys2Proof.Machine.Frame
end

