-- ==== Sys2Proof/Machine/RowsAcq.lean ====
section
/-!
DEFINITION. The meanings of the rows of conversion, acquisition and the recorder.
-/

namespace Sys2Proof.Machine

/-- ADC_CONVERTER (R281). -/
def execAdcConverter (c : Cmd) (s : State) : Answer := .next (Cmds.adcConverter c s)

/-- ADC_SEQUENCE (R282). -/
def execAdcSequence (c : Cmd) (s : State) : Answer := .next (Cmds.adcSequence c s)

/-- ADC_DMA (R283). -/
def execAdcDma (c : Cmd) (s : State) : Answer := .next (Cmds.adcDma c s)

/-- ADC_STATUS (R284). -/
def execAdcStatus (c : Cmd) (s : State) : Answer := .next (Cmds.adcStatus c s)

/-- ADC_REGULAR_TRIGGER (R264). -/
def execAdcRegularTrigger (conv : Fin 32) (t : Instant) (s : State) : Answer := .next (Adc.regularTrigger conv.val t s)

/-- ADC_INJECTED_TRIGGER (R265). -/
def execAdcInjectedTrigger (conv : Fin 32) (t : Instant) (s : State) : Answer := .next (Adc.injectedTrigger conv.val t s)

/-- CONVERTER_FREE (R269). -/
def execConverterFree (conv : Fin 32) (t : Instant) (s : State) : Answer := .next (Adc.converterFree conv.val t s)

/-- ADC_SLOT_END (R271). -/
def execAdcSlotEnd (conv : Fin 32) (a b : AnalogIn) (t : Instant) (s : State) : Answer :=
  .next (Adc.slotEnd conv.val (Adc.codeOf a) (Adc.codeOf b) t s)

/-- ADC_TEST_END (R274). -/
def execAdcTestEnd (conv : Fin 32) (t : Instant) (s : State) : Answer := .next (Pair.converterTestEnd conv.val t s)

/-- ACQ_TAP_ASSIGN (R290). -/
def execAcqTapAssign (c : Cmd) (s : State) : Answer := .next (Cmds.acqTapAssign c s)

/-- ACQ_REDUCE (R291). -/
def execAcqReduce (c : Cmd) (s : State) : Answer := .next (Cmds.acqReduce c s)

/-- CAPTURE_CFG (R302). -/
def execCaptureCfg (c : Cmd) (s : State) : Answer := .next (Cmds.captureCfg c s)

/-- CAPTURE_TRIGGER (R303). -/
def execCaptureTrigger (c : Cmd) (s : State) : Answer := .next (Cmds.captureTrigger c s)

/-- CAPTURE_ARM (R303). -/
def execCaptureArm (c : Cmd) (s : State) : Answer := .next (Cmds.captureArm c s)

/-- CAPTURE_STOP (R305). -/
def execCaptureStop (c : Cmd) (s : State) : Answer := .next (Cmds.captureStop c s)

/-- CAPTURE_SAMPLE (R302). -/
def execCaptureSample (eng : Fin 64) (s : State) : Answer := .next (AcqOps.captureSample eng.val s)

/-- REDUCTION_INTERVAL_END (R297). -/
def execReductionIntervalEnd (tap : Fin 4096) (s : State) : Answer := .next (AcqOps.intervalEnd tap.val s)

/-- COUNTER_SELECT (R597). -/
def execCounterSelect (c : Cmd) (s : State) : Answer := .next (Cmds.counterSelect c s)

/-- COUNTER_DUMP_CFG (R592). -/
def execCounterDumpCfg (c : Cmd) (s : State) : Answer := .next (Cmds.counterDumpCfg c s)

/-- PRECISE_CFG (R593). -/
def execPreciseCfg (c : Cmd) (s : State) : Answer := .next (Cmds.preciseCfg c s)

/-- COUNTER_DUMP (R592). -/
def execCounterDump (s : State) : Answer := .next (RecOps.counterDump s)

/-- DUMP_CAPTURE (R592). -/
def execDumpCapture (s : State) : Answer := .next (RecOps.capture s)

end Sys2Proof.Machine
end

