-- ==== Sys2Proof/Machine/RowsHost.lean ====
section
/-!
DEFINITION. The meanings of the rows of the host side: rings, barrier messages, host DMA and setup accesses.
-/

namespace Sys2Proof.Machine

/-- PAIR_WRITE (R21). -/
def execPairWrite (offset : BitVec 16) (data : BitVec 32) (s : State) : Answer :=
  .next (Setup.applyWrite offset.toNat data.toNat s)

/-- COMMAND (R21). -/
def execCommand (opcode : BitVec 16) (c : Cmd) (load : Option (List (BitVec 8))) (s : State) : Answer :=
  .next (Cmds.command opcode.toNat c load s)

/-- COMPLETION (R542). -/
def execCompletion (s : State) : Answer := .next (completion s)

/-- STREAM (R300). -/
def execStream (ring : Fin 32) (s : State) : Answer := .next (stream ring.val s)

/-- EVENT (R585). -/
def execEvent (s : State) : Answer := .next (event s)

/-- FIELD_RECORDER_RESTART (R587). -/
def execFieldRecorderRestart (s : State) : Answer := .next (fieldRecorderRestart s)

/-- ACK (R479). -/
def execAck (s : State) : Answer := .next (ack s)

/-- BULK_DOWN (R559). -/
def execBulkDown (b : BulkDown) (s : State) : Answer := .next (Dma.bulkDown b s)

/-- BULK_UP (R559). -/
def execBulkUp (h : Fin 16) (s : State) : Answer := .next (Dma.bulkUp h.val s)

/-- DIAG_REQUEST (R569). -/
def execDiagRequest (req : Nat) (s : State) : Answer := .next (Regs.diagRequest req s)

/-- DIAG_REPLY (R569). -/
def execDiagReply (req : Nat) (s : State) : Answer := .next (Regs.diagReply req s)

/-- DIAG_REPLY_TIMEOUT (R569). -/
def execDiagReplyTimeout (req us : Nat) (s : State) : Answer := .next (Regs.diagTimeout req us s)

/-- ABORT (R555). -/
def execAbort (c : Cmd) (s : State) : Answer := .next (Cmds.abort c s)

/-- NOP (R554). -/
def execNop (c : Cmd) (s : State) : Answer := .next (Cmds.nop c s)

/-- DMA_TO_DECK (R559). -/
def execDmaToDeck (c : Cmd) (s : State) : Answer := .next (Cmds.dmaToDeck c s)

/-- DMA_FROM_DECK (R559). -/
def execDmaFromDeck (c : Cmd) (s : State) : Answer := .next (Cmds.dmaFromDeck c s)

/-- HDMA_DESCRIPTOR_FETCHED (R556). -/
def execHdmaDescriptorFetched (h : Fin 16) (desc : BitVec 128) (s : State) : Answer :=
  .next (Dma.descriptorFetched h.val desc s)

/-- HDMA_DATA_DONE (R559). -/
def execHdmaDataDone (h : Fin 16) (data : List (BitVec 8)) (s : State) : Answer := .next (Dma.dataDone h.val data s)

/-- HDMA_BUS_ERROR (R562). -/
def execHdmaBusError (addr : BitVec 64) (outstanding : BitVec 16) (cause : BusCause) (s : State) : Answer :=
  .next (Dma.busError addr.toNat outstanding.toNat cause s)

/-- HDMA_PAUSE (R560). -/
def execHdmaPause (h : Fin 16) (s : State) : Answer := .next (Dma.pause h.val s)

/-- HDMA_PAUSE_CLEAR (R560). -/
def execHdmaPauseClear (h : Fin 16) (s : State) : Answer := .next (Dma.pauseClear h.val s)

/-- HDMA_RESUME (R563). -/
def execHdmaResume (h : Fin 16) (s : State) : Answer := .next (Dma.resume h.val s)

/-- FDMA_PAUSE (R566). -/
def execFdmaPause (value : BitVec 32) (s : State) : Answer := .next (Setup.direct 0x4340 value.toNat s)

/-- FDMA_RESUME (R565). -/
def execFdmaResume (value : BitVec 32) (s : State) : Answer := .next (Setup.direct 0x4348 value.toNat s)

/-- DB_POLL (R534). -/
def execDbPoll (value : BitVec 32) (s : State) : Answer := .next (dbPoll value.toNat s)

/-- DOORBELL_POLL (R534). -/
def execDoorbellPoll (page : DoorbellPage) (us : Nat) (s : State) : Answer := .next (Doorbell.poll page us s)

/-- DOORBELL_BUS_ERROR (R538). -/
def execDoorbellBusError (_cause : BusCause) (s : State) : Answer := .next (doorbellBusError s)

/-- SUBMISSION_READ_FAIL (R658). -/
def execSubmissionReadFail (ring : Fin 32) (_cause : BusCause) (s : State) : Answer :=
  .next (submissionReadFail ring.val s)

/-- RING_ERR_CLEAR (R541). -/
def execRingErrClear (value : BitVec 32) (s : State) : Answer := .next (ringErrClear value.toNat s)

/-- SESSION_CTRL_CLOSE (R549). -/
def execSessionCtrlClose (value : BitVec 32) (s : State) : Answer := .next (sessionCtrlClose value.toNat s)

/-- HOST_SESSION_CLOSED (R550). -/
def execHostSessionClosed (s : State) : Answer := .next (hostSessionClosed s)

/-- RING_IRQ_DELAY (R533). -/
def execRingIrqDelay (ring : Fin 32) (us : Nat) (s : State) : Answer := .next (ringIrqDelay ring.val us s)

/-- READY_STATUS_CLR (R147). -/
def execReadyStatusClr (value : BitVec 32) (s : State) : Answer := .next (readyStatusClr value.toNat s)

/-- VIOL_INFO_CLR (R567). -/
def execViolInfoClr (value : BitVec 32) (s : State) : Answer := .next (violInfoClr value.toNat s)

/-- LOW_HALF_READ (R617). -/
def execLowHalfRead (offset : BitVec 16) (wide : Bool) (s : State) : Answer := .next (Setup.lowHalfRead offset.toNat wide s)

/-- PAIR_WINDOW_READ (R621). -/
def execPairWindowRead (offset : BitVec 16) (s : State) : Answer := .next (Setup.pairWindowRead offset.toNat s)

/-- SETUP_WRITE (R622). -/
def execSetupWrite (offset : BitVec 16) (value : BitVec 64) (wide : Bool) (s : State) : Answer :=
  .next (Setup.setupWrite offset.toNat value.toNat wide s)

/-- UNSUPPORTED_ACCESS (R616). -/
def execUnsupportedAccess (offset : BitVec 16) (write : Bool) (be : BitVec 4) (s : State) : Answer :=
  .next (Setup.unsupportedAccess offset.toNat write be.toNat s)

end Sys2Proof.Machine
end

