-- ==== Sys2Proof/Machine/RowsLoop.lean ====
section
/-!
DEFINITION. The meanings of the rows of loops.
-/

namespace Sys2Proof.Machine

/-- LOOP_SLOT (R251). -/
def execLoopSlot (c : Cmd) (s : State) : Answer := .next (Cmds.loopSlot c s)

/-- LOOP_STAGE (R252). -/
def execLoopStage (c : Cmd) (s : State) : Answer := .next (Cmds.loopStage c s)

/-- LOOP_TABLE (R253). -/
def execLoopTable (c : Cmd) (s : State) : Answer := .next (Cmds.loopTable c s)

/-- LOOP_SETPOINT (R221). -/
def execLoopSetpoint (c : Cmd) (s : State) : Answer := .next (Cmds.loopSetpoint c s)

/-- LOOP_MODE (R237). -/
def execLoopMode (c : Cmd) (s : State) : Answer := .next (Cmds.loopMode c s)

/-- LOOP_SET (R238). -/
def execLoopSet (c : Cmd) (s : State) : Answer := .next (Cmds.loopSet c s)

/-- LOOP_PRESET (R254). -/
def execLoopPreset (c : Cmd) (s : State) : Answer := .next (Cmds.loopPreset c s)

/-- LOOP_OSC_CLEAR (R243). -/
def execLoopOscClear (c : Cmd) (s : State) : Answer := .next (Cmds.loopOscClear c s)

/-- LOOP_STATUS (R255). -/
def execLoopStatus (c : Cmd) (s : State) : Answer := .next (Cmds.loopStatus c s)

/-- LOOP_SLOT_BOUNDARY (R220). -/
def execLoopSlotBoundary (u : Fin 832) (s : State) : Answer := .next (Loop.slotBoundary u.val s)

/-- LOOP_INPUT_STALE (R246). -/
def execLoopInputStale (u : Fin 832) (s : State) : Answer := .next (Loop.inputStale u.val s)

end Sys2Proof.Machine
end

