-- ==== Sys2Proof/Machine/RowsMotion.lean ====
section
/-!
DEFINITION. The meanings of the rows of motion and axis I/O.
-/

namespace Sys2Proof.Machine

/-- AXIS_LIMITS (R159). -/
def execAxisLimits (c : Cmd) (s : State) : Answer := .next (Cmds.axisLimits c s)

/-- AXIS_STOPS (R159). -/
def execAxisStops (c : Cmd) (s : State) : Answer := .next (Cmds.axisStops c s)

/-- AXIS_IO (R188). -/
def execAxisIo (c : Cmd) (s : State) : Answer := .next (Cmds.axisIo c s)

/-- MOVE (R162). -/
def execMove (c : Cmd) (s : State) : Answer := .next (Cmds.move c s)

/-- STOP (R171). -/
def execStop (c : Cmd) (s : State) : Answer := .next (Cmds.stop c s)

/-- OVERRIDE (R175). -/
def execOverride (c : Cmd) (s : State) : Answer := .next (Cmds.override c s)

/-- FOLLOW (R178). -/
def execFollow (c : Cmd) (s : State) : Answer := .next (Cmds.follow c s)

/-- JOG (R177). -/
def execJog (c : Cmd) (s : State) : Answer := .next (Cmds.jog c s)

/-- HOME (R208). -/
def execHome (c : Cmd) (s : State) : Answer := .next (Cmds.home c s)

/-- AXIS_STATUS (R184). -/
def execAxisStatus (c : Cmd) (s : State) : Answer := .next (Cmds.axisStatus c s)

/-- ENCODER_STATUS (R215). -/
def execEncoderStatus (c : Cmd) (s : State) : Answer := .next (Cmds.encoderStatus c s)

/-- SERVO_TICK (R150). -/
def execServoTick (s : State) : Answer := .next (Servo.servoTick s)

/-- FOLLOW_MASTER_LOST (R181). -/
def execFollowMasterLost (axis : Fin 64) (s : State) : Answer := .next (Servo.followMasterLost axis.val s)

/-- AXIS_FE_FAULT (R203). -/
def execAxisFeFault (axis : Fin 64) (s : State) : Answer := .next (Servo.axisFeFault axis.val s)

/-- HOME_CHATTER_WINDOW_END (R209). -/
def execHomeChatterWindowEnd (axis : Fin 64) (s : State) : Answer := .next (Home.chatterWindowEnd axis.val s)

/-- ENCODER_EDGE (R199). -/
def execEncoderEdge (axis : Fin 64) (a b : Bool) (heldA heldB : Nat) (s : State) : Answer :=
  .next (AxisIo.encoderEdge axis.val a b heldA heldB s)

/-- INDEX_EDGE (R204). -/
def execIndexEdge (axis : Fin 64) (level : Bool) (held : Nat) (t : Instant) (s : State) : Answer :=
  .next (AxisIo.indexEdge axis.val level held t s)

/-- SWITCH_EDGE (R206). -/
def execSwitchEdge (axis : Fin 64) (sw : Switch) (level : Bool) (t : Instant) (s : State) : Answer :=
  .next (AxisIo.switchEdge axis.val sw level t s)

/-- SWITCH_EDGE_QUALIFIED (R206). -/
def execSwitchEdgeQualified (axis : Fin 64) (sw : Switch) (t : Instant) (s : State) : Answer :=
  .next (AxisIo.switchEdgeQualified axis.val sw t s)

/-- ACCUMULATOR_STROBE (R192). -/
def execAccumulatorStrobe (t : Instant) (s : State) : Answer := .next (AxisIo.accumulatorStrobe t s)

end Sys2Proof.Machine
end

