-- ==== Sys2Proof/Machine/RowsNet.lean ====
section
/-!
DEFINITION. The meanings of the rows of the Benand network.
-/

namespace Sys2Proof.Machine

/-- NET_SYSTEM (R450). -/
def execNetSystem (c : Cmd) (s : State) : Answer := .next (Cmds.netSystem c s)

/-- NET_NODES (R414). -/
def execNetNodes (c : Cmd) (s : State) : Answer := .next (Cmds.netNodes c s)

/-- NET_SLOTS (R450). -/
def execNetSlots (c : Cmd) (s : State) : Answer := .next (Cmds.netSlots c s)

/-- NET_PUBS (R426). -/
def execNetPubs (c : Cmd) (s : State) : Answer := .next (Cmds.netPubs c s)

/-- NET_LOCAL (R448). -/
def execNetLocal (c : Cmd) (s : State) : Answer := .next (Cmds.netLocal c s)

/-- NET_SEND (R447). -/
def execNetSend (c : Cmd) (load : Option (List (BitVec 8))) (s : State) : Answer := .next (Cmds.netSend c load s)

/-- NET_PORT_STATUS (R453). -/
def execNetPortStatus (c : Cmd) (s : State) : Answer := .next (Cmds.netPortStatus c s)

/-- NET_NODE_MAP (R453). -/
def execNetNodeMap (c : Cmd) (s : State) : Answer := .next (Cmds.netNodeMap c s)

/-- NETWORK_CYCLE (R420). -/
def execNetworkCycle (s : State) : Answer := .next (Net.networkCycle s)

/-- STATIC_SLOT_SEND (R422). -/
def execStaticSlotSend (slot : Fin 1024) (s : State) : Answer := .next (Net.staticSlotSend slot.val s)

/-- DYNAMIC_FRAME_SEND (R425). -/
def execDynamicFrameSend (mini : Fin 4096) (chB : Bool) (s : State) : Answer :=
  .next (Net.dynamicFrameSend mini.val chB s)

/-- BENAND_FRAME_RX (R417). -/
def execBenandFrameRx (chB : Bool) (rx : RxFrame) (s : State) : Answer := .next (Net.frameRx chB rx s)

/-- PIER_START_DELIMITER (R428). -/
def execPierStartDelimiter (pierB : Bool) (port : Fin 9) (hdr : List (BitVec 8)) (t : Instant) (s : State) : Answer :=
  .next (Pier.startDelimiter pierB port.val hdr t s)

/-- SLOT_END_CUT (R430). -/
def execSlotEndCut (pierB : Bool) (port : Fin 9) (t : Instant) (s : State) : Answer :=
  .next (Pier.slotEndCut pierB port.val t s)

/-- PROBE_REQ (R434). -/
def execProbeReq (pierB : Bool) (port : Fin 8) (t : Instant) (s : State) : Answer :=
  .next (Pier.probeReq pierB port.val t s)

/-- PROBE_REQ_RX (R434). -/
def execProbeReqRx (pierB : Bool) (port : Fin 8) (source : BitVec 16) (t : Instant) (s : State) : Answer :=
  .next (Pier.probeReqRx pierB port.val source.toNat t s)

/-- PROBE_RSP (R434). -/
def execProbeRsp (pierB : Bool) (port : Fin 8) (source : BitVec 16) (turn : BitVec 32) (t : Instant) (s : State) : Answer :=
  .next (Pier.probeRsp pierB port.val source.toNat turn.toNat t s)

/-- NET_PORT_DOWN (R435). -/
def execNetPortDown (pierB : Bool) (port : Fin 8) (cause : PortDown) (s : State) : Answer :=
  .next (Pier.portDown pierB port.val cause s)

/-- COLDSTART_OFFER (R439). -/
def execColdstartOffer (s : State) : Answer := .next (Net.coldstartOffer s)

/-- NET_COLDSTART_FAIL (R439). -/
def execNetColdstartFail (s : State) : Answer := .next (Net.coldstartFail s)

/-- COLDSTART_LOCK_RELEASE (R438). -/
def execColdstartLockRelease (pierB : Bool) (t : Instant) (s : State) : Answer := .next (Pier.lockRelease pierB t s)

end Sys2Proof.Machine
end

