-- ==== Sys2Proof/Machine/RowsPair.lean ====
section
/-!
DEFINITION. The meanings of the rows of the pair, its links and its faults.
-/

namespace Sys2Proof.Machine

/-- FRAME_DIGEST_EXCHANGE (R462). -/
def execFrameDigestExchange (a b : List (BitVec 64)) (fidDiffers : Bool) (s : State) : Answer :=
  .next (Pair.digestExchange a b fidDiffers s)

/-- REPLAY_RESULT (R467). -/
def execReplayResult (a b : Replay) (s : State) : Answer := .next (Pair.replayResult a b s)

/-- DIE_FAULT (R463). -/
def execDieFault (die : Die) (checker : Checker) (region : Fin 8) (extent : Extent) (unit : Fin 1024) (late : Bool) (s : State) : Answer :=
  .next (Pair.dieFault (Pair.dieOf die) checker region.val extent unit.val late s)

/-- ECC_CORRECTED (R464). -/
def execEccCorrected (die : Die) (s : State) : Answer := .next (Pair.eccCorrected (Pair.dieOf die) s)

/-- FID_FAULT (R476). -/
def execFidFault (region : Fin 6) (extent : Extent) (unit : Fin 128) (s : State) : Answer :=
  .next (Out.faultOff (Pair.fidFault region.val extent unit.val s))

/-- FID_REGION_RETURN (R31). -/
def execFidRegionReturn (region : Fin 6) (s : State) : Answer := .next (Pair.fidRegionReturn region.val s)

/-- RESYNC_PASS_END (R471). -/
def execResyncPassEnd (dirty : Nat) (s : State) : Answer := .next (Pair.passEnd dirty s)

/-- PAIR_RESTORED (R472). -/
def execPairRestored (s : State) : Answer := .next (Pair.restored s)

/-- RESYNC_RETRY (R473). -/
def execResyncRetry (cause : RetryCause) (s : State) : Answer := .next (Pair.resyncRetry cause s)

/-- HEALTH_REPORT (R477). -/
def execHealthReport (m : HealthMeas) (s : State) : Answer := .next (Pair.healthReport m s)

/-- HEARTBEAT (R478). -/
def execHeartbeat (link : Die) (s : State) : Answer := .next (Pair.heartbeat link s)

/-- BARRIER_LINK_DOWN (R478). -/
def execBarrierLinkDown (link : Die) (lost : Bool) (s : State) : Answer := .next (Pair.linkDown link lost s)

/-- BARRIER_LINK_RETRAIN (R478). -/
def execBarrierLinkRetrain (link : Die) (s : State) : Answer := .next (Pair.linkRetrain link s)

/-- BARRIER_LINK_UP (R478). -/
def execBarrierLinkUp (link : Die) (s : State) : Answer := .next (Pair.linkBack link s)

/-- GIRDER_DOWN (R481). -/
def execGirderDown (s : State) : Answer := .next (Pair.girderDown s)

/-- GIRDER_RETRAIN (R481). -/
def execGirderRetrain (ok : Bool) (s : State) : Answer := .next (Pair.girderRetrain ok s)

/-- PAIR_SWAP (R483). -/
def execPairSwap (c : Cmd) (s : State) : Answer := .next (Cmds.pairSwap c s)

/-- DIE_RETRY (R484). -/
def execDieRetry (c : Cmd) (s : State) : Answer := .next (Cmds.dieRetry c s)

/-- DIAG_INJECT (R624). -/
def execDiagInject (die : Die) (value : BitVec 32) (s : State) : Answer :=
  .next (Setup.injectAt (Pair.dieOf die) value.toNat s)

/-- HBD_FAULT (R32). -/
def execHbdFault (region : Fin 6) (extent : Extent) (unit : Fin 128) (s : State) : Answer :=
  .next (Setup.hbdFault region.val extent unit.val s)

end Sys2Proof.Machine
end

