-- ==== Sys2Proof/Machine/RowsProgram.lean ====
section
/-!
DEFINITION. The meanings of the rows of recipes and cyclic programs.
-/

namespace Sys2Proof.Machine

/-- SEQ_CFG (R317). -/
def execSeqCfg (c : Cmd) (s : State) : Answer := .next (Cmds.seqCfg c s)

/-- SEQ_LOAD (R318). -/
def execSeqLoad (c : Cmd) (load : Option (List (BitVec 8))) (s : State) : Answer := .next (Cmds.seqLoad c load s)

/-- SEQ_START (R324). -/
def execSeqStart (c : Cmd) (s : State) : Answer := .next (Cmds.seqStart c s)

/-- SEQ_RESUME (R336). -/
def execSeqResume (c : Cmd) (s : State) : Answer := .next (Cmds.seqResume c s)

/-- SEQ_STATUS (R343). -/
def execSeqStatus (c : Cmd) (s : State) : Answer := .next (Cmds.seqStatus c s)

/-- STEP_PREPARED (R324). -/
def execStepPrepared (q : Fin 16) (t : Instant) (s : State) : Answer := .next (Seq.stepPrepared q.val t s)

/-- KEYSTONE_COMMIT (R328). -/
def execKeystoneCommit (q : Fin 16) (s : State) : Answer := .next (Seq.keystoneCommit q.val s)

/-- STEP_END (R319). -/
def execStepEnd (q : Fin 16) (s : State) : Answer := .next (Seq.stepEnd q.val s)

/-- SEQ_TIMEOUT (R320). -/
def execSeqTimeout (q : Fin 16) (s : State) : Answer := .next (Seq.seqTimeout q.val s)

/-- PROG_CFG (R379). -/
def execProgCfg (c : Cmd) (s : State) : Answer := .next (Cmds.progCfg c s)

/-- PROG_LOAD (R409). -/
def execProgLoad (c : Cmd) (load : Option (List (BitVec 8))) (s : State) : Answer := .next (Cmds.progLoad c load s)

/-- TASK_CFG (R348). -/
def execTaskCfg (c : Cmd) (s : State) : Answer := .next (Cmds.taskCfg c s)

/-- PROG_IMAGE (R382). -/
def execProgImage (c : Cmd) (s : State) : Answer := .next (Cmds.progImage c s)

/-- PROG_MAP (R360). -/
def execProgMap (c : Cmd) (s : State) : Answer := .next (Cmds.progMap c s)

/-- PROG_CHANGE (R369). -/
def execProgChange (c : Cmd) (s : State) : Answer := .next (Cmds.progChange c s)

/-- FORCE_SET (R372). -/
def execForceSet (c : Cmd) (s : State) : Answer := .next (Cmds.forceSet c s)

/-- FORCE_CLEAR (R373). -/
def execForceClear (c : Cmd) (s : State) : Answer := .next (Cmds.forceClear c s)

/-- TASK_CONTROL (R380). -/
def execTaskControl (c : Cmd) (s : State) : Answer := .next (Cmds.taskControl c s)

/-- TASK_FLAGS (R380). -/
def execTaskFlags (c : Cmd) (s : State) : Answer := .next (Cmds.taskFlags c s)

/-- TASK_STATUS (R382). -/
def execTaskStatus (c : Cmd) (s : State) : Answer := .next (Cmds.taskStatus c s)

/-- TASK_FAULT_READ (R368). -/
def execTaskFaultRead (c : Cmd) (s : State) : Answer := .next (Cmds.taskFaultRead c s)

/-- FORCE_READ (R381). -/
def execForceRead (c : Cmd) (s : State) : Answer := .next (Cmds.forceRead c s)

/-- DISPATCH (R352). -/
def execDispatch (s : State) : Answer := .next (Prog.dispatch s)

end Sys2Proof.Machine
end

