-- ==== Sys2Proof/Machine/RowsSafety.lean ====
section
/-!
DEFINITION. The meanings of the rows of safety and outputs.
-/

namespace Sys2Proof.Machine

/-- VALVE_CFG (R516). -/
def execValveCfg (c : Cmd) (s : State) : Answer := .next (Cmds.valveCfg c s)

/-- PWM_CFG (R523). -/
def execPwmCfg (c : Cmd) (s : State) : Answer := .next (Cmds.pwmCfg c s)

/-- SAFETY_UNLOCK (R511). -/
def execSafetyUnlock (c : Cmd) (s : State) : Answer := .next (Cmds.safetyUnlock c s)

/-- UNLOCK_LOCKOUT_END (R511). -/
def execUnlockLockoutEnd (s : State) : Answer := .next (Safe.unlockLockoutEnd s)

/-- SAFETY_COMMIT (R513). -/
def execSafetyCommit (c : Cmd) (s : State) : Answer := .next (Cmds.safetyCommit c s)

/-- SAFETY_CANCEL (R511). -/
def execSafetyCancel (c : Cmd) (s : State) : Answer := .next (Cmds.safetyCancel c s)

/-- SAFETY_PASSWORD (R512). -/
def execSafetyPassword (c : Cmd) (s : State) : Answer := .next (Cmds.safetyPassword c s)

/-- SAFETY_SESSION_TIMEOUT (R511). -/
def execSafetySessionTimeout (s : State) : Answer := .next (Safe.sessionTimeout s)

/-- SAFETY_ACK (R504). -/
def execSafetyAck (c : Cmd) (s : State) : Answer := .next (Cmds.safetyAck c s)

/-- SAFE_SELECT (R526). -/
def execSafeSelect (c : Cmd) (s : State) : Answer := .next (Cmds.safeSelect c s)

/-- SAFETY_GLOBAL (R512). -/
def execSafetyGlobal (c : Cmd) (s : State) : Answer := .next (Cmds.safetyGlobal c s)

/-- SAFETY_INPUT (R492). -/
def execSafetyInput (c : Cmd) (s : State) : Answer := .next (Cmds.safetyInput c s)

/-- SAFETY_OUTPUT (R512). -/
def execSafetyOutput (c : Cmd) (s : State) : Answer := .next (Cmds.safetyOutput c s)

/-- SAFETY_AXIS (R512). -/
def execSafetyAxis (c : Cmd) (s : State) : Answer := .next (Cmds.safetyAxis c s)

/-- SAFETY_SLP (R512). -/
def execSafetySlp (c : Cmd) (s : State) : Answer := .next (Cmds.safetySlp c s)

/-- SAFETY_AXIS_STATUS (R527). -/
def execSafetyAxisStatus (c : Cmd) (s : State) : Answer := .next (Cmds.safetyAxisStatus c s)

/-- SAFETY_LOG_READ (R515). -/
def execSafetyLogRead (c : Cmd) (s : State) : Answer := .next (Cmds.safetyLogRead c s)

/-- SAFETY_INPUT_ACCEPT (R492). -/
def execSafetyInputAccept (k : Fin 16) (ball2 : Bool) (level : Bool) (held : Nat) (t : Instant) (s : State) : Answer :=
  .next (Safe.inputAccept k.val ball2 level held t s)

/-- SAFETY_DISCREPANCY (R492). -/
def execSafetyDiscrepancy (k : Fin 16) (t : Instant) (s : State) : Answer := .next (Safe.discrepancy k.val t s)

/-- SAFETY_VERDICT_EXCHANGE (R490). -/
def execSafetyVerdictExchange (xcomp : BitVec 32) (s : State) : Answer := .next (Safe.verdictExchange xcomp.toNat s)

/-- SS1_STANDSTILL (R500). -/
def execSs1Standstill (k : Fin 8) (s : State) : Answer := .next (Safe.ss1Standstill k.val s)

/-- SS1_TIMEOUT (R500). -/
def execSs1Timeout (k : Fin 8) (s : State) : Answer := .next (Safe.ss1Timeout k.val s)

/-- SAFETY_EDM_FAULT (R503). -/
def execSafetyEdmFault (i : Fin 16) (t : Instant) (s : State) : Answer := .next (Safe.edmFault i.val t s)

/-- SAFETY_CHANNEL_RESTORED (R509). -/
def execSafetyChannelRestored (ch : Die) (s : State) : Answer := .next (Safe.channelRestored (Pair.dieOf ch) s)

/-- OUTPUT_TEST_START (R517). -/
def execOutputTestStart (o : TestedOut) (t : Instant) (s : State) : Answer := .next (Out.testStart o t s)

/-- OUTPUT_TEST_END (R518). -/
def execOutputTestEnd (o : TestedOut) (pulseRead afterRead : Bool) (t : Instant) (s : State) : Answer :=
  .next (Out.testEnd o pulseRead afterRead t s)

/-- OUTPUT_READBACK (R519). -/
def execOutputReadback (o : TestedOut) (t : Instant) (s : State) : Answer := .next (Out.readback o t s)

/-- OUTPUT_UNTESTED (R521). -/
def execOutputUntested (o : TestedOut) (t : Instant) (s : State) : Answer := .next (Out.untested o t s)

/-- VALVE_FAULT_CLEAR (R522). -/
def execValveFaultClear (hi : Bool) (value : BitVec 32) (s : State) : Answer :=
  .next (Setup.direct (if hi then 0x4314 else 0x4310) value.toNat s)

/-- PWM_PERIOD_START (R524). -/
def execPwmPeriodStart (n : Fin 32) (t : Instant) (s : State) : Answer := .next (Out.periodStart n.val t s)

/-- PWM_HIGH_END (R524). -/
def execPwmHighEnd (n : Fin 32) (t : Instant) (s : State) : Answer := .next (Out.highEnd n.val t s)

/-- TRIG_IN_EDGE (R639). -/
def execTrigInEdge (n : Fin 8) (level : Bool) (t : Instant) (s : State) : Answer :=
  .next (Out.trigInEdge n.val level t s)

end Sys2Proof.Machine
end

