-- ==== Sys2Proof/Machine/RowsStart.lean ====
section
/-!
DEFINITION. The meanings of the rows of supplies, start-up, resets and modes.
-/

namespace Sys2Proof.Machine

/-- FIELD_SUPPLY_VALID (R137). -/
def execFieldSupplyValid (s : State) : Answer := .next (Boots.fieldSupplyValid s)

/-- FIELD_SUPPLY_LOST (R632). -/
def execFieldSupplyLost (s : State) : Answer := .next (Boots.fieldSupplyLost s)

/-- HOST_SUPPLY_VALID (R85). -/
def execHostSupplyValid (s : State) : Answer := .next (Boots.hostSupplyValid s)

/-- HOST_SUPPLY_LOST (R18). -/
def execHostSupplyLost (s : State) : Answer := .next (Boots.hostSupplyLost s)

/-- PERST (R531). -/
def execPerst (s : State) : Answer := .next (Boots.perst s)

/-- FUNCTION_LEVEL_RESET (R531). -/
def execFunctionLevelReset (s : State) : Answer := .next (Boots.functionLevelReset s)

/-- PERST_RELEASE (R531). -/
def execPerstRelease (s : State) : Answer := .next (Boots.perstRelease s)

/-- LATTICE_LOCK (R58). -/
def execLatticeLock (s : State) : Answer := .next (Boots.latticeLock s)

/-- ROM_SELF_TEST_END (R139). -/
def execRomSelfTestEnd (die : FieldDie) (pass : Bool) (s : State) : Answer := .next (Boots.romSelfTestEnd die pass s)

/-- HBD_READY (R143). -/
def execHbdReady (flash : List FlashEntry) (s : State) : Answer := .next (Boots.hbdReady flash s)

/-- IMAGE_VERIFIED (R603). -/
def execImageVerified (die : Die) (ctl : Image) (fid : Image) (s : State) : Answer :=
  .next (Boots.imageVerified die ctl fid s)

/-- BOOT_END (R140). -/
def execBootEnd (s : State) : Answer := .next (Boots.bootEnd s)

/-- FIELD_RESET (R122). -/
def execFieldReset (s : State) : Answer := .next (Boots.fieldReset s)

/-- LINK_CONTROL (R570). -/
def execLinkControl (msg : LinkCtl) (s : State) : Answer := .next (Boots.linkControl msg s)

/-- BOOT (R603). -/
def execBoot (msg : BootMsg) (s : State) : Answer := .next (Boots.bootMsg msg s)

/-- MODE_FORCE (R122). -/
def execModeForce (value : BitVec 32) (s : State) : Answer := .next (Modes.force value.toNat s)

/-- MODE_FORCE_RESET (R122). -/
def execModeForceReset (value : BitVec 32) (s : State) : Answer := .next (Modes.forceTo 0 value.toNat s)

/-- MODE_FORCE_CONFIGURE (R123). -/
def execModeForceConfigure (value : BitVec 32) (s : State) : Answer := .next (Modes.forceTo 2 value.toNat s)

/-- DEGRADED_EXPIRED (R120). -/
def execDegradedExpired (s : State) : Answer := .next (Modes.degradedExpired s)

/-- MODE_REQUEST (R112). -/
def execModeRequest (c : Cmd) (s : State) : Answer := .next (Cmds.modeRequest c s)

/-- SUBSYS_ENABLE (R128). -/
def execSubsysEnable (value : BitVec 32) (s : State) : Answer := .next (Setup.direct 0x4000 value.toNat s)

/-- REDUNDANCY_CFG (R485). -/
def execRedundancyCfg (value : BitVec 32) (s : State) : Answer := .next (Setup.direct 0x42C0 value.toNat s)

/-- CHECKED_SETUP_WRITE (R136). -/
def execCheckedSetupWrite (offset : BitVec 16) (value : BitVec 32) (s : State) : Answer :=
  .next (Setup.checkedWrite offset.toNat value.toNat s)

/-- CONSISTENCY_CHECK_END (R130). -/
def execConsistencyCheckEnd (m : CheckMeas) (s : State) : Answer := .next (Checks.checkEnd m s)

end Sys2Proof.Machine
end

