-- ==== Sys2Proof/Machine/RowsTime.lean ====
section
/-!
DEFINITION. The meanings of the rows of the lattice, network time and the governor.
-/

namespace Sys2Proof.Machine

/-- REF_LOST (R59). -/
def execRefLost (t : Instant) (s : State) : Answer := .next (refLost t s)

/-- REF_RESTORED (R60). -/
def execRefRestored (devPpb : Int) (t : Instant) (s : State) : Answer := .next (refRestored devPpb t s)

/-- HOLDOVER_EXPIRED (R61). -/
def execHoldoverExpired (t : Instant) (s : State) : Answer := .next (holdoverExpired t s)

/-- FRAME_BOUNDARY (R64). -/
def execFrameBoundary (inp : FieldInputs) (s : State) : Answer := .next (Frame.boundary inp s)

/-- DEADLINE (R80). -/
def execDeadline (a b : DieLocal) (s : State) : Answer := .next (Frame.deadline a b s)

/-- TIME (R85). -/
def execTime (s : State) : Answer := .next (Setup.time s)

/-- SLACK_CLEAR (R68). -/
def execSlackClear (value : BitVec 32) (s : State) : Answer := .next (Setup.direct 0x4064 value.toNat s)

/-- GOVERNOR_INTERVAL (R73). -/
def execGovernorInterval (s : State) : Answer := .next (governorInterval s)

/-- READ_VOUT_POLL (R74). -/
def execReadVoutPoll (mv : Nat) (t : Instant) (s : State) : Answer := .next (readVoutPoll mv t s)

/-- VOUT_SETTLE_TIMEOUT (R74). -/
def execVoutSettleTimeout (t : Instant) (s : State) : Answer := .next (voutSettleTimeout t s)

/-- PMBUS_NACK (R74). -/
def execPmbusNack (t : Instant) (s : State) : Answer := .next (pmbusNack t s)

/-- GOV_REG_ALERT (R75). -/
def execGovRegAlert (status : BitVec 16) (s : State) : Answer := .next (govRegAlert status.toNat s)

/-- TIME_SET (R101). -/
def execTimeSet (c : Cmd) (s : State) : Answer := .next (Cmds.timeSet c s)

/-- TXTS_READ (R102). -/
def execTxtsRead (c : Cmd) (s : State) : Answer := .next (Cmds.txtsRead c s)

/-- TIME_STEP (R87). -/
def execTimeStep (theta : Int) (s : State) : Answer := .next (TimeCmd.timeStep theta s)

/-- PPS_IN_EDGE (R94). -/
def execPpsInEdge (rising : Bool) (t : Instant) (s : State) : Answer := .next (TimeCmd.ppsInEdge rising t s)

/-- PPS_LOST (R94). -/
def execPpsLost (t : Instant) (s : State) : Answer := .next (ppsLost t s)

/-- PPS_OUT (R96). -/
def execPpsOut (s : State) : Answer := .next (ppsOut s)

/-- PPS_OUT_WIDTH_END (R96). -/
def execPpsOutWidthEnd (t : Instant) (s : State) : Answer := .next (ppsOutWidthEnd t s)

end Sys2Proof.Machine
end

