-- ==== Sys2Proof/Machine/RowsTrust.lean ====
section
/-!
DEFINITION. The meanings of the rows of trust and debug.
-/

namespace Sys2Proof.Machine

/-- TRUST_SVN_COMMIT (R605). -/
def execTrustSvnCommit (c : Cmd) (s : State) : Answer := .next (Cmds.trustSvnCommit c s)

/-- TRUST_PROVISION (R606). -/
def execTrustProvision (c : Cmd) (load : Option (List (BitVec 8))) (s : State) : Answer :=
  .next (Cmds.trustProvision c load s)

/-- ATTEST (R608). -/
def execAttest (c : Cmd) (s : State) : Answer := .next (Cmds.attest c s)

/-- IDENTITY_CERT (R607). -/
def execIdentityCert (c : Cmd) (s : State) : Answer := .next (Cmds.identityCert c s)

/-- DEBUG_CHALLENGE (R609). -/
def execDebugChallenge (c : Cmd) (s : State) : Answer := .next (Cmds.debugChallenge c s)

/-- DEBUG_CHALLENGE_EXPIRY (R609). -/
def execDebugChallengeExpiry (t : Instant) (s : State) : Answer := .next (Trusted.challengeExpiry t s)

/-- DEBUG_UNLOCK (R610). -/
def execDebugUnlock (c : Cmd) (load : Option (List (BitVec 8))) (s : State) : Answer := .next (Cmds.debugUnlock c load s)

/-- DEBUG_LOCK (R611). -/
def execDebugLock (c : Cmd) (s : State) : Answer := .next (Cmds.debugLock c s)

/-- DEBUG_SCOPE_EXPIRY (R611). -/
def execDebugScopeExpiry (t : Instant) (s : State) : Answer := .next (Debug.scopeExpiry t s)

/-- TAP_INSTRUCTION (R647). Log: 11 (DESIGN CHOICE, safe). -/
def execTapInstruction (fieldTap : Bool) (_ir : Nat) (s : State) : Answer := Debug.tapInstruction fieldTap s

end Sys2Proof.Machine
end

