-- ==== Sys2Proof/Machine/Dispatch.lean ====
section
/-!
DEFINITION. The dispatch: every command of the opcode table to its meaning.
-/

namespace Sys2Proof.Machine

def exec (i : Instr) (s : State) : Host.Outcome State Fault Refusal :=
  match i with
  | .fieldSupplyValid => Sys2Proof.Machine.execFieldSupplyValid s
  | .fieldSupplyLost => Sys2Proof.Machine.execFieldSupplyLost s
  | .hostSupplyValid => Sys2Proof.Machine.execHostSupplyValid s
  | .hostSupplyLost => Sys2Proof.Machine.execHostSupplyLost s
  | .perst => Sys2Proof.Machine.execPerst s
  | .functionLevelReset => Sys2Proof.Machine.execFunctionLevelReset s
  | .latticeLock => Sys2Proof.Machine.execLatticeLock s
  | .refLost t => Sys2Proof.Machine.execRefLost t s
  | .refRestored devPpb t => Sys2Proof.Machine.execRefRestored devPpb t s
  | .holdoverExpired t => Sys2Proof.Machine.execHoldoverExpired t s
  | .romSelfTestEnd die pass => Sys2Proof.Machine.execRomSelfTestEnd die pass s
  | .hbdReady flash => Sys2Proof.Machine.execHbdReady flash s
  | .imageVerified die ctl fid => Sys2Proof.Machine.execImageVerified die ctl fid s
  | .bootEnd => Sys2Proof.Machine.execBootEnd s
  | .fieldReset => Sys2Proof.Machine.execFieldReset s
  | .frameBoundary inp => Sys2Proof.Machine.execFrameBoundary inp s
  | .deadline a b => Sys2Proof.Machine.execDeadline a b s
  | .frameDigestExchange a b fidDiffers => Sys2Proof.Machine.execFrameDigestExchange a b fidDiffers s
  | .replayResult a b => Sys2Proof.Machine.execReplayResult a b s
  | .dieFault die checker region extent unit late => Sys2Proof.Machine.execDieFault die checker region extent unit late s
  | .eccCorrected die => Sys2Proof.Machine.execEccCorrected die s
  | .fidFault region extent unit => Sys2Proof.Machine.execFidFault region extent unit s
  | .fidRegionReturn region => Sys2Proof.Machine.execFidRegionReturn region s
  | .resyncPassEnd dirty => Sys2Proof.Machine.execResyncPassEnd dirty s
  | .pairRestored => Sys2Proof.Machine.execPairRestored s
  | .resyncRetry cause => Sys2Proof.Machine.execResyncRetry cause s
  | .healthReport m => Sys2Proof.Machine.execHealthReport m s
  | .heartbeat link => Sys2Proof.Machine.execHeartbeat link s
  | .barrierLinkDown link lost => Sys2Proof.Machine.execBarrierLinkDown link lost s
  | .barrierLinkRetrain link => Sys2Proof.Machine.execBarrierLinkRetrain link s
  | .barrierLinkUp link => Sys2Proof.Machine.execBarrierLinkUp link s
  | .girderDown => Sys2Proof.Machine.execGirderDown s
  | .girderRetrain ok => Sys2Proof.Machine.execGirderRetrain ok s
  | .linkControl msg => Sys2Proof.Machine.execLinkControl msg s
  | .pairWrite offset data => Sys2Proof.Machine.execPairWrite offset data s
  | .command opcode c load => Sys2Proof.Machine.execCommand opcode c load s
  | .completion => Sys2Proof.Machine.execCompletion s
  | .stream ring => Sys2Proof.Machine.execStream ring s
  | .event => Sys2Proof.Machine.execEvent s
  | .fieldRecorderRestart => Sys2Proof.Machine.execFieldRecorderRestart s
  | .counterDump => Sys2Proof.Machine.execCounterDump s
  | .dumpCapture => Sys2Proof.Machine.execDumpCapture s
  | .time => Sys2Proof.Machine.execTime s
  | .ack => Sys2Proof.Machine.execAck s
  | .boot msg => Sys2Proof.Machine.execBoot msg s
  | .bulkDown b => Sys2Proof.Machine.execBulkDown b s
  | .bulkUp h => Sys2Proof.Machine.execBulkUp h s
  | .diagRequest req => Sys2Proof.Machine.execDiagRequest req s
  | .diagReply req => Sys2Proof.Machine.execDiagReply req s
  | .diagReplyTimeout req us => Sys2Proof.Machine.execDiagReplyTimeout req us s
  | .modeForce value => Sys2Proof.Machine.execModeForce value s
  | .modeForceReset value => Sys2Proof.Machine.execModeForceReset value s
  | .modeForceConfigure value => Sys2Proof.Machine.execModeForceConfigure value s
  | .degradedExpired => Sys2Proof.Machine.execDegradedExpired s
  | .subsysEnable value => Sys2Proof.Machine.execSubsysEnable value s
  | .redundancyCfg value => Sys2Proof.Machine.execRedundancyCfg value s
  | .checkedSetupWrite offset value => Sys2Proof.Machine.execCheckedSetupWrite offset value s
  | .consistencyCheckEnd m => Sys2Proof.Machine.execConsistencyCheckEnd m s
  | .slackClear value => Sys2Proof.Machine.execSlackClear value s
  | .governorInterval => Sys2Proof.Machine.execGovernorInterval s
  | .readVoutPoll mv t => Sys2Proof.Machine.execReadVoutPoll mv t s
  | .voutSettleTimeout t => Sys2Proof.Machine.execVoutSettleTimeout t s
  | .govRegAlert status => Sys2Proof.Machine.execGovRegAlert status s
  | .timeSet c => Sys2Proof.Machine.execTimeSet c s
  | .txtsRead c => Sys2Proof.Machine.execTxtsRead c s
  | .timeStep theta => Sys2Proof.Machine.execTimeStep theta s
  | .ppsInEdge rising t => Sys2Proof.Machine.execPpsInEdge rising t s
  | .ppsLost t => Sys2Proof.Machine.execPpsLost t s
  | .ppsOut => Sys2Proof.Machine.execPpsOut s
  | .ppsOutWidthEnd t => Sys2Proof.Machine.execPpsOutWidthEnd t s
  | .modeRequest c => Sys2Proof.Machine.execModeRequest c s
  | .axisLimits c => Sys2Proof.Machine.execAxisLimits c s
  | .axisStops c => Sys2Proof.Machine.execAxisStops c s
  | .axisIo c => Sys2Proof.Machine.execAxisIo c s
  | .move c => Sys2Proof.Machine.execMove c s
  | .stop c => Sys2Proof.Machine.execStop c s
  | .override c => Sys2Proof.Machine.execOverride c s
  | .follow c => Sys2Proof.Machine.execFollow c s
  | .jog c => Sys2Proof.Machine.execJog c s
  | .home c => Sys2Proof.Machine.execHome c s
  | .axisStatus c => Sys2Proof.Machine.execAxisStatus c s
  | .encoderStatus c => Sys2Proof.Machine.execEncoderStatus c s
  | .servoTick => Sys2Proof.Machine.execServoTick s
  | .followMasterLost axis => Sys2Proof.Machine.execFollowMasterLost axis s
  | .axisFeFault axis => Sys2Proof.Machine.execAxisFeFault axis s
  | .homeChatterWindowEnd axis => Sys2Proof.Machine.execHomeChatterWindowEnd axis s
  | .encoderEdge axis a b heldA heldB => Sys2Proof.Machine.execEncoderEdge axis a b heldA heldB s
  | .indexEdge axis level held t => Sys2Proof.Machine.execIndexEdge axis level held t s
  | .switchEdge axis sw level t => Sys2Proof.Machine.execSwitchEdge axis sw level t s
  | .switchEdgeQualified axis sw t => Sys2Proof.Machine.execSwitchEdgeQualified axis sw t s
  | .trigInEdge n level t => Sys2Proof.Machine.execTrigInEdge n level t s
  | .loopSlot c => Sys2Proof.Machine.execLoopSlot c s
  | .loopStage c => Sys2Proof.Machine.execLoopStage c s
  | .loopTable c => Sys2Proof.Machine.execLoopTable c s
  | .loopSetpoint c => Sys2Proof.Machine.execLoopSetpoint c s
  | .loopMode c => Sys2Proof.Machine.execLoopMode c s
  | .loopSet c => Sys2Proof.Machine.execLoopSet c s
  | .loopPreset c => Sys2Proof.Machine.execLoopPreset c s
  | .loopOscClear c => Sys2Proof.Machine.execLoopOscClear c s
  | .loopStatus c => Sys2Proof.Machine.execLoopStatus c s
  | .loopSlotBoundary u => Sys2Proof.Machine.execLoopSlotBoundary u s
  | .loopInputStale u => Sys2Proof.Machine.execLoopInputStale u s
  | .adcConverter c => Sys2Proof.Machine.execAdcConverter c s
  | .adcSequence c => Sys2Proof.Machine.execAdcSequence c s
  | .adcDma c => Sys2Proof.Machine.execAdcDma c s
  | .adcStatus c => Sys2Proof.Machine.execAdcStatus c s
  | .adcRegularTrigger conv t => Sys2Proof.Machine.execAdcRegularTrigger conv t s
  | .adcInjectedTrigger conv t => Sys2Proof.Machine.execAdcInjectedTrigger conv t s
  | .converterFree conv t => Sys2Proof.Machine.execConverterFree conv t s
  | .adcSlotEnd conv a b t => Sys2Proof.Machine.execAdcSlotEnd conv a b t s
  | .adcTestEnd conv t => Sys2Proof.Machine.execAdcTestEnd conv t s
  | .acqTapAssign c => Sys2Proof.Machine.execAcqTapAssign c s
  | .acqReduce c => Sys2Proof.Machine.execAcqReduce c s
  | .captureCfg c => Sys2Proof.Machine.execCaptureCfg c s
  | .captureTrigger c => Sys2Proof.Machine.execCaptureTrigger c s
  | .captureArm c => Sys2Proof.Machine.execCaptureArm c s
  | .captureStop c => Sys2Proof.Machine.execCaptureStop c s
  | .captureSample eng => Sys2Proof.Machine.execCaptureSample eng s
  | .reductionIntervalEnd tap => Sys2Proof.Machine.execReductionIntervalEnd tap s
  | .seqCfg c => Sys2Proof.Machine.execSeqCfg c s
  | .seqLoad c load => Sys2Proof.Machine.execSeqLoad c load s
  | .seqStart c => Sys2Proof.Machine.execSeqStart c s
  | .seqResume c => Sys2Proof.Machine.execSeqResume c s
  | .seqStatus c => Sys2Proof.Machine.execSeqStatus c s
  | .stepPrepared q t => Sys2Proof.Machine.execStepPrepared q t s
  | .keystoneCommit q => Sys2Proof.Machine.execKeystoneCommit q s
  | .stepEnd q => Sys2Proof.Machine.execStepEnd q s
  | .seqTimeout q => Sys2Proof.Machine.execSeqTimeout q s
  | .progCfg c => Sys2Proof.Machine.execProgCfg c s
  | .progLoad c load => Sys2Proof.Machine.execProgLoad c load s
  | .taskCfg c => Sys2Proof.Machine.execTaskCfg c s
  | .progImage c => Sys2Proof.Machine.execProgImage c s
  | .progMap c => Sys2Proof.Machine.execProgMap c s
  | .progChange c => Sys2Proof.Machine.execProgChange c s
  | .forceSet c => Sys2Proof.Machine.execForceSet c s
  | .forceClear c => Sys2Proof.Machine.execForceClear c s
  | .taskControl c => Sys2Proof.Machine.execTaskControl c s
  | .taskFlags c => Sys2Proof.Machine.execTaskFlags c s
  | .taskStatus c => Sys2Proof.Machine.execTaskStatus c s
  | .taskFaultRead c => Sys2Proof.Machine.execTaskFaultRead c s
  | .forceRead c => Sys2Proof.Machine.execForceRead c s
  | .dispatch => Sys2Proof.Machine.execDispatch s
  | .opNop e => Sys2Proof.Machine.execOpNop e s
  | .opTake e => Sys2Proof.Machine.execOpTake e s
  | .opSignal e t b => Sys2Proof.Machine.execOpSignal e t b s
  | .opTrap e b => Sys2Proof.Machine.execOpTrap e b s
  | .opTaskno e => Sys2Proof.Machine.execOpTaskno e s
  | .opCycflags e => Sys2Proof.Machine.execOpCycflags e s
  | .opCycno e => Sys2Proof.Machine.execOpCycno e s
  | .opCtime e => Sys2Proof.Machine.execOpCtime e s
  | .opFrameno e => Sys2Proof.Machine.execOpFrameno e s
  | .opPushb e v => Sys2Proof.Machine.execOpPushb e v s
  | .opPushh e v => Sys2Proof.Machine.execOpPushh e v s
  | .opPushw e v => Sys2Proof.Machine.execOpPushw e v s
  | .opDup e => Sys2Proof.Machine.execOpDup e s
  | .opDup2 e => Sys2Proof.Machine.execOpDup2 e s
  | .opDrop e => Sys2Proof.Machine.execOpDrop e s
  | .opDrop2 e => Sys2Proof.Machine.execOpDrop2 e s
  | .opSwap e => Sys2Proof.Machine.execOpSwap e s
  | .opSwap2 e => Sys2Proof.Machine.execOpSwap2 e s
  | .opOver e => Sys2Proof.Machine.execOpOver e s
  | .opPick e b => Sys2Proof.Machine.execOpPick e b s
  | .opLd32 e a => Sys2Proof.Machine.execOpLd32 e a s
  | .opLd64 e a => Sys2Proof.Machine.execOpLd64 e a s
  | .opLdu8 e a => Sys2Proof.Machine.execOpLdu8 e a s
  | .opLdi8 e a => Sys2Proof.Machine.execOpLdi8 e a s
  | .opLdu16 e a => Sys2Proof.Machine.execOpLdu16 e a s
  | .opLdi16 e a => Sys2Proof.Machine.execOpLdi16 e a s
  | .opSt32 e a => Sys2Proof.Machine.execOpSt32 e a s
  | .opSt64 e a => Sys2Proof.Machine.execOpSt64 e a s
  | .opSt8 e a => Sys2Proof.Machine.execOpSt8 e a s
  | .opSt16 e a => Sys2Proof.Machine.execOpSt16 e a s
  | .opLdx32 e => Sys2Proof.Machine.execOpLdx32 e s
  | .opLdx64 e => Sys2Proof.Machine.execOpLdx64 e s
  | .opLdxu8 e => Sys2Proof.Machine.execOpLdxu8 e s
  | .opStx32 e => Sys2Proof.Machine.execOpStx32 e s
  | .opStx64 e => Sys2Proof.Machine.execOpStx64 e s
  | .opStx8 e => Sys2Proof.Machine.execOpStx8 e s
  | .opIadd e => Sys2Proof.Machine.execOpIadd e s
  | .opIsub e => Sys2Proof.Machine.execOpIsub e s
  | .opImul e => Sys2Proof.Machine.execOpImul e s
  | .opIdiv e => Sys2Proof.Machine.execOpIdiv e s
  | .opIrem e => Sys2Proof.Machine.execOpIrem e s
  | .opIneg e => Sys2Proof.Machine.execOpIneg e s
  | .opUdiv e => Sys2Proof.Machine.execOpUdiv e s
  | .opUrem e => Sys2Proof.Machine.execOpUrem e s
  | .opAnd e => Sys2Proof.Machine.execOpAnd e s
  | .opOr e => Sys2Proof.Machine.execOpOr e s
  | .opXor e => Sys2Proof.Machine.execOpXor e s
  | .opNot e => Sys2Proof.Machine.execOpNot e s
  | .opShl e => Sys2Proof.Machine.execOpShl e s
  | .opShr e => Sys2Proof.Machine.execOpShr e s
  | .opSar e => Sys2Proof.Machine.execOpSar e s
  | .opLadd e => Sys2Proof.Machine.execOpLadd e s
  | .opLsub e => Sys2Proof.Machine.execOpLsub e s
  | .opLmul e => Sys2Proof.Machine.execOpLmul e s
  | .opLdiv e => Sys2Proof.Machine.execOpLdiv e s
  | .opLrem e => Sys2Proof.Machine.execOpLrem e s
  | .opLneg e => Sys2Proof.Machine.execOpLneg e s
  | .opLand e => Sys2Proof.Machine.execOpLand e s
  | .opLor e => Sys2Proof.Machine.execOpLor e s
  | .opLxor e => Sys2Proof.Machine.execOpLxor e s
  | .opLshl e => Sys2Proof.Machine.execOpLshl e s
  | .opLshr e => Sys2Proof.Machine.execOpLshr e s
  | .opLsar e => Sys2Proof.Machine.execOpLsar e s
  | .opFadd e => Sys2Proof.Machine.execOpFadd e s
  | .opFsub e => Sys2Proof.Machine.execOpFsub e s
  | .opFmul e => Sys2Proof.Machine.execOpFmul e s
  | .opFdiv e => Sys2Proof.Machine.execOpFdiv e s
  | .opFneg e => Sys2Proof.Machine.execOpFneg e s
  | .opFabs e => Sys2Proof.Machine.execOpFabs e s
  | .opFsqrt e => Sys2Proof.Machine.execOpFsqrt e s
  | .opFrint e => Sys2Proof.Machine.execOpFrint e s
  | .opDadd e => Sys2Proof.Machine.execOpDadd e s
  | .opDsub e => Sys2Proof.Machine.execOpDsub e s
  | .opDmul e => Sys2Proof.Machine.execOpDmul e s
  | .opDdiv e => Sys2Proof.Machine.execOpDdiv e s
  | .opDneg e => Sys2Proof.Machine.execOpDneg e s
  | .opDabs e => Sys2Proof.Machine.execOpDabs e s
  | .opDsqrt e => Sys2Proof.Machine.execOpDsqrt e s
  | .opDrint e => Sys2Proof.Machine.execOpDrint e s
  | .opIceq e => Sys2Proof.Machine.execOpIceq e s
  | .opIclt e => Sys2Proof.Machine.execOpIclt e s
  | .opIcle e => Sys2Proof.Machine.execOpIcle e s
  | .opUclt e => Sys2Proof.Machine.execOpUclt e s
  | .opUcle e => Sys2Proof.Machine.execOpUcle e s
  | .opLceq e => Sys2Proof.Machine.execOpLceq e s
  | .opLclt e => Sys2Proof.Machine.execOpLclt e s
  | .opLcle e => Sys2Proof.Machine.execOpLcle e s
  | .opFceq e => Sys2Proof.Machine.execOpFceq e s
  | .opFclt e => Sys2Proof.Machine.execOpFclt e s
  | .opFcle e => Sys2Proof.Machine.execOpFcle e s
  | .opDceq e => Sys2Proof.Machine.execOpDceq e s
  | .opDclt e => Sys2Proof.Machine.execOpDclt e s
  | .opDcle e => Sys2Proof.Machine.execOpDcle e s
  | .opEqz e => Sys2Proof.Machine.execOpEqz e s
  | .opLeqz e => Sys2Proof.Machine.execOpLeqz e s
  | .opJmp e j => Sys2Proof.Machine.execOpJmp e j s
  | .opJmpl e k => Sys2Proof.Machine.execOpJmpl e k s
  | .opBz e j => Sys2Proof.Machine.execOpBz e j s
  | .opBnz e j => Sys2Proof.Machine.execOpBnz e j s
  | .opCall e k => Sys2Proof.Machine.execOpCall e k s
  | .opRet e => Sys2Proof.Machine.execOpRet e s
  | .opCallx e => Sys2Proof.Machine.execOpCallx e s
  | .opJtab e w => Sys2Proof.Machine.execOpJtab e w s
  | .opI2l e => Sys2Proof.Machine.execOpI2l e s
  | .opU2l e => Sys2Proof.Machine.execOpU2l e s
  | .opL2i e => Sys2Proof.Machine.execOpL2i e s
  | .opI2f e => Sys2Proof.Machine.execOpI2f e s
  | .opU2f e => Sys2Proof.Machine.execOpU2f e s
  | .opL2f e => Sys2Proof.Machine.execOpL2f e s
  | .opI2d e => Sys2Proof.Machine.execOpI2d e s
  | .opU2d e => Sys2Proof.Machine.execOpU2d e s
  | .opL2d e => Sys2Proof.Machine.execOpL2d e s
  | .opF2i e => Sys2Proof.Machine.execOpF2i e s
  | .opF2l e => Sys2Proof.Machine.execOpF2l e s
  | .opD2i e => Sys2Proof.Machine.execOpD2i e s
  | .opD2u e => Sys2Proof.Machine.execOpD2u e s
  | .opD2l e => Sys2Proof.Machine.execOpD2l e s
  | .opF2d e => Sys2Proof.Machine.execOpF2d e s
  | .opD2f e => Sys2Proof.Machine.execOpD2f e s
  | .opSel e => Sys2Proof.Machine.execOpSel e s
  | .opLimit e => Sys2Proof.Machine.execOpLimit e s
  | .opBound e => Sys2Proof.Machine.execOpBound e s
  | .opMove e => Sys2Proof.Machine.execOpMove e s
  | .opFill e => Sys2Proof.Machine.execOpFill e s
  | .opLdbit e a b => Sys2Proof.Machine.execOpLdbit e a b s
  | .opStbit e a b => Sys2Proof.Machine.execOpStbit e a b s
  | .netSystem c => Sys2Proof.Machine.execNetSystem c s
  | .netNodes c => Sys2Proof.Machine.execNetNodes c s
  | .netSlots c => Sys2Proof.Machine.execNetSlots c s
  | .netPubs c => Sys2Proof.Machine.execNetPubs c s
  | .netLocal c => Sys2Proof.Machine.execNetLocal c s
  | .netSend c load => Sys2Proof.Machine.execNetSend c load s
  | .netPortStatus c => Sys2Proof.Machine.execNetPortStatus c s
  | .netNodeMap c => Sys2Proof.Machine.execNetNodeMap c s
  | .networkCycle => Sys2Proof.Machine.execNetworkCycle s
  | .staticSlotSend slot => Sys2Proof.Machine.execStaticSlotSend slot s
  | .dynamicFrameSend mini chB => Sys2Proof.Machine.execDynamicFrameSend mini chB s
  | .benandFrameRx chB rx => Sys2Proof.Machine.execBenandFrameRx chB rx s
  | .pierStartDelimiter pierB port hdr t => Sys2Proof.Machine.execPierStartDelimiter pierB port hdr t s
  | .slotEndCut pierB port t => Sys2Proof.Machine.execSlotEndCut pierB port t s
  | .probeReq pierB port t => Sys2Proof.Machine.execProbeReq pierB port t s
  | .probeReqRx pierB port source t => Sys2Proof.Machine.execProbeReqRx pierB port source t s
  | .probeRsp pierB port source turn t => Sys2Proof.Machine.execProbeRsp pierB port source turn t s
  | .netPortDown pierB port cause => Sys2Proof.Machine.execNetPortDown pierB port cause s
  | .coldstartOffer => Sys2Proof.Machine.execColdstartOffer s
  | .netColdstartFail => Sys2Proof.Machine.execNetColdstartFail s
  | .coldstartLockRelease pierB t => Sys2Proof.Machine.execColdstartLockRelease pierB t s
  | .pairSwap c => Sys2Proof.Machine.execPairSwap c s
  | .dieRetry c => Sys2Proof.Machine.execDieRetry c s
  | .diagInject die value => Sys2Proof.Machine.execDiagInject die value s
  | .valveCfg c => Sys2Proof.Machine.execValveCfg c s
  | .pwmCfg c => Sys2Proof.Machine.execPwmCfg c s
  | .safetyUnlock c => Sys2Proof.Machine.execSafetyUnlock c s
  | .unlockLockoutEnd => Sys2Proof.Machine.execUnlockLockoutEnd s
  | .safetyCommit c => Sys2Proof.Machine.execSafetyCommit c s
  | .safetyCancel c => Sys2Proof.Machine.execSafetyCancel c s
  | .safetyPassword c => Sys2Proof.Machine.execSafetyPassword c s
  | .safetySessionTimeout => Sys2Proof.Machine.execSafetySessionTimeout s
  | .safetyAck c => Sys2Proof.Machine.execSafetyAck c s
  | .safeSelect c => Sys2Proof.Machine.execSafeSelect c s
  | .safetyGlobal c => Sys2Proof.Machine.execSafetyGlobal c s
  | .safetyInput c => Sys2Proof.Machine.execSafetyInput c s
  | .safetyOutput c => Sys2Proof.Machine.execSafetyOutput c s
  | .safetyAxis c => Sys2Proof.Machine.execSafetyAxis c s
  | .safetySlp c => Sys2Proof.Machine.execSafetySlp c s
  | .safetyAxisStatus c => Sys2Proof.Machine.execSafetyAxisStatus c s
  | .safetyLogRead c => Sys2Proof.Machine.execSafetyLogRead c s
  | .safetyInputAccept k ball2 level held t => Sys2Proof.Machine.execSafetyInputAccept k ball2 level held t s
  | .safetyDiscrepancy k t => Sys2Proof.Machine.execSafetyDiscrepancy k t s
  | .safetyVerdictExchange xcomp => Sys2Proof.Machine.execSafetyVerdictExchange xcomp s
  | .ss1Standstill k => Sys2Proof.Machine.execSs1Standstill k s
  | .ss1Timeout k => Sys2Proof.Machine.execSs1Timeout k s
  | .safetyEdmFault k t => Sys2Proof.Machine.execSafetyEdmFault k t s
  | .safetyChannelRestored ch => Sys2Proof.Machine.execSafetyChannelRestored ch s
  | .outputTestStart o t => Sys2Proof.Machine.execOutputTestStart o t s
  | .outputTestEnd o pulseRead afterRead t => Sys2Proof.Machine.execOutputTestEnd o pulseRead afterRead t s
  | .outputReadback o t => Sys2Proof.Machine.execOutputReadback o t s
  | .outputUntested o t => Sys2Proof.Machine.execOutputUntested o t s
  | .valveFaultClear hi value => Sys2Proof.Machine.execValveFaultClear hi value s
  | .pwmPeriodStart n t => Sys2Proof.Machine.execPwmPeriodStart n t s
  | .pwmHighEnd n t => Sys2Proof.Machine.execPwmHighEnd n t s
  | .trustSvnCommit c => Sys2Proof.Machine.execTrustSvnCommit c s
  | .trustProvision c load => Sys2Proof.Machine.execTrustProvision c load s
  | .attest c => Sys2Proof.Machine.execAttest c s
  | .identityCert c => Sys2Proof.Machine.execIdentityCert c s
  | .debugChallenge c => Sys2Proof.Machine.execDebugChallenge c s
  | .debugChallengeExpiry t => Sys2Proof.Machine.execDebugChallengeExpiry t s
  | .debugUnlock c load => Sys2Proof.Machine.execDebugUnlock c load s
  | .debugLock c => Sys2Proof.Machine.execDebugLock c s
  | .debugScopeExpiry t => Sys2Proof.Machine.execDebugScopeExpiry t s
  | .abort c => Sys2Proof.Machine.execAbort c s
  | .nop c => Sys2Proof.Machine.execNop c s
  | .dmaToDeck c => Sys2Proof.Machine.execDmaToDeck c s
  | .dmaFromDeck c => Sys2Proof.Machine.execDmaFromDeck c s
  | .hdmaDescriptorFetched h desc => Sys2Proof.Machine.execHdmaDescriptorFetched h desc s
  | .hdmaDataDone h data => Sys2Proof.Machine.execHdmaDataDone h data s
  | .hdmaBusError addr outstanding cause => Sys2Proof.Machine.execHdmaBusError addr outstanding cause s
  | .hdmaPause h => Sys2Proof.Machine.execHdmaPause h s
  | .hdmaPauseClear h => Sys2Proof.Machine.execHdmaPauseClear h s
  | .hdmaResume h => Sys2Proof.Machine.execHdmaResume h s
  | .fdmaPause value => Sys2Proof.Machine.execFdmaPause value s
  | .fdmaResume value => Sys2Proof.Machine.execFdmaResume value s
  | .counterSelect c => Sys2Proof.Machine.execCounterSelect c s
  | .counterDumpCfg c => Sys2Proof.Machine.execCounterDumpCfg c s
  | .preciseCfg c => Sys2Proof.Machine.execPreciseCfg c s
  | .dbPoll value => Sys2Proof.Machine.execDbPoll value s
  | .doorbellPoll page us => Sys2Proof.Machine.execDoorbellPoll page us s
  | .doorbellBusError cause => Sys2Proof.Machine.execDoorbellBusError cause s
  | .submissionReadFail ring cause => Sys2Proof.Machine.execSubmissionReadFail ring cause s
  | .ringErrClear value => Sys2Proof.Machine.execRingErrClear value s
  | .sessionCtrlClose value => Sys2Proof.Machine.execSessionCtrlClose value s
  | .hostSessionClosed => Sys2Proof.Machine.execHostSessionClosed s
  | .ringIrqDelay ring us => Sys2Proof.Machine.execRingIrqDelay ring us s
  | .readyStatusClr value => Sys2Proof.Machine.execReadyStatusClr value s
  | .violInfoClr value => Sys2Proof.Machine.execViolInfoClr value s
  | .lowHalfRead offset wide => Sys2Proof.Machine.execLowHalfRead offset wide s
  | .pairWindowRead offset => Sys2Proof.Machine.execPairWindowRead offset s
  | .setupWrite offset value wide => Sys2Proof.Machine.execSetupWrite offset value wide s
  | .unsupportedAccess offset write be => Sys2Proof.Machine.execUnsupportedAccess offset write be s
  | .accumulatorStrobe t => Sys2Proof.Machine.execAccumulatorStrobe t s
  | .hbdFault region extent unit => Sys2Proof.Machine.execHbdFault region extent unit s
  | .pmbusNack t => Sys2Proof.Machine.execPmbusNack t s
  | .perstRelease => Sys2Proof.Machine.execPerstRelease s
  | .tapInstruction fieldTap ir => Sys2Proof.Machine.execTapInstruction fieldTap ir s

end Sys2Proof.Machine
end

