-- ==== Sys2Proof/Safety.lean ====
section
/-!
DEFINITION. The terms the statements use: a step that completes, and what a command, an event record or a signal adds to a
state.
-/

namespace Sys2Proof.Says
open Machine

/-- The command answers a next state that has the property. -/
def Runs (i : Instr) (s : State) (P : State → Prop) : Prop := ∃ t, exec i s = .next t ∧ P t

/-- The entry's header is as a pair command's must be, and its Locator names unit 0 to 1023 of a region of this node's pair,
without an item (Table 15-4, R6, R39 to R42). -/
abbrev Names (c : Cmd) (s : State) (region : Nat) : Prop :=
  c.flags = 1 ∧ c.rsv3 = 0 ∧ c.rsv12 = 0 ∧ locDefined c.locN = true ∧ locNode c.locN = s.nodeId ∧ locDie c.locN = 1 ∧
    locRegion c.locN = region ∧ locItem c.locN = 0

/-- As `Names` for a command of the HBD, which carries no pair flag. -/
abbrev NamesHbd (c : Cmd) (s : State) (region : Nat) : Prop :=
  c.flags = 0 ∧ c.rsv3 = 0 ∧ c.rsv12 = 0 ∧ locDefined c.locN = true ∧ locNode c.locN = s.nodeId ∧ locDie c.locN = 0 ∧
    locRegion c.locN = region ∧ locItem c.locN = 0

/-- The argument bytes from `off` on are zero (R6). -/
abbrev Rest (c : Cmd) (off : Nat) : Prop := c.args.toNat / 2 ^ (8 * off) = 0

/-- `s` with a completion of `c`, of opcode `op`, on its way to the command's ring (Table 15-5). -/
def answer (c : Cmd) (op : Nat) (st : Status) (reason result : Nat) (interim : Bool) (s : State) : State :=
  { s with hbd := { s.hbd with compls := s.hbd.compls ++
      [{ org := { tag := c.tag.toNat, session := c.session.toNat, sq := c.sq.val, opcode := op }
         status := st, reason := reason, result := result, interim := interim }] } }

/-- `s` with the final completion DONE of `c` with a result. -/
def done (c : Cmd) (op result : Nat) (s : State) : State := answer c op .done 0 result false s

/-- `s` with the interim completion ACCEPTED of `c`. -/
def accepted (c : Cmd) (op : Nat) (s : State) : State := answer c op .accepted 0 0 true s

/-- `s` with the final completion DONE of a command that the HBD carries out itself. -/
def doneHbd (c : Cmd) (op result : Nat) (s : State) : State :=
  { s with hbd := { s.hbd with compls := s.hbd.compls ++
      [{ org := { tag := c.tag.toNat, session := c.session.toNat, sq := c.sq.val, opcode := op }
         result := result, atHbd := true }] } }

/-- `s` with the final completion of a command that the HBD carries out itself and does not complete DONE. -/
def answerHbd (c : Cmd) (op : Nat) (st : Status) (reason : Nat) (s : State) : State :=
  { s with hbd := { s.hbd with compls := s.hbd.compls ++
      [{ org := { tag := c.tag.toNat, session := c.session.toNat, sq := c.sq.val, opcode := op }
         status := st, reason := reason, atHbd := true }] } }

/-- `s` with an event record raised, for the present boundary or, `mid`, for the next one (Table 16-1). -/
def recorded (mid : Bool) (code src p0 p1 : Nat) (s : State) : State :=
  { s with log := { s.log with raised := s.log.raised ++
      [{ stamp := s.tm.frame, mid := mid, code := code, src := src, p0 := p0 % 2 ^ 32, p1 := p1 % 2 ^ 32 }] } }

/-- What a configuration command of a subsystem whose enable bit is 0 leaves besides its configuration: DONE, and one draw of
the free values (the model's own). -/
def stored (c : Cmd) (op : Nat) (s : State) : State := { done c op 0 s with free := s.free + 1 }

/-- The field side answers what the host asks of it: BOOT has ended and a Barrier Link is up (R144). -/
abbrev FieldAnswers (s : State) : Prop := s.boot.ended = true ∧ (s.pair.linkA || s.pair.linkB) = true

/-- What a field reset leaves (R19, R114, R122): every unit of CDA, CDB and the FID at its reset contents, `cause` what
the change
to BOOT will carry; the stored safety configuration, the fused values, the HBD's own performance counters and what is
left of the
lifetimes the HBD counts stay. -/
abbrev FieldCleared (cause : Nat) (s t : State) : Prop :=
  t.md = { cause := cause, resetCause := cause } ∧ t.tm = {} ∧ t.boot = {} ∧ t.chk = {} ∧ t.pair = {} ∧
    t.log = { counters := t.log.counters } ∧ (∀ q ∈ t.log.counters, q.1 < 8) ∧
    t.mot = {} ∧ t.loop = {} ∧ t.acq = {} ∧ t.out = {} ∧ t.saf = { store := s.saf.store } ∧ t.prog = {} ∧ t.net = {} ∧
    t.deck = [] ∧ t.rep = {} ∧ t.staged = [] ∧ t.nodeId = 0 ∧
    t.trust = { s.trust with fieldScope := false, hbdUntil := s.trust.hbdUntil - s.tm.control
                             challengeUntil := s.trust.challengeUntil - s.tm.control } ∧
    t.pending = s.pending

/-- Start-up as far as it is not the delivery of images, which a reset of the host side interrupts (R139). -/
abbrev bootOf (s : State) : Boot :=
  { s.boot with cda := { s.boot.cda with img := [] }, cdb := { s.boot.cdb with img := [] } }

/-- The field side as it was: what a reset of the host side alone must not touch (R18, R531). -/
abbrev FieldKept (s t : State) : Prop :=
  t.md = s.md ∧ t.tm = s.tm ∧ bootOf t = bootOf s ∧ t.chk = s.chk ∧ t.mot = s.mot ∧ t.loop = s.loop ∧ t.acq = s.acq ∧
    t.out = s.out ∧ t.saf = s.saf ∧ t.prog = s.prog ∧ t.net = s.net ∧ t.deck = s.deck ∧ t.nodeId = s.nodeId

/-- The setup registers of the HBD window that a reset of the HBD takes to their reset values: sessions, doorbell,
violations,
rings, routes and interrupt sources, host DMA, and the mirror's configuration (R531, R619). OUTSTANDING, which counts
commands of
the field side, is not among them. -/
abbrev HostRegister (o : Nat) : Prop :=
  (0x0030 ≤ o ∧ o < 0x0054) ∨ (0x0100 ≤ o ∧ o < 0x0920) ∨ (0x1000 ≤ o ∧ o < 0x120C) ∨ o ∈ [0x3000, 0x3008, 0x3010, 0x3024]

end Sys2Proof.Says
end

