-- ==== Sys2Proof/Certificates/Slice0/Obligations.lean ====
section
/-!
DEFINITION. The statements about the block: what a step is, what reset leaves, what every step keeps, and for every command of the
table what it answers and leaves. A statement names the rules of spec/ that it follows in its docstring; where it rests on a choice of
the model it says so.
-/

open Sys2Proof Sys2Proof.Machine Sys2Proof.Says

/-! The whole block. -/

/-- A step takes the command at the front of the queue and answers what `exec` answers for it with the queue's rest; with an empty
queue the block idles (DESIGN CHOICE, log 1). -/
def Obligations.StepRunsTheFrontCommand : Prop :=
  (∀ (s : State) (i : Instr) (rest : List Instr), s.pending = i :: rest → step s = exec i { s with pending := rest }) ∧
  (∀ s : State, s.pending = [] → step s = .next s)

/-- A step takes one command from the queue and adds none: commands run first in, first out. -/
def Obligations.QueueIsFirstInFirstOut : Prop :=
  ∀ s t : State, step s = .next t → t.pending = s.pending.tail

/-- What the spec states for reset: mode RESET, no lattice lock, no session, no link, no subsystem enabled, no debug scope open,
outputs not live, the Deck reads 0, the override of every axis is 100 %, and the registers of Tables 2-10, 2-13, 2-14, 2-16,
4-16, 9-12 and 13-10 at their reset values; no command waits in the model's queue (R57, R58, R85, R114, R619). -/
def Obligations.ResetState : Prop :=
  let s := State.reset
  s.md.mode = .reset ∧ s.tm.lock = false ∧ s.tm.frame = 0 ∧ s.pair.linkA = false ∧ s.pair.linkB = false ∧ s.hbd.sess = 0 ∧
    s.hbd.pollEn = false ∧ s.chk.enable = 0 ∧ s.trust.hbdScope = false ∧ s.trust.fieldScope = false ∧ s.out.live = false ∧
    s.tm.latticeCfg = 0x00646400#32 ∧ s.tm.slackTarget = 0x01F405DC#32 ∧ s.tm.govCfg = 0x0F1925C0#32 ∧
    s.tm.timeCfg = 0x004103E8#32 ∧ s.mot.cfg = 1#32 ∧ s.prog.groupCfg = 0x803#32 ∧ s.pair.redundancyCfg = 0x00040001#32 ∧
    (∀ a, Tab.get s.deck a = 0#8) ∧ (∀ a, (s.axis a).ovr = 10000) ∧ s.pending = []

/-- The Deck after reset is in its canonical form. -/
def Obligations.ResetDeckIsCanonical : Prop :=
  Tab.wf State.reset.deck = true

/-- HEADLINE. Every step of every command keeps the Deck in its canonical form: addresses rising, no entry that is 0. So Decks
that read alike are equal. -/
def Obligations.EveryStepKeepsTheDeckCanonical : Prop :=
  ∀ s t : State, Tab.wf s.deck = true → step s = .next t → Tab.wf t.deck = true

/-- HEADLINE. Whatever command runs, a fused version never falls, a revocation is never taken back and a burnt customer key never
changes (R601, R605, R606): fuses can only be burnt. -/
def Obligations.FusesAreOnlyBurnt : Prop :=
  ∀ s t : State, step s = .next t →
    s.trust.svn1 ≤ t.trust.svn1 ∧ s.trust.svn2 ≤ t.trust.svn2 ∧ s.trust.svn3 ≤ t.trust.svn3 ∧
    (∀ i, s.trust.revoked.testBit i = true → t.trust.revoked.testBit i = true) ∧
    (s.trust.customer ≠ 0 → t.trust.customer = s.trust.customer)

/-- HEADLINE. Whatever a cycle's code computes as an address, its store changes no byte of the Deck outside the data area that the
cycle's task is granted (R388, R404, Table 10-5). -/
def Obligations.StoresStayInTheTasksData : Prop :=
  ∀ (s u : State) (e : Fin 16) (a : BitVec 32) (b : BitVec 8) (i : Instr) (t : Nat) (c : Cycle),
    i ∈ [Instr.opSt32 e a, .opSt64 e a, .opSt8 e a, .opSt16 e a, .opStx32 e, .opStx64 e, .opStx8 e, .opStbit e a b, .opMove e,
      .opFill e] → Tab.wf s.deck = true → Lintis.current s e.val = some (t, c) → exec i s = .next u →
    let base := Prog.addr s 2 (s.task t).cfg.dataBase
    ∀ k, k < base ∨ base + (s.task t).cfg.dataSize ≤ k → Tab.get u.deck k = Tab.get s.deck k

/-- Every command in every state answers a next state, so ordinary data never ends a run; the one stop is TAP_INSTRUCTION while
the debug scope of its port is open: the spec gives the instruction no effect there, and the model refuses it by name. With
the scope closed the port is in BYPASS and nothing changes (R610, R611, R647). -/
def Obligations.EveryCommandCompletes : Prop :=
  (∀ (i : Instr) (s : State), (∀ f ir, i ≠ .tapInstruction f ir) → ∃ t, exec i s = .next t) ∧
  (∀ (f : Bool) (ir : Nat) (s : State), exec (.tapInstruction f ir) s =
    if (if f = true then s.trust.fieldScope else s.trust.hbdScope) = true then .refused .debugTapOpen else .next s)

/-! Supplies, resets, start-up and modes. -/

/-- FIELD_SUPPLY_VALID, FIELD_SUPPLY_LOST, FIELD_RESET: a supply that becomes valid gives the coming change to BOOT cause 9; a
lost one clears the field side, MSI-X source 52 fires where a link was up and 53 where BOOT had ended; a reset that MODE_FORCE
awaits comes once STOPPING is 0 in a mode without live outputs, with cause 1, and not before (R114, R122, R137, R632).
HOST_SUPPLY_VALID, HOST_SUPPLY_LOST, PERST, PERST_RELEASE, FUNCTION_LEVEL_RESET: sessions, doorbell, rings, routes, interrupt
sources, host DMA and the mirror's configuration read their reset values, host memory and the field side stay. A lost supply
clears the results of the image checks; PERST# drops both Barrier Links, Function Level Reset leaves the pair as it is, and
both keep what MIRROR_STATUS shows (R18, R531, R619). -/
def Obligations.SuppliesAndResets : Prop :=
  (∀ s : State, s.pwr.fieldValid = false →
    exec .fieldSupplyValid s =
      .next { s with pwr := { s.pwr with fieldValid := true }, md := { s.md with cause := 9, resetCause := 9 } }) ∧
  (∀ s : State, s.pwr.fieldValid = true →
    Runs .fieldSupplyLost s fun t => t.pwr = { s.pwr with fieldValid := false } ∧ FieldCleared 9 s t) ∧
  (∀ s : State, s.pwr.fieldValid = true → s.hbd.waiting = [] →
    Runs .fieldSupplyLost s fun t =>
      ((s.pair.linkA || s.pair.linkB) = true → t.hbd.irqSource.testBit 52 = true) ∧
      (s.boot.ended = true → t.hbd.irqSource.testBit 53 = true)) ∧
  (∀ s : State, s.md.forceReset = true → s.md.stopping = false →
    s.md.mode ∉ [Mode.commission, Mode.run, Mode.hold, Mode.degraded] →
    Runs .fieldReset s fun t => t.pwr = s.pwr ∧ FieldCleared 1 s t) ∧
  (∀ s : State, s.md.forceReset = false ∨ s.md.stopping = true ∨
    s.md.mode ∈ [Mode.commission, Mode.run, Mode.hold, Mode.degraded] → exec .fieldReset s = .next s) ∧
  (∀ s : State, s.pwr.hostValid = false →
    Runs .hostSupplyValid s fun t =>
      t.pwr = { s.pwr with hostValid := true, hbdReady := false, perst := true } ∧ t.hbd.mem = s.hbd.mem ∧ t.pair = s.pair ∧
      FieldKept s t ∧ ∀ o, HostRegister o → Regs.hbdRead t o = Regs.hbdRead State.reset o) ∧
  (∀ s : State, s.pwr.hostValid = true →
    Runs .hostSupplyLost s fun t =>
      t.pwr = { s.pwr with hostValid := false, hbdReady := false } ∧ t.hbd.mem = s.hbd.mem ∧ t.trust.res1 = 0 ∧
      t.trust.res2 = 0 ∧ t.trust.res3 = 0 ∧ t.trust.hbdScope = false ∧ t.pair = s.pair ∧ FieldKept s t ∧
      ∀ o, HostRegister o → Regs.hbdRead t o = Regs.hbdRead State.reset o) ∧
  (∀ s : State, s.pwr.perst = false →
    Runs .perst s fun t =>
      t.pwr = { s.pwr with perst := true } ∧ t.hbd.mem = s.hbd.mem ∧ t.pair.linkA = false ∧ t.pair.linkB = false ∧
      t.trust.hbdScope = false ∧ FieldKept s t ∧ (∀ o, HostRegister o → Regs.hbdRead t o = Regs.hbdRead State.reset o) ∧
      t.hbd.gap = s.hbd.gap ∧ t.hbd.epoch = s.hbd.epoch) ∧
  (∀ s : State, exec .perstRelease s = .next { s with pwr := { s.pwr with perst := false } }) ∧
  (∀ s : State, s.pwr.hostValid = true → s.pwr.perst = false →
    Runs .functionLevelReset s fun t =>
      t.pwr = s.pwr ∧ t.hbd.mem = s.hbd.mem ∧ t.pair = s.pair ∧ t.trust.hbdScope = false ∧ FieldKept s t ∧
      (∀ o, HostRegister o → Regs.hbdRead t o = Regs.hbdRead State.reset o) ∧ t.hbd.gap = s.hbd.gap ∧
      t.hbd.epoch = s.hbd.epoch)

/-- LATTICE_LOCK, ROM_SELF_TEST_END, HBD_READY, IMAGE_VERIFIED, LINK_CONTROL and BOOT: the lattice locks and RESET becomes BOOT
with both dies in self-test; a die that passes its self-test waits for its image, one that fails it is tried once more and
then held; HBD_READY comes when an HBD image of the flash passes the checks; a die whose two delivered images pass is ready;
training sets a link up and session messages hold or release what the field side sends (R58, R114, R139, R141, R143, R570,
R602, R603). -/
def Obligations.StartUp : Prop :=
  (∀ s : State, s.pwr.fieldValid = true → s.tm.lock = false → s.saf.crc1 = s.saf.crc2 → s.boot.cda.held = false →
    (s.pwr.hbdReady = true → s.trust.res2 = 1 ∧ s.trust.res3 = 1) →
    exec .latticeLock s = .next
      { recorded false Event.modeChange (mkSrc 1 7 0) (s.md.mode.code + 1 * 2 ^ 8 + s.md.resetCause * 2 ^ 16) s.tm.frame s with
        tm := { s.tm with lock := true }
        md := { s.md with mode := .boot, cause := s.md.resetCause, changes := (s.md.changes + 1) % 256 }
        boot := { s.boot with cda := { s.boot.cda with st := 1 }, cdb := { s.boot.cdb with st := 1 } } }) ∧
  (∀ s : State, s.boot.cda.st = 1 →
    exec (.romSelfTestEnd .cda true) s = .next { s with boot := { s.boot with cda := { s.boot.cda with st := 2 } } }) ∧
  (∀ s : State, s.boot.cdb.st = 1 →
    exec (.romSelfTestEnd .cdb true) s = .next { s with boot := { s.boot with cdb := { s.boot.cdb with st := 2 } } }) ∧
  (∀ (s : State) (pass : Bool), s.tm.lock = true →
    exec (.romSelfTestEnd .fid pass) s = .next { s with boot := { s.boot with fidOk := pass } }) ∧
  (∀ (s : State) (d : FieldDie), d ≠ .fid → (if d = .cda then s.boot.cda else s.boot.cdb).st = 1 → s.md.mode = .boot →
    Runs (.romSelfTestEnd d false) s fun t =>
      (if d = .cda then t.boot.cda else t.boot.cdb) =
        (let n := (if d = .cda then s.boot.cda else s.boot.cdb).fails + 1
         if 2 ≤ n then { fails := n, held := true } else { fails := n, st := 1 }) ∧
      t.log.raised = (recorded true Event.bootDieFail (mkSrc (if d = .cda then 1 else 2) 7 0) 0 0 s).log.raised) ∧
  (∀ (s : State) (flash : List FlashEntry), s.pwr.hostValid = true → s.pwr.perst = false → s.pwr.hbdReady = false →
    Runs (.hbdReady flash) s fun t =>
      t.trust.res1 = (Trusted.choose s.trust 1 flash).1 ∧
      (t.pwr.hbdReady = true ↔ (Trusted.choose s.trust 1 flash).1 = 1) ∧
      (t.pwr.hbdReady = true →
        t.trust.res2 = (Trusted.choose s.trust 2 flash).1 ∧ t.trust.res3 = (Trusted.choose s.trust 3 flash).1)) ∧
  (∀ (s : State) (ctl fid : Image), s.md.mode = .boot → s.pwr.hbdReady = true → s.boot.cda.st = 2 →
    s.boot.cda.verified = false → s.boot.cda.img = ctl.header ++ ctl.body ++ (fid.header ++ fid.body) →
    Runs (.imageVerified .cda ctl fid) s fun t =>
      (Trusted.check s.trust 2 ctl = 1 → Trusted.check s.trust 3 fid = 1 →
        t = { s with boot := { s.boot with cda := { s.boot.cda with verified := true } } }) ∧
      (Trusted.check s.trust 2 ctl ≠ 1 ∨ Trusted.check s.trust 3 fid ≠ 1 → t.boot.cda.verified = false)) ∧
  (∀ (s : State) (ctl fid : Image), s.md.mode = .boot → s.pwr.hbdReady = true → s.boot.cdb.st = 2 →
    s.boot.cdb.verified = false → s.boot.cdb.img = ctl.header ++ ctl.body ++ (fid.header ++ fid.body) →
    Runs (.imageVerified .cdb ctl fid) s fun t =>
      (Trusted.check s.trust 2 ctl = 1 → Trusted.check s.trust 3 fid = 1 →
        t = { s with boot := { s.boot with cdb := { s.boot.cdb with verified := true } } }) ∧
      (Trusted.check s.trust 2 ctl ≠ 1 ∨ Trusted.check s.trust 3 fid ≠ 1 → t.boot.cdb.verified = false)) ∧
  (∀ s : State, s.tm.lock = true → s.pwr.hostValid = true → s.pwr.perst = false → s.boot.ended = false →
    (Runs (.linkControl (.train .cda)) s fun t =>
      t.pair = { s.pair with linkA := true, quietA := if s.pair.linkA then s.pair.quietA else 0 }) ∧
    (Runs (.linkControl (.train .cdb)) s fun t =>
      t.pair = { s.pair with linkB := true, quietB := if s.pair.linkB then s.pair.quietB else 0 })) ∧
  (∀ (s : State) (m : LinkCtl), m ∈ [LinkCtl.sessionOpen, .release] →
    exec (.linkControl m) s = .next { s with hbd := { s.hbd with upHeld := false } }) ∧
  (∀ (s : State) (m : LinkCtl), m ∈ [LinkCtl.sessionClose, .hold, .hostReset] →
    exec (.linkControl m) s = .next { s with hbd := { s.hbd with upHeld := true } }) ∧
  (∀ (s : State) (d : FieldDie) (passed : Bool), exec (.boot (.selfTest d passed)) s = exec (.romSelfTestEnd d passed) s) ∧
  (∀ s : State, s.boot.cda.st = 2 → s.boot.cda.verified = false →
    exec (.boot (.imageRequest .cda)) s = .next { s with boot := { s.boot with cda := { s.boot.cda with img := [] } } }) ∧
  (∀ s : State, s.md.mode = .boot → s.boot.cdb.st = 2 → s.pwr.hbdReady = true → s.boot.cdb.verified = false →
    s.boot.cdb.img ≠ [] →
    exec (.boot (.verification .cdb 1)) s =
      .next { s with boot := { s.boot with cdb := { s.boot.cdb with verified := true } } })

/-! Modes, configuration checks and the boundary of a frame. -/

namespace Sys2Proof.Says

/-- The tests of the start conditions of COMMISSION and RUN from CONFIGURE (Table 3-3). -/
abbrev MayStart (s : State) : Prop :=
  s.pair.st = 1 ∧ s.chk.running = none ∧ s.chk.result = none ∧ s.chk.enable.testBit 7 = true ∧ Safe.crcAgree s = true ∧
    s.trust.fieldScope = false

/-- The transitions that MODE_REQUEST makes, with their conditions (Table 3-3). -/
abbrev Allowed (s : State) (old new : Mode) : Prop :=
  (old = .configure ∧ new ∈ [Mode.commission, .run] ∧ MayStart s) ∨
  (old = .commission ∧ new = .run ∧ Mot.allStill s = true ∧ s.pair.st = 1 ∧ Safe.crcAgree s = true ∧ s.trust.fieldScope = false) ∨
  (old = .commission ∧ new = .configure ∧ Mot.allStill s = true) ∨
  (old = .run ∧ new = .hold) ∨
  (old = .hold ∧ new = .run ∧ s.pair.st = 1 ∧ Safe.crcAgree s = true ∧ s.trust.fieldScope = false) ∨
  (old ∈ [Mode.run, .hold] ∧ new = .configure ∧ Mot.allStill s = true ∧ ∀ q ∈ s.prog.seqs, q.2.st = 0) ∨
  (old = .safeStop ∧ new = .configure ∧ s.md.stopping = false) ∨
  (old ∈ [Mode.configure, .commission, .run, .hold, .degraded] ∧ new = .safeStop)

end Sys2Proof.Says

/-- MODE_REQUEST: a transition of Table 3-3 whose conditions hold is made with cause 0; the count of changes goes up by one modulo
256, and the command completes DONE with the frame number and both modes (R112, R114, Tables 3-3 to 3-5). MODE_FORCE, its two
rows, and DEGRADED_EXPIRED: with a link up and the key, TARGET 0 resets the field side from a mode without live outputs and
goes through SAFE_STOP with cause 1 from one with them; TARGET 2 takes SAFE_STOP to CONFIGURE once STOPPING is 0; the end of
the degraded time is recorded and noted for the next boundary (R120, R122, R123). -/
def Obligations.ModesChangeByRequestAndForce : Prop :=
  (∀ (c : Cmd) (s : State) (new : Mode), Names c s 7 → c.unit = 0 → Rest c 1 → Arg.u c 0 1 = new.code →
    Allowed s s.md.mode new →
    Runs (.modeRequest c) s fun t =>
      t.md.mode = new ∧ t.md.cause = 0 ∧ t.md.changes = (s.md.changes + 1) % 256 ∧ t.tm = s.tm ∧
      t.hbd.compls.getLast? = some { org := c.origin 0x0701, status := .done, result := s.tm.frame % 2 ^ 64 +
        s.md.mode.code * 2 ^ 64 + new.code * 2 ^ 72 }) ∧
  (∀ (s : State) (v : BitVec 32), (s.pair.linkA || s.pair.linkB) = true → v.toNat % 256 = 0xC3 → v.toNat / 256 % 8 = 0 →
    s.md.mode ∈ [Mode.reset, .boot, .configure] →
    (Runs (.modeForce v) s fun t => t.pwr = s.pwr ∧ FieldCleared 1 s t) ∧
    (Runs (.modeForceReset v) s fun t => t.pwr = s.pwr ∧ FieldCleared 1 s t)) ∧
  (∀ (s : State) (v : BitVec 32), (s.pair.linkA || s.pair.linkB) = true → v.toNat % 256 = 0xC3 → v.toNat / 256 % 8 = 0 →
    s.md.mode ∈ [Mode.commission, .run, .hold, .degraded] →
    Runs (.modeForceReset v) s fun t => t.md.mode = .safeStop ∧ t.md.cause = 1 ∧ t.md.forceReset = true ∧ t.tm = s.tm) ∧
  (∀ (s : State) (v : BitVec 32), (s.pair.linkA || s.pair.linkB) = true → v.toNat % 256 = 0xC3 → v.toNat / 256 % 8 = 2 →
    s.md.mode = .safeStop → s.md.stopping = false →
    (Runs (.modeForceConfigure v) s fun t => t.md.mode = .configure ∧ t.md.cause = 1 ∧ t.tm = s.tm) ∧
    (Runs (.modeForce v) s fun t => t.md.mode = .configure ∧ t.md.cause = 1 ∧ t.tm = s.tm)) ∧
  (∀ (s : State) (v : BitVec 32), (s.pair.linkA || s.pair.linkB) = true → v.toNat % 256 = 0xC3 → v.toNat / 256 % 8 = 2 →
    s.md.mode = .safeStop → s.md.stopping = true →
    exec (.modeForceConfigure v) s = .next { s with md := { s.md with forceConfigure := true } }) ∧
  (∀ s : State, s.md.mode = .degraded → s.md.degLeft ≤ 1 → s.md.degExpired = false →
    exec .degradedExpired s = .next (recorded true Event.degradedExpired (mkSrc 1 7 0) 0 0
      { s with md := { s.md with degExpired := true } }))

/-- MODE_REQUEST: a request for the present mode completes DONE with mode before equal to mode after, and changes nothing (R113);
a target mode of 0, 1, 6 or greater than 7 makes the descriptor MALFORMED (R111). -/
def Obligations.PresentModeRequestChangesNothing : Prop :=
  (∀ (c : Cmd) (s : State), Names c s 7 → c.unit = 0 → Rest c 1 →
    s.md.mode ∈ [Mode.configure, .commission, .run, .hold, .safeStop] → Arg.u c 0 1 = s.md.mode.code →
    exec (.modeRequest c) s = .next (done c 0x0701
      (s.tm.frame % 2 ^ 64 + s.md.mode.code * 2 ^ 64 + s.md.mode.code * 2 ^ 72) s)) ∧
  (∀ (c : Cmd) (s : State), c.unit = 0 → s.md.mode ∉ [Mode.reset, .boot] →
    Arg.u c 0 1 ∈ [0, 1, 6] ∨ 7 < Arg.u c 0 1 →
    exec (.modeRequest c) s = .next (answer c 0x0701 .malformed 0 0 false s))

/-- BOOT_END: with both dies ready the pair starts in step and CDA is active; a die that is ready while the other is held starts
alone. The mode becomes CONFIGURE with cause 2 (R114, R140, R141). That CDA of two is active is the model's reading (DEDUCED,
log 26). -/
def Obligations.BootEndStartsThePair : Prop :=
  (∀ s : State, s.md.mode = .boot → s.boot.fail = false → s.boot.cda.verified = true → s.boot.cdb.verified = true →
    Runs .bootEnd s fun t =>
      t.md.mode = .configure ∧ t.md.cause = 2 ∧ t.boot.ended = true ∧ t.boot.cda.st = 3 ∧ t.boot.cdb.st = 3 ∧
      t.pair.st = 1 ∧ t.pair.active = 1 ∧ t.pair.cda.channel = true ∧ t.pair.cdb.channel = true ∧ t.tm = s.tm) ∧
  (∀ s : State, s.md.mode = .boot → s.boot.fail = false → s.boot.cda.verified = false → s.boot.cda.held = true →
    s.boot.cdb.verified = true →
    Runs .bootEnd s fun t =>
      t.md.mode = .configure ∧ t.md.cause = 2 ∧ t.boot.ended = true ∧ t.boot.cdb.st = 3 ∧ t.pair.st = 2 ∧
      t.pair.active = 2 ∧ t.pair.cda.channel = false ∧ t.pair.cdb.channel = true ∧ t.tm = s.tm)

/-- SUBSYS_ENABLE, REDUNDANCY_CFG, CHECKED_SETUP_WRITE, CONSISTENCY_CHECK_END: while the field side answers, in CONFIGURE a write
of the first two starts a check and sets CHECK_BUSY; a checked register whose subsystems are all disabled is written at once,
one with an enabled subsystem starts a check; a check that ends leaves its result for the next boundary, and one of a write
that changes no bit accepts; one that would enable the governor has read VOUT_MODE (R71, R127, R128, R130, R136, R485). -/
def Obligations.ChecksStartAndEnd : Prop :=
  (∀ (s : State) (v : BitVec 32), FieldAnswers s → s.md.mode = .configure → s.hbd.checkBusy = false →
    s.chk.running = none → s.chk.result = none →
    exec (.subsysEnable v) s = .next { s with
      hbd := { s.hbd with checkBusy := true, checkDone := none }
      chk := { s.chk with running := some (.subsys (v.toNat % 2 ^ 12)) } } ∧
    exec (.redundancyCfg v) s = .next { s with
      hbd := { s.hbd with checkBusy := true, checkDone := none }
      chk := { s.chk with running := some (.redundancy (v &&& 0x000F9F01#32).toNat) } }) ∧
  (∀ (s : State) (v : BitVec 32), FieldAnswers s → s.md.mode = .configure → s.hbd.checkBusy = false →
    s.chk.enable = 0 →
    exec (.checkedSetupWrite 0x4040 v) s = .next { s with tm := { s.tm with latticeCfg := v &&& 0x0FFFFF0E#32 } } ∧
    exec (.checkedSetupWrite 0x4044 v) s = .next { s with tm := { s.tm with slackTarget := v } } ∧
    exec (.checkedSetupWrite 0x4048 v) s = .next { s with tm := { s.tm with govCfg := v &&& 0x0FFFFFFF#32 } } ∧
    exec (.checkedSetupWrite 0x404C v) s = .next { s with tm := { s.tm with timeCfg := v &&& 0x00FFFFFF#32 } } ∧
    exec (.checkedSetupWrite 0x4100 v) s = .next { s with mot := { s.mot with cfg := v &&& 0x3#32 } } ∧
    exec (.checkedSetupWrite 0x4208 v) s = .next { s with prog := { s.prog with groupCfg := v &&& 0xF0F#32 } } ∧
    exec (.checkedSetupWrite 0x4280 v) s = .next { s with nodeId := v.toNat % 512 }) ∧
  (∀ (s : State) (o : BitVec 16) (b : Nat) (v : BitVec 32), FieldAnswers s → s.md.mode = .configure →
    s.hbd.checkBusy = false → s.chk.running = none → s.chk.result = none →
    (o, b) ∈ [(0x4040#16, 11), (0x404C#16, 11), (0x4048#16, 10), (0x4100#16, 0), (0x4100#16, 1), (0x4208#16, 5),
      (0x4280#16, 6)] →
    s.chk.enable.testBit b = true →
    exec (.checkedSetupWrite o v) s = .next { s with
      hbd := { s.hbd with checkBusy := true, checkDone := none }
      chk := { s.chk with running := some (.register o.toNat v.toNat) } }) ∧
  (∀ (s : State) (m : CheckMeas) (o : CheckOf), s.chk.running = some o → m.standbyDiffers = false →
    ∃ r : CheckResult, r.of = o ∧
      exec (.consistencyCheckEnd m) s = .next { s with
        chk := { s.chk with running := none, result := some r }
        tm := { s.tm with gov := { s.tm.gov with bus := s.tm.gov.bus ++
          (match o, m.voutMode with
          | .subsys v, some w =>
            if v.testBit 10 = true ∧ s.chk.enable.testBit 10 = false then
              [{ addr := s.tm.govCfg.toNat % 2 ^ 7, cmd := 0x20, write := false, data := w.toNat
                 pec := s.tm.govCfg.toNat.testBit 7 }]
            else []
          | _, _ => []) } } } ∧
      (o = .subsys s.chk.enable → r.reason = 0) ∧
      (∀ v, o = .redundancy v → (r.reason = 0 ↔
        BitVec.ofNat 32 (v &&& 0x000F9F01) = s.pair.redundancyCfg ∨ (1 ≤ v / 2 ^ 16 % 16 ∧ v / 2 ^ 16 % 16 ≤ 8) ∧
          (v.testBit 15 = true → s.hbd.isStream (v / 2 ^ 8 % 2 ^ 5) = true))))

/-! The lattice, slack, the governor and network time. -/

namespace Sys2Proof.Says

/-- A transaction of the governor on the PMBus as GOV_CFG gives its address and packet error check (R70). -/
abbrev xfer (s : State) (cmd : Nat) (write : Bool) (data : Nat) : PmbusXfer :=
  { addr := s.tm.govCfg.toNat % 2 ^ 7, cmd := cmd, write := write, data := data, pec := s.tm.govCfg.toNat.testBit 7 }

/-- The 16-bit word of a voltage in mV, at the exponent read from VOUT_MODE (R72). -/
abbrev voltWord (s : State) (mv : Nat) : Nat := Bits.unsigned 16 (Ops.voutCommand mv s.tm.gov.expo)

/-- What a write of VOUT_COMMAND at a lattice point makes of the governor: the command stands on the bus and waits for its
reading (R72, R74). -/
abbrev sent (s : State) (g : Gov) (lp : Nat) : Gov :=
  { g with settling := true, wroteAt := lp, readAt := lp, bus := g.bus ++ [xfer s 0x21 true (voltWord s g.out)] }

/-- The entry tests of a command of the time service: any element of the pair. -/
abbrev NamesPairAny (c : Cmd) (s : State) : Prop := Names c s (locRegion c.locN)

end Sys2Proof.Says

/-- REF_LOST, REF_RESTORED, HOLDOVER_EXPIRED: holdover begins with the loss of the reference; it ends with a reference that has
been present for 1 ms since, within 100 ppm of its frequency, and no other; once HOLDOVER_MS have passed since the loss it
expires, once, and SAFE_STOP with cause 6 is due (R59 to R61). SLACK_CLEAR and the governor's rows: SLACK_CLEAR returns every
minimum, the HBD's too, to 0x7FFF and leaves the last values; the interval's decision, made once at its end, raises the target
by one step, to 950 mV at most, while the least slack is below the target less the hysteresis, lowers it by one step, to 760
mV at least, once enough intervals in a row have lain above the target and the hysteresis, and sends a changed target as
VOUT_COMMAND; a reading at least 200 µs after the last one that lies within 10 mV of the command settles it; a transaction
that is not acknowledged, or a command that has not settled in 1 ms, is repeated, and after three retries the governor stops
with GOV_PMBUS_FAULT; an alert reads STATUS_WORD, is recorded and answered with CLEAR_FAULTS (R68, R70, R72 to R75). -/
def Obligations.HoldoverSlackAndGovernor : Prop :=
  (∀ (s : State) (i : Instant), s.tm.lock = true → s.tm.holdover = false →
    exec (.refLost i) s = .next (recorded true Event.refLost (mkSrc 1 7 0) 0 0
      { s with tm := { s.tm with holdover := true, lostAt := s.tm.lp + i.lp, expired := false } })) ∧
  (∀ (s : State) (d : Int) (i : Instant), s.tm.holdover = true → -100000 ≤ d → d ≤ 100000 →
    s.tm.lostAt + 400000 ≤ s.tm.lp + i.lp →
    exec (.refRestored d i) s = .next (recorded true Event.refRestored (mkSrc 1 7 0) 0 0
      { s with tm := { s.tm with holdover := false, expired := false } })) ∧
  (∀ (s : State) (d : Int) (i : Instant), d < -100000 ∨ 100000 < d ∨ s.tm.lp + i.lp < s.tm.lostAt + 400000 →
    exec (.refRestored d i) s = .next s) ∧
  (∀ (s : State) (i : Instant), s.tm.holdover = true → s.tm.expired = false →
    s.tm.lostAt + s.tm.latticeCfg.toNat / 2 ^ 16 % 2 ^ 12 * 400000 ≤ s.tm.lp + i.lp →
    exec (.holdoverExpired i) s = .next (recorded true Event.holdoverExpired (mkSrc 1 7 0) 0 0
      { s with tm := { s.tm with expired := true }, md := { s.md with stopCauses := s.md.stopCauses ++ [6] } })) ∧
  (∀ (s : State) (i : Instant), s.tm.holdover = false ∨ s.tm.expired = true ∨
    s.tm.lp + i.lp < s.tm.lostAt + s.tm.latticeCfg.toNat / 2 ^ 16 % 2 ^ 12 * 400000 →
    exec (.holdoverExpired i) s = .next s) ∧
  (let clear (t : Tab Slack) : Tab Slack :=
      t.filterMap fun q => if q.2.last = 32767 then none else some (q.1, { last := q.2.last, min := 32767 })
    let target (s : State) : Int := (s.tm.slackTarget.toNat % 2 ^ 16 : Nat)
    let hyst (s : State) : Int := (10 * (s.tm.govCfg.toNat / 2 ^ 16 % 256) : Nat)
    (∀ (s : State) (v : BitVec 32), s.boot.ended = true → (s.pair.linkA || s.pair.linkB) = true →
      s.md.mode ∉ [Mode.reset, .boot] → v.toNat.testBit 0 = true →
      exec (.slackClear v) s = .next
        { s with tm := { s.tm with slack := clear s.tm.slack }, hbd := { s.hbd with slack := clear s.hbd.slack } }) ∧
    (∀ s : State, s.tm.gov.enabled = true → s.tm.gov.fault = false → s.tm.gov.settling = false →
      s.tm.gov.decided ≠ s.tm.frame + 1 → s.tm.due (2 ^ (s.tm.govCfg.toNat / 2 ^ 12 % 16 + 4)) 0 = true →
      s.tm.gov.minSlack < target s - hyst s →
      let v := min (s.tm.gov.v + s.tm.govCfg.toNat / 2 ^ 8 % 16) 950
      Runs .governorInterval s fun t =>
        t.tm.gov.v = v ∧ t.tm.gov.out = v ∧ (s.tm.gov.out ≠ v → t.tm.gov.settling = true ∧
          t.tm.gov.bus = s.tm.gov.bus ++ [xfer s 0x21 true (voltWord s v)]) ∧ t.tm.gov.minSlack = 32767 ∧
        t.tm.gov.decided = s.tm.frame + 1 ∧ t.tm.frame = s.tm.frame ∧ t.hbd = s.hbd ∧ t.md = s.md ∧ t.mot = s.mot) ∧
    (∀ s : State, s.tm.gov.enabled = true → s.tm.gov.fault = false → s.tm.gov.settling = false →
      s.tm.gov.decided ≠ s.tm.frame + 1 → s.tm.due (2 ^ (s.tm.govCfg.toNat / 2 ^ 12 % 16 + 4)) 0 = true →
      target s + hyst s < s.tm.gov.minSlack → s.tm.govCfg.toNat / 2 ^ 24 % 16 ≤ s.tm.gov.quiet →
      let v := max (s.tm.gov.v - s.tm.govCfg.toNat / 2 ^ 8 % 16) 760
      Runs .governorInterval s fun t =>
        t.tm.gov.v = v ∧ t.tm.gov.out = v ∧ t.tm.gov.quiet = 0 ∧ t.tm.gov.minSlack = 32767 ∧
        t.tm.gov.decided = s.tm.frame + 1 ∧ t.tm.frame = s.tm.frame ∧ t.hbd = s.hbd ∧ t.md = s.md ∧ t.mot = s.mot) ∧
    (∀ s : State, s.tm.gov.decided = s.tm.frame + 1 → exec .governorInterval s = .next s) ∧
    (∀ (s : State) (mv : Nat) (i : Instant), s.tm.gov.enabled = true → s.tm.gov.fault = false → s.tm.gov.settling = true →
      s.tm.gov.readAt + 80000 ≤ s.tm.lp + i.lp → s.tm.gov.v = s.tm.gov.out → mv ≤ s.tm.gov.out + 10 → s.tm.gov.out ≤ mv + 10 →
      exec (.readVoutPoll mv i) s = .next { s with tm := { s.tm with gov := { s.tm.gov with
        settling := false, retries := 0, readAt := s.tm.lp + i.lp
        bus := s.tm.gov.bus ++ [xfer s 0x8B false (voltWord s mv)] } } }) ∧
    (∀ (s : State) (i : Instant), s.tm.gov.enabled = true → s.tm.gov.fault = false → s.tm.gov.retries < 3 →
      s.tm.gov.settling = true →
      let t : State := { s with tm := { s.tm with
        gov := sent s { s.tm.gov with retries := s.tm.gov.retries + 1 } (s.tm.lp + i.lp) } }
      exec (.pmbusNack i) s = .next t ∧
        (s.tm.gov.wroteAt + 400000 ≤ s.tm.lp + i.lp → exec (.voutSettleTimeout i) s = .next t)) ∧
    (∀ (s : State) (i : Instant), s.tm.gov.enabled = true → s.tm.gov.fault = false → 3 ≤ s.tm.gov.retries →
      let t : State := recorded true Event.govPmbusFault (mkSrc s.pair.active 7 4) 0 0
        { s with tm := { s.tm with gov := { s.tm.gov with fault := true, settling := false } } }
      exec (.pmbusNack i) s = .next t ∧
        (s.tm.gov.settling = true → s.tm.gov.wroteAt + 400000 ≤ s.tm.lp + i.lp →
          exec (.voutSettleTimeout i) s = .next t)) ∧
    (∀ (s : State) (w : BitVec 16), s.tm.gov.enabled = true →
      exec (.govRegAlert w) s = .next (recorded true Event.govRegAlert (mkSrc s.pair.active 7 4) w.toNat 0
        { s with tm := { s.tm with gov := { s.tm.gov with
          bus := s.tm.gov.bus ++ [xfer s 0x79 false w.toNat, xfer s 0x03 true 0] } } })))

/-- TIME_SET: the time master of a node alone sets the time forward to a whole boundary, and the control time of the boundary
stays (R88, R101). TIME: while a link is up, the HBD takes the mode the active die reports, and forgets the writes whose
application frame has passed (R85, R105, R620). -/
def Obligations.TimeSetAndTimeMessage : Prop :=
  (∀ (c : Cmd) (s : State), NamesPairAny c s → s.md.mode ∉ [Mode.reset, .boot, .safeStop] → Rest c 12 →
    Arg.u c 8 4 < 10 ^ 9 → Arg.u c 8 4 % 15625 = 0 → Net.timeMaster s = true →
    s.enabled 6 = false ∨ (∀ n ∈ List.range 512, s.net.map.testBit n = false ∨ n = s.nodeId) →
    s.tm.frame < Arg.u c 0 8 * 64000 + Arg.u c 8 4 / 15625 →
    Runs (.timeSet c) s fun t =>
      t.tm.frame = Arg.u c 0 8 * 64000 + Arg.u c 8 4 / 15625 ∧
      t.tm.steps = s.tm.steps + ((t.tm.frame : Int) - s.tm.frame) * (15625 * 256) ∧ t.tm.control = s.tm.control ∧
      t.md = s.md ∧ t.deck = s.deck) ∧
  (∀ s : State, s.tm.lock = true → (s.pair.linkA || s.pair.linkB) = true → s.hbd.checkDone = none → s.hbd.waiting = [] →
      Runs .time s fun t =>
        t.hbd.modeReg = Modes.modeReg s ∧ t.hbd.pairPending = s.hbd.pairPending.filter (fun w => decide (w ≠ 0)) ∧
        t.hbd.upNum = (s.hbd.upNum + 1) % 2 ^ 32 ∧
        (Modes.modeReg s ≠ s.hbd.modeReg → t.hbd.irqSource.testBit 54 = true) ∧
        (Modes.modeReg s = s.hbd.modeReg → t.hbd.irqSource = s.hbd.irqSource) ∧ t.tm = s.tm ∧ t.md = s.md)

/-- TXTS_READ removes the oldest entry of the queue named in argument byte 0 and completes DONE with the result of Table 2-7; an
empty queue gives bytes 0 to 14 zero and byte 15 = 0xFF; another channel, or a reserved byte that is not 0, is MALFORMED
(R102). -/
def Obligations.TxtsReadRemovesTheOldestEntry : Prop :=
  (∀ (c : Cmd) (s : State) (ch : Nat), NamesPairAny c s → s.md.mode ∉ [Mode.reset, .boot] → Rest c 1 → Arg.u c 0 1 = ch →
    (∀ x l, ch = 0 → s.tm.txA = x :: l → exec (.txtsRead c) s = .next (done c 0x0531
      (x.time / (10 ^ 9 * 256) + x.time % (10 ^ 9 * 256) / 256 * 2 ^ 64 + x.id % 2 ^ 16 * 2 ^ 96 + l.length * 2 ^ 120)
      { s with tm := { s.tm with txA := l } })) ∧
    (∀ x l, ch = 1 → s.tm.txB = x :: l → exec (.txtsRead c) s = .next (done c 0x0531
      (x.time / (10 ^ 9 * 256) + x.time % (10 ^ 9 * 256) / 256 * 2 ^ 64 + x.id % 2 ^ 16 * 2 ^ 96 + 2 ^ 112 +
        l.length * 2 ^ 120) { s with tm := { s.tm with txB := l } })) ∧
    (ch = 0 ∧ s.tm.txA = [] ∨ ch = 1 ∧ s.tm.txB = [] →
      exec (.txtsRead c) s = .next (done c 0x0531 (0xFF * 2 ^ 120) s))) ∧
  (∀ (c : Cmd) (s : State), s.md.mode ∉ [Mode.reset, .boot] → 2 ≤ Arg.u c 0 1 ∨ ¬ Rest c 1 →
    exec (.txtsRead c) s = .next (answer c 0x0531 .malformed 0 0 false s))

/-- TIME_STEP, PPS_IN_EDGE, PPS_LOST, PPS_OUT, PPS_OUT_WIDTH_END: a due step takes the value it is given; the first edge of a lone
node locks and makes due the step that aligns it, a later one within 100 µs and not early is taken and corrects the rate, any
other is rejected; after 1.5 s without one the lock is lost; a pulse goes out once per whole second (R87, R92 to R96).
DEADLINE: each die that computes the frame enters its own temperature, the active one the FID's, and the standby's self-test
progress is taken; with no item listed as missed, loops, axes, recipes, acquisition and the network go on as they were (R80,
R457, R475). FRAME_BOUNDARY: with no step due, no message due and no reset awaited, the frame number goes up by one, which is
the only number the boundary carries, and device time keeps its distance from control time (R62 to R64, R88). Before lattice
lock no boundary of the field side happens: the HBD's own frame goes by, in which its regions report slack and count, and
nothing else changes (R58, R68, R590). -/
def Obligations.StepsPulsesDeadlinesAndBoundaries : Prop :=
  (∀ (s : State) (θ a : Int), s.tm.stepDue = some a →
    exec (.timeStep θ) s = .next { s with tm := { s.tm with stepDue := some θ } }) ∧
  (∀ (s : State) (r : Bool) (i : Instant), TimeCmd.ppsOn r s = true → s.tm.ppsLocked = false →
    TimeCmd.othersIn s = false → TimeCmd.alignment (s.tm.edge i) ≠ 0 →
    exec (.ppsInEdge r i) s = .next { s with tm := { s.tm with
      ppsLocked := true, ppsLast := some ((s.tm.edge i : Int) - s.tm.steps)
      stepDue := some (TimeCmd.alignment (s.tm.edge i)) } }) ∧
  (∀ (s : State) (r : Bool) (i : Instant) (l : Int), TimeCmd.ppsOn r s = true → s.tm.ppsLocked = true →
    s.tm.ppsLast = some l →
    let θ : Int := (Ops.nearestSec (s.tm.edge i) : Nat) - (s.tm.edge i : Int)
    let c : Int := (s.tm.edge i : Int) - s.tm.steps
    (θ.natAbs ≤ 25600000 → l + 128000000000 ≤ c →
      Runs (.ppsInEdge r i) s fun t =>
        t.tm.ppsLast = some c ∧ t.tm.theta = θ ∧ t.tm.nextRate.isSome = true ∧ t.tm.frame = s.tm.frame ∧ t.log = s.log) ∧
    (25600000 < θ.natAbs ∨ c < l + 128000000000 →
      exec (.ppsInEdge r i) s = .next (recorded true Event.ppsReject (mkSrc 1 5 3) 0 0 s))) ∧
  (∀ (s : State) (c : Int) (i : Instant), s.tm.ppsLast = some c → s.tm.ppsLocked = true →
    c + 384000000000 ≤ (s.tm.edge i : Int) - s.tm.steps →
    exec (.ppsLost i) s = .next (recorded true Event.ppsLost (mkSrc 1 5 3) 0 0 { s with tm := { s.tm with ppsLocked := false } })) ∧
  (∀ s : State, s.chk.enable.testBit 11 = true → s.tm.latticeCfg.toNat.testBit 3 = true → s.tm.frame % 64000 = 0 →
    ((∀ r ∈ s.tm.ppsDone, s.tm.frame / 64000 < r.1 ∨ r.2 < s.tm.frame / 64000) →
      exec .ppsOut s = .next { s with tm := { s.tm with
        ppsOut := true, ppsDone := pulsed (s.tm.frame / 64000) s.tm.ppsDone
        ppsEnd := s.tm.lp + s.tm.latticeCfg.toNat / 2 ^ 8 % 2 ^ 8 * 400000 } }) ∧
    ((∃ r ∈ s.tm.ppsDone, r.1 ≤ s.tm.frame / 64000 ∧ s.tm.frame / 64000 ≤ r.2) → exec .ppsOut s = .next s)) ∧
  (∀ (s : State) (i : Instant), s.tm.ppsEnd ≤ s.tm.lp + i.lp →
    exec (.ppsOutWidthEnd i) s = .next { s with tm := { s.tm with ppsOut := false } }) ∧
  (∀ (s : State) (i : Instant), s.tm.lp + i.lp < s.tm.ppsEnd → exec (.ppsOutWidthEnd i) s = .next s) ∧
  (∀ (s : State) (a b : DieLocal), s.pair.st = 1 → s.pair.active = 1 →
    Runs (.deadline a b) s fun t =>
      t.pair.cda.tj = a.tj ∧ t.pair.cdb.tj = b.tj ∧ t.pair.fidTj = a.fidTj ∧ t.pair.passes = s.pair.passes + b.passes ∧
      t.pair.coverage = b.coverage ∧ t.tm.frame = s.tm.frame) ∧
  (∀ (s : State) (a b : DieLocal), s.pair.st = 2 → s.pair.active = 2 →
    Runs (.deadline a b) s fun t =>
      t.pair.cdb.tj = b.tj ∧ t.pair.cda = s.pair.cda ∧ t.pair.fidTj = b.fidTj ∧ t.pair.passes = s.pair.passes ∧
      t.tm.frame = s.tm.frame) ∧
  (∀ (s : State) (a b : DieLocal), a.missed = [] → b.missed = [] →
    Runs (.deadline a b) s fun t =>
      t.mot = s.mot ∧ t.loop = s.loop ∧ t.prog.seqs = s.prog.seqs ∧ t.acq = s.acq ∧ t.net = s.net ∧ t.deck = s.deck) ∧
  (∀ (s : State) (inp : FieldInputs), s.tm.lock = true → s.tm.stepDue = none → s.hbd.down = [] → s.md.forceReset = false →
      Runs (.frameBoundary inp) s fun t =>
        t.tm.frame = s.tm.frame + 1 ∧ t.tm.first = s.tm.frame + 1 ∧ t.tm.lock = true ∧ t.tm.steps = s.tm.steps) ∧
  (∀ (s : State) (inp : FieldInputs), s.tm.lock = false →
      Runs (.frameBoundary inp) s fun t =>
        t = { s with
          hbd := { s.hbd with healthAge := min 1632000 (s.hbd.healthAge + 1), slack := t.hbd.slack }
          log := { s.log with counters := t.log.counters }
          free := t.free })

/-! The pair, its faults and its links. -/

namespace Sys2Proof.Says

/-- What a control die holds of its own, with `f` applied for the die named. -/
def onDie (d : Die) (f : DieSt → DieSt) (p : Pair) : Pair :=
  match d with
  | .cda => { p with cda := f p.cda }
  | .cdb => { p with cdb := f p.cdb }

/-- Whether a die of the pair computes frames (Table 13-1). -/
abbrev computes (s : State) (d : Die) : Prop :=
  s.pair.st = 1 ∨ s.pair.st = 3 ∨ s.pair.st = 2 ∧ s.pair.active = (match d with | .cda => 1 | .cdb => 2)

/-- Bit `i` of PAIR_FLAGS set (Table 13-12). -/
def pairFlag (i : Nat) (p : Pair) : Pair := { p with flags := Bits.setBit p.flags i true }

/-- The unit that stands for a marked extent in an event's source (R29). -/
def markedUnit (x : Extent) (u : Nat) : Nat :=
  match x with
  | .unit => u
  | .cluster => u / 8 * 8
  | .region => 0

/-- The number Table 13-4 gives a checker. -/
def checkerNo : Checker → Nat
  | .ecc => 1
  | .residue => 2
  | .handshake => 3
  | .slack => 4
  | .dupPath => 5
  | .link => 6

/-- Whether a try of the resynchronisation is over: it has taken 25,600 frames, the lane digests differ after the cut,
or the die has
not caught up 1,024 frames after it (R473). -/
abbrev tryOver (s : State) (c : RetryCause) : Prop :=
  c = .timeout ∧ 25600 ≤ s.pair.resync.age ∨
    s.pair.resync.cut = true ∧ (c = .digestDiffers ∨ c = .fellBehind ∧ 1024 ≤ s.pair.resync.cutAge)

/-- SELFTEST_EN and GUARANTEE of a health report (Table 13-7, R482). -/
def reportFlags (m : HealthMeas) (s : State) : Nat :=
  let g : Bool := decide (s.pair.st = 1) && m.supplies && s.pwr.fieldValid && s.pwr.hostValid &&
    s.pair.redundancyCfg.toNat.testBit 0 && decide (s.pair.cda.tj ≤ 428) && decide (s.pair.cdb.tj ≤ 428) &&
    decide (s.pair.fidTj ≤ 428)
  s.pair.redundancyCfg.toNat % 2 + 2 * g.toNat

/-- `s` with the link of a die at a level and the source 52 of a change fired (Table 15-2). -/
def linkSet (l : Die) (up : Bool) (s : State) : State :=
  Ops.fire 52 (match l with
    | .cda => { s with pair := { s.pair with linkA := up, quietA := 0 } }
    | .cdb => { s with pair := { s.pair with linkB := up, quietB := 0 } })

/-- `s` with what has been delivered of a die's images discarded (R139). -/
def unloaded (l : Die) (s : State) : State :=
  match l with
  | .cda => { s with boot := { s.boot with cda := { s.boot.cda with img := [] } } }
  | .cdb => { s with boot := { s.boot with cdb := { s.boot.cdb with img := [] } } }

end Sys2Proof.Says

/-- DIE_FAULT: in a die that computes frames the fault is marked, flagged for the next boundary, or for the one after it when it
comes late in a frame of an in-step pair, and, when not late, recorded with the checker and that boundary's number; a whole
region is reset, so that its slack and its counters begin anew; a fault the self-test found may set PAIR_FLAGS bit 3 (R28,
R29, R463, R465). ECC_CORRECTED, FID_FAULT, FID_REGION_RETURN, HBD_FAULT: a corrected error is counted, saturating, and sets
PAIR_FLAGS bit 2; a fault of the FID is marked and recorded, drives the valves of its extent off, and a faulted region goes
back into service once its reset has ended; a fault of a whole region of the HBD resets its slack and counters, one of the
mirror records a gap, and one of a unit that handles no traffic the spec reports on changes nothing (R28, R31, R32, R464,
R476). -/
def Obligations.FaultsAreMarkedAndFlagged : Prop :=
  (∀ (s : State) (d : Die) (k : Checker) (r : Fin 8) (x : Extent) (u : Fin 1024) (late : Bool), computes s d →
      let n := markedUnit x u.val
      let dn := match d with | .cda => 1 | .cdb => 2
      let q : FlagFault := { die := dn, safety := decide (r.val = 6), checker := checkerNo k, src := mkSrc dn r.val n }
      let p0 := onDie d (fun y => { y with lastChecker := checkerNo k, marks := y.marks ++ [(r.val, x, n)] }) s.pair
      let b := if x = .region then Ops.regionReset dn r.val s else s
      ∃ (fl fr : Nat), (fl = s.pair.flags ∨ fl = Bits.setBit s.pair.flags 3 true ∧ s.pair.redundancyCfg.toNat.testBit 0 = true) ∧
        (late = true → s.pair.st = 1 → exec (.dieFault d k r x u late) s = .next { b with
          free := fr, pair := { p0 with flags := fl, flaggedLate := s.pair.flaggedLate ++ [q] } }) ∧
        (late = false ∨ s.pair.st ≠ 1 → exec (.dieFault d k r x u late) s = .next
          (recorded true Event.dieFault q.src q.checker ((s.tm.frame + 1) % 2 ^ 32) { b with
            free := fr, pair := { p0 with flags := fl, flagged := s.pair.flagged ++ [q]
                                          lastFault := q.src + q.checker * 2 ^ 16
                                          lastFaultFrame := (s.tm.frame + 1) % 2 ^ 32 } }))) ∧
  (∀ (s : State) (d : Die), computes s d →
    Runs (.eccCorrected d) s fun t =>
      t.pair.eccCorr = min (s.pair.eccCorr + 1) 65535 ∧ t.pair.eccWin = min (s.pair.eccWin + 1) 65535 ∧
      t.pair.flags = Bits.setBit s.pair.flags 2 true ∧
      (match d with | .cda => t.pair.cda.ecc | .cdb => t.pair.cdb.ecc) =
        min ((match d with | .cda => s.pair.cda.ecc | .cdb => s.pair.cdb.ecc) + 1) 65535 ∧
      t.pair.flagged = s.pair.flagged ∧ t.md = s.md ∧ t.tm = s.tm ∧ t.hbd = s.hbd ∧ t.deck = s.deck) ∧
  (∀ (s : State) (r : Fin 6) (x : Extent) (u : Fin 128), s.tm.lock = true →
    let n := mkSrc 3 r.val (markedUnit x u.val)
    Runs (.fidFault r x u) s fun t =>
      t.pair = { s.pair with
        fidMarks := s.pair.fidMarks ++ [(r.val, x, markedUnit x u.val)]
        fidReset := if x = .region then s.pair.fidReset ++ [r.val] else s.pair.fidReset
        lastFault := n, lastFaultFrame := (s.tm.frame + 1) % 2 ^ 32 } ∧
      t.log.raised = (recorded true (Event.fidFault r.val) n n 0 s).log.raised ∧
      (∀ v < 64, r.val = 1 → (match x with | .unit => v = u.val | .cluster => v / 8 = u.val / 8 | .region => True) →
        (Tab.get t.out.valves v).on = false) ∧
      t.md = s.md ∧ t.hbd = s.hbd ∧ t.loop = s.loop ∧ t.prog = s.prog ∧ t.net = s.net ∧ t.deck = s.deck) ∧
  (∀ (s : State) (r : Fin 6), r.val ∈ s.pair.fidReset →
    exec (.fidRegionReturn r) s = .next { s with pair := { s.pair with fidReturn := s.pair.fidReturn ++ [r.val] } }) ∧
  (∀ (s : State) (r : Fin 6), r.val ∉ s.pair.fidReset → exec (.fidRegionReturn r) s = .next s) ∧
  (∀ (s : State) (r : Fin 6) (x : Extent) (u : Fin 128), r.val = 0 ∨ r.val = 3 ∨ r.val = 4 →
    exec (.hbdFault r x u) s = .next (if x = .region then Ops.regionReset 0 r.val s else s)) ∧
  (∀ (s : State) (x : Extent) (u : Fin 128), s.hbd.gap = false →
    Runs (.hbdFault 5 x u) s fun t =>
      t.hbd.gap = true ∧ t.pair = s.pair ∧ t.md = s.md ∧ t.tm.frame = s.tm.frame ∧ t.deck = s.deck)

/-- FRAME_DIGEST_EXCHANGE, REPLAY_RESULT: lane digests that differ in an in-step pair count a disagreement, record the mask of the
lanes and begin a replay for the boundary that follows, unless a fault flagged or judged for it decides; equal ones change
nothing; the replay records one of the four outcomes and judges the die found faulty, the standby when both or none are (R461,
R462, R466 to R468). RESYNC_PASS_END, PAIR_RESTORED, RESYNC_RETRY: the final cut is due after a pass that leaves at most 256
blocks dirty; a pass that does not halve the dirty blocks brings the full rate; after the cut the die joins at the next
boundary; a try that is over is followed by another, three at most, and then the die is held, as is one that fails its
self-test (R470 to R473). -/
def Obligations.DigestsReplayAndResynchronisation : Prop :=
  (∀ (s : State) (a b : List (BitVec 64)), s.pair.st = 1 → a = b → exec (.frameDigestExchange a b false) s = .next s) ∧
  (∀ (s : State) (a b : List (BitVec 64)) (f : Bool), s.pair.st ≠ 1 → exec (.frameDigestExchange a b f) s = .next s) ∧
  (∀ (s : State) (a b : List (BitVec 64)) (f : Bool), s.pair.st = 1 → f = true ∨ Pair.frameDigest a ≠ Pair.frameDigest b →
    let m := (if a.getD 0 0 = b.getD 0 0 then 0 else 1) + (if a.getD 1 0 = b.getD 1 0 then 0 else 2) +
      (if a.getD 2 0 = b.getD 2 0 then 0 else 4) + (if a.getD 3 0 = b.getD 3 0 then 0 else 8) +
      (if a.getD 4 0 = b.getD 4 0 then 0 else 16) + (if a.getD 5 0 = b.getD 5 0 then 0 else 32)
    let free := s.pair.disagree = none ∧ s.pair.judged = none ∧ s.pair.flagged = []
    exec (.frameDigestExchange a b f) s = .next
      (recorded true Event.digestMismatch (mkSrc 1 7 0) (m + (if f then 256 else 0)) (s.tm.frame + 1) { s with
        pair := { pairFlag 1 s.pair with
          disagrees := min (s.pair.disagrees + 1) 65535
          disagree := if free then some { frame := s.tm.frame + 1 } else s.pair.disagree } })) ∧
  (∀ (s : State) (a b : Replay) (q : Disagree), s.pair.st = 1 → s.pair.active = 1 ∨ s.pair.active = 2 →
    s.pair.disagree = some q → q.frame ≤ s.tm.frame →
    let act := if s.pair.active = 1 then a else b
    let stb := if s.pair.active = 1 then b else a
    let t (out : Nat) (bad : Nat) : State := recorded true Event.replayResult (mkSrc 1 7 0) out 0
      { s with pair := { s.pair with disagree := none, judged := some bad } }
    (act = .differs → stb ≠ .differs →
      exec (.replayResult a b) s = .next (t s.pair.active s.pair.active)) ∧
    (act ≠ .differs → stb = .differs →
      exec (.replayResult a b) s = .next (t 3 (3 - s.pair.active))) ∧
    (act ≠ .differs → stb ≠ .differs →
      exec (.replayResult a b) s = .next (recorded true Event.pairDisagree (mkSrc 1 7 0) 0 0 (t 4 (3 - s.pair.active)))) ∧
    (act = .differs → stb = .differs →
      exec (.replayResult a b) s = .next (recorded true Event.pairDisagree (mkSrc 1 7 0) 0 0 (t 5 (3 - s.pair.active))))) ∧
  (∀ (s : State) (n : Nat), s.pair.st = 3 → s.pair.resync.cut = false → s.pair.resync.cutDue = false → n ≤ 256 →
    exec (.resyncPassEnd n) s = .next { s with pair := { s.pair with
      resync := { s.pair.resync with pass := s.pair.resync.pass + 1, dirty := n, cutDue := true } } }) ∧
  (∀ (s : State) (n : Nat), s.pair.st = 3 → s.pair.resync.cut = false → s.pair.resync.cutDue = false → 256 < n →
    exec (.resyncPassEnd n) s = .next { s with pair := { s.pair with
      resync := { s.pair.resync with
        pass := s.pair.resync.pass + 1, dirty := n
        fullRate := s.pair.resync.fullRate || (decide (s.pair.resync.pass ≠ 0) && decide (s.pair.resync.dirty < 2 * n)) } } }) ∧
  (∀ s : State, s.pair.st = 3 → s.pair.resync.cut = true →
    exec .pairRestored s = .next { s with pair := { s.pair with resync := { s.pair.resync with joinDue := true } } }) ∧
  (∀ s : State, s.pair.st ≠ 3 ∨ s.pair.resync.cut = false → exec .pairRestored s = .next s) ∧
  (∀ (s : State) (c : RetryCause), s.pair.st = 3 → s.pair.tries < 2 → tryOver s c →
    exec (.resyncRetry c) s = .next (recorded true Event.resyncRetry (mkSrc (3 - s.pair.active) 7 0) 0 0
      { s with pair := { s.pair with tries := s.pair.tries + 1, resync := { age := s.pair.resync.age }, pct := 0 } })) ∧
  (∀ (s : State) (c : RetryCause), s.pair.st = 3 → 2 ≤ s.pair.tries → s.pair.active = 1 → tryOver s c →
    exec (.resyncRetry c) s = .next (recorded true Event.resyncFail (mkSrc 2 7 0) 0 0
      { s with pair := { pairFlag 4 s.pair with st := 2, tries := s.pair.tries + 1, resync := {}, pct := 0 }
               boot := { s.boot with cdb := { held := true } } })) ∧
  (∀ (s : State) (c : RetryCause), s.pair.st = 3 → c ≠ .selfTestFailed → ¬ tryOver s c →
    exec (.resyncRetry c) s = .next s) ∧
  (∀ s : State, s.pair.st = 2 → s.pair.active = 2 → s.boot.cda.st ≠ 0 →
    exec (.resyncRetry .selfTestFailed) s = .next (recorded true Event.resyncFail (mkSrc 1 7 0) 0 0
      { s with pair := { pairFlag 4 s.pair with resync := {}, pct := 0 }
               boot := { s.boot with cda := { held := true } } }))

/-- HEALTH_REPORT, HEARTBEAT: at every 6,400th frame with HEALTH_EN the two entries, of types 9 and 10, join the health ring's
backlog, the window's extremes begin again, and the HBD, while a link is up, takes the state of the pair and GUARANTEE; a
heartbeat on a link that is up shows that it lives and is counted in its die's region 7, one on a link that is down changes
nothing (R477, R478, R482). BARRIER_LINK_DOWN, BARRIER_LINK_RETRAIN, BARRIER_LINK_UP, GIRDER_DOWN, GIRDER_RETRAIN: a link goes
down on loss of training or after 640 frames without a valid message, and not before; the loss of the last link is the loss of
the host, its return the return of the host; training of a down link is silent until it returns; a lost Girder Link marks and
flags the standby (R29, R139, R478, R480, R481). -/
def Obligations.HealthAndLinks : Prop :=
  (∀ (s : State) (m : HealthMeas), s.pair.redundancyCfg.toNat.testBit 15 = true → s.pair.st = 1 ∨ s.pair.st = 2 ∨ s.pair.st = 3 →
    s.tm.due 6400 0 = true → s.pair.healthFrame ≠ s.tm.frame + 1 →
    let ring := s.pair.redundancyCfg.toNat / 2 ^ 8 % 2 ^ 5
    let old := Tab.get s.hbd.streams ring
    Runs (.healthReport m) s fun t =>
      t.pair = { s.pair with healthFrame := s.tm.frame + 1, eccWin := 0, slackWin := 32767, tjWin := -32768 } ∧
      (old.length + 2 ≤ 65536 →
        (Tab.get t.hbd.streams ring).take old.length = old ∧
        ((Tab.get t.hbd.streams ring).drop old.length).map (fun e => e.bytes % 2 ^ 16) = [0x9000, 0xA000]) ∧
      ((s.pair.linkA || s.pair.linkB) = true →
        t.hbd.healthBits = s.pair.st + 4 * s.pair.active + 16 * (reportFlags m s % 2) + 32 * (reportFlags m s / 2) ∧
        t.hbd.reports = (s.hbd.reports + 1) % 2 ^ 16 ∧ t.hbd.healthAge = 0) ∧
      t.md = s.md ∧ t.tm = s.tm ∧ t.deck = s.deck) ∧
  (∀ s : State, s.pair.linkA = true → Runs (.heartbeat .cda) s fun t =>
    t = { s with pair := { s.pair with quietA := 0 }, log := { s.log with counters := t.log.counters } }) ∧
  (∀ s : State, s.pair.linkB = true → Runs (.heartbeat .cdb) s fun t =>
    t = { s with pair := { s.pair with quietB := 0 }, log := { s.log with counters := t.log.counters } }) ∧
  (∀ s : State, (s.pair.linkA = false → exec (.heartbeat .cda) s = .next s) ∧
    (s.pair.linkB = false → exec (.heartbeat .cdb) s = .next s)) ∧
  (let down (l : Die) (s : State) : State :=
      let t := recorded true Event.barrierLinkDown (mkSrc (match l with | .cda => 1 | .cdb => 2) 7 0)
        (match l with | .cda => 0 | .cdb => 1) 0 (linkSet l false (unloaded l s))
      { t with pair := pairFlag 5 t.pair }
    let lost (t : State) : State :=
      recorded true Event.hostLost (mkSrc 1 7 0) 0 0 { t with pair := { pairFlag 7 t.pair with hostLost := true } }
    (∀ (s : State) (x : Bool), s.pair.linkA = true → x = true ∨ 640 ≤ s.pair.quietA →
      exec (.barrierLinkDown .cda x) s = .next (if s.pair.linkB then down .cda s else lost (down .cda s))) ∧
    (∀ (s : State) (x : Bool), s.pair.linkB = true → x = true ∨ 640 ≤ s.pair.quietB →
      exec (.barrierLinkDown .cdb x) s = .next (if s.pair.linkA then down .cdb s else lost (down .cdb s))) ∧
    (∀ s : State, s.pair.quietA < 640 → exec (.barrierLinkDown .cda false) s = .next s) ∧
    (∀ s : State, s.pair.quietB < 640 → exec (.barrierLinkDown .cdb false) s = .next s) ∧
    (∀ (s : State) (l : Die), exec (.barrierLinkRetrain l) s = .next s) ∧
    (∀ (s : State) (l : Die), (match l with | .cda => s.pair.linkA | .cdb => s.pair.linkB) = false → s.pair.st ≠ 0 →
      s.pwr.hostValid = true → s.pwr.perst = false →
      let t := recorded true Event.barrierLinkUp (mkSrc (match l with | .cda => 1 | .cdb => 2) 7 0) 0 0 (linkSet l true s)
      exec (.barrierLinkUp l) s = .next (if s.pair.hostLost then recorded true Event.hostRestored (mkSrc 1 7 0) 0 0
        { t with pair := { t.pair with hostLost := false } } else t)) ∧
    (∀ s : State, s.pair.girder = true → s.pair.st = 1 ∨ s.pair.st = 3 → s.pair.active = 1 →
      exec .girderDown s = .next (recorded true Event.girderDown (mkSrc 1 7 1) 0 0 { s with
        pair := { pairFlag 6 s.pair with
          girder := false, flagged := s.pair.flagged ++ [{ die := 2 }]
          cdb := { s.pair.cdb with marks := s.pair.cdb.marks ++ [(7, .unit, 1)] } } })) ∧
    (∀ s : State, s.pair.girder = true → s.pair.st = 1 ∨ s.pair.st = 3 → s.pair.active = 2 →
      exec .girderDown s = .next (recorded true Event.girderDown (mkSrc 1 7 1) 0 0 { s with
        pair := { pairFlag 6 s.pair with
          girder := false, flagged := s.pair.flagged ++ [{ die := 1 }]
          cda := { s.pair.cda with marks := s.pair.cda.marks ++ [(7, .unit, 1)] } } })) ∧
    (∀ s : State, s.pair.girder = true → s.pair.st = 2 →
      exec .girderDown s = .next (recorded true Event.girderDown (mkSrc 1 7 1) 0 0 { s with
        pair := { pairFlag 6 s.pair with girder := false } })) ∧
    (∀ s : State, exec (.girderRetrain true) s = .next { s with pair := { s.pair with girder := true } } ∧
      exec (.girderRetrain false) s = .next s))

/-- PAIR_SWAP, DIE_RETRY, DIAG_INJECT: the standby of an in-step pair becomes active; a held die of a solo pair starts its
self-test again with its tries at 0; an error is planted in one die of an in-step pair in COMMISSION (R483, R484, R624). -/
def Obligations.PairCommands : Prop :=
  (∀ (c : Cmd) (s : State), Names c s 7 → c.unit = 0 → Rest c 0 → s.md.mode ∈ [Mode.configure, .commission, .run, .hold] →
    s.pair.decided ≠ s.tm.frame + 1 → s.pair.st = 1 →
    exec (.pairSwap c) s = .next (done c 0x0710 0 (recorded false Event.failover (mkSrc 1 7 0) (3 - s.pair.active) 0 { s with
      pair := { pairFlag 0 s.pair with active := 3 - s.pair.active, failovers := min (s.pair.failovers + 1) 65535 } }))) ∧
  (∀ (c : Cmd) (s : State), Names c s 7 → c.unit = 0 → Rest c 0 → s.md.mode ∉ [Mode.reset, .boot] →
    s.pair.decided = s.tm.frame + 1 → exec (.pairSwap c) s = .next (answer c 0x0710 .refused 0x75 0 false s)) ∧
  (∀ (c : Cmd) (s : State), Names c s 7 → c.unit = 0 → Rest c 0 → s.md.mode ∉ [Mode.reset, .boot] → s.pair.st = 2 →
    (s.pair.active = 1 → s.boot.cdb.held = true → exec (.dieRetry c) s = .next (done c 0x0711 0 { s with
      boot := { s.boot with cdb := { st := 1 } }, pair := { s.pair with tries := 0 } })) ∧
    (s.pair.active = 2 → s.boot.cda.held = true → exec (.dieRetry c) s = .next (done c 0x0711 0 { s with
      boot := { s.boot with cda := { st := 1 } }, pair := { s.pair with tries := 0 } }))) ∧
  (∀ (c : Cmd) (s : State), Names c s 7 → c.unit = 0 → Rest c 0 → s.md.mode ∉ [Mode.reset, .boot] → s.pair.st = 3 →
    exec (.dieRetry c) s = .next (answer c 0x0711 .refused 0x7D 0 false s)) ∧
  (∀ (s : State) (d : Die) (v : BitVec 32), Regs.fieldClosed s = false → s.md.mode = .commission → s.pair.st = 1 →
    v.toNat / 2 ^ 24 = 0x5C → v.toNat % 4 ≠ 0 → (v.toNat % 4 = 3 → v.toNat / 2 ^ 10 % 8 ≠ 0) →
    exec (.diagInject d v) s = .next { s with pair := onDie d (fun y => { y with planted := y.planted ++
      [(v.toNat % 4, if v.toNat % 4 = 3 then v.toNat / 2 ^ 10 % 8 else v.toNat / 2 ^ 2 % 2 ^ 8)] }) s.pair })

/-! Motion and axis I/O. -/

namespace Sys2Proof.Says

/-- A motion command's entry names an axis of the pair and is read in a mode the command is accepted in; in DEGRADED the
modes
are those of the return mode (R656). -/
abbrev NamesAxis (c : Cmd) (s : State) (modes : List Mode) : Prop :=
  Names c s 1 ∧ c.unit < 64 ∧ s.permMode ∈ modes

/-- An axis that no fault, stop, homing or safety function keeps from moving (Table 4-5). -/
abbrev Ready (s : State) (a : Nat) : Prop :=
  s.enabled 0 = true ∧ (s.axis a).homing = none ∧ (s.axis a).faulted = false ∧ (s.axis a).barred = false ∧
    (s.axis a).stopping = false ∧ (s.axis a).follow = none ∧ (s.axis a).follower = false

/-- `s` with axis `a` replaced. -/
def axisSet (s : State) (a : Nat) (x : Axis) : State := { s with mot := { s.mot with axes := Tab.set s.mot.axes a x } }

/-- The move of a MOVE entry with its target (Table 4-7). -/
def entryMove (c : Cmd) (s : State) (t : Int) : Move :=
  { org := c.origin 0x0201, target := t, vel := Arg.s c 8 8, acc := Arg.s c 16 8, dec := Arg.s c 24 8, jerk := Arg.s c 32 8
    jerkD := Arg.s c 32 8, blend := Arg.u c 40 4, app := s.tm.frame, stopAt := t }

/-- Velocity, accelerations and jerk within the axis's limits (R160). -/
abbrev ParamsFit (x : Axis) (vel acc dec jerk : Int) : Prop :=
  0 < vel ∧ vel ≤ x.lim.vel ∧ 0 < acc ∧ acc ≤ x.lim.acc ∧ 0 < dec ∧ dec ≤ x.lim.acc ∧ 0 < jerk ∧ jerk ≤ x.lim.jerk

/-- A target that no soft limit, and from where the motion starts no limit switch or direction bar, refuses (R160, R207). -/
abbrev TargetFits (x : Axis) (ch : Channel) (start t : Int) : Prop :=
  -2 ^ 63 ≤ t ∧ t < 2 ^ 63 ∧ (x.lim.soft = true → x.lim.neg ≤ t ∧ t ≤ x.lim.pos) ∧
    (x.io.flags.testBit 6 = true → (ch.limPos.active = true → t ≤ start) ∧ (ch.limNeg.active = true → start ≤ t)) ∧
    (x.barPos = true → t ≤ start) ∧ (x.barNeg = true → start ≤ t)

/-- `s` with the channel of axis `a` replaced. -/
def chanSet (s : State) (a : Nat) (x : Channel) : State := { s with mot := { s.mot with chans := Tab.set s.mot.chans a x } }

/-- The position of the step generator, in 2^-64 steps (R190). -/
abbrev genPos (ch : Channel) : Int := ch.n * 2 ^ 64 + (if ch.neg then -(ch.phi : Int) else ch.phi)

/-- What an edge captures at an instant (R97, R204, R206). -/
abbrev edgeAt (s : State) (ch : Channel) (level : Bool) (t : Instant) : Edge :=
  { time := s.tm.edge t, ctime := (s.tm.edge t : Int) - s.tm.steps, level := level, c := ch.c, g := genPos ch }

/-- Whether a switch is active low (Table 5-1). -/
abbrev lowSwitch (x : Axis) (w : Switch) : Bool :=
  x.io.swPol.testBit (match w with | .limitPos => 0 | .limitNeg => 1 | .home => 2)

end Sys2Proof.Says

/-- AXIS_LIMITS, AXIS_STOPS, AXIS_IO: in CONFIGURE with MOTION disabled, fields in range are stored (R159, R188, Tables 4-3, 4-4,
5-1). AXIS_STATUS, ENCODER_STATUS change nothing and answer: the values of the last servo tick while MOTION is enabled, the
axis's own while it is not, zeros before MOTION first takes effect (R184, R187, R215). -/
def Obligations.AxisConfigurationAndReports : Prop :=
  (∀ (c : Cmd) (s : State), Names c s 1 → c.unit < 64 → s.md.mode = .configure → s.enabled 0 = false → Rest c 42 → Arg.u c 40 2 < 4 →
    Arg.s c 0 8 < Arg.s c 8 8 → 0 < Arg.s c 16 8 → 0 < Arg.s c 24 8 → 0 < Arg.s c 32 8 → (s.axis c.unit).stops = none →
    exec (.axisLimits c) s = .next (stored c 0x0110 (axisSet s c.unit { s.axis c.unit with
      lim := { given := true, neg := Arg.s c 0 8, pos := Arg.s c 8 8, vel := Arg.s c 16 8, acc := Arg.s c 24 8
               jerk := Arg.s c 32 8, soft := (Arg.u c 40 2).testBit 0, refReq := (Arg.u c 40 2).testBit 1 } }))) ∧
  (∀ (c : Cmd) (s : State), Names c s 1 → c.unit < 64 → s.md.mode = .configure → s.enabled 0 = false → Rest c 32 →
    let l := (s.axis c.unit).lim
    l.given = true → 0 < Arg.s c 0 8 → 0 < Arg.s c 8 8 → 0 < Arg.s c 16 8 → 0 < Arg.s c 24 8 → Arg.s c 0 8 ≤ 4 * l.acc →
    Arg.s c 8 8 ≤ 4 * l.jerk → Arg.s c 16 8 ≤ l.acc → Arg.s c 24 8 ≤ l.jerk →
    exec (.axisStops c) s = .next (stored c 0x0111 (axisSet s c.unit { s.axis c.unit with
      stops := some { qsDec := Arg.s c 0 8, qsJerk := Arg.s c 8 8, folDec := Arg.s c 16 8, folJerk := Arg.s c 24 8 } }))) ∧
  (∀ (c : Cmd) (s : State), Names c s 1 → c.unit < 64 → s.md.mode = .configure → s.enabled 0 = false → Rest c 21 → Arg.u c 2 1 < 128 →
    Arg.u c 3 1 < 4 → Arg.u c 5 1 < 8 → Arg.u c 0 1 ≤ 2 → 2 ≤ Arg.u c 1 1 → Arg.u c 1 1 ≤ 50 → 1 ≤ Arg.u c 4 1 →
    Arg.u c 4 1 ≤ 8 → Arg.u c 6 2 ≤ 10000 → Arg.s c 8 4 ≠ 0 → 1 ≤ Arg.u c 12 4 → Arg.u c 12 4 ≤ 2 ^ 31 →
    1 ≤ Arg.u c 20 1 →
    exec (.axisIo c) s = .next (stored c 0x0112 (axisSet s c.unit { s.axis c.unit with
      safeRef := none
      io := { output := Arg.u c 0 1, stepWidth := Arg.u c 1 1, flags := Arg.u c 2 1, idxGate := Arg.u c 3 1
              encFilt := Arg.u c 4 1, swPol := Arg.u c 5 1, debounceUs := Arg.u c 6 2, num := Arg.s c 8 4
              den := Arg.u c 12 4, feLimit := Arg.u c 16 4, feTicks := Arg.u c 20 1 } }))) ∧
  (∀ (c : Cmd) (s : State), Names c s 1 → c.unit < 64 → s.md.mode ∉ [Mode.reset, .boot] → Rest c 0 →
      (s.mot.everOn = true → s.enabled 0 = true →
        exec (.axisStatus c) s = .next (done c 0x0220 (s.axis c.unit).shownStat s) ∧
        exec (.encoderStatus c) s = .next (done c 0x0221 (s.axis c.unit).shownEnc s)) ∧
      (s.mot.everOn = false →
        exec (.axisStatus c) s = .next (done c 0x0220 ((s.axis c.unit).ovr / 100 % 256 * 2 ^ 120) s) ∧
        exec (.encoderStatus c) s = .next (done c 0x0221 0 s)) ∧
      (s.mot.everOn = true → s.enabled 0 = false → (s.axis c.unit).queue.length < 256 →
        (∃ r, exec (.axisStatus c) s = .next (done c 0x0220 r s) ∧ r % 2 ^ 64 = ((s.axis c.unit).p % 2 ^ 64).toNat ∧
          r / 2 ^ 96 % 256 = (s.axis c.unit).queue.length ∧
          r.testBit 112 = (s.axis c.unit).referenced ∧ r.testBit 113 = (s.axis c.unit).lim.soft) ∧
        (∃ r, exec (.encoderStatus c) s = .next (done c 0x0221 r s) ∧
          r % 2 ^ 64 = (actualPos (s.axis c.unit) (s.chan c.unit) % 2 ^ 64).toNat)))

/-- MOVE: a move that fits joins its axis's queue and is ACCEPTED, one with RELATIVE at its distance from the end of the queue; a
full queue refuses it with 0x13; with REPLACE and moves queued it waits for the next tick, where one with RELATIVE takes its
target (R160, R162, R164, R168). STOP, OVERRIDE: every axis of the mask takes the stop or the override at its next tick; STOP
is ACCEPTED, OVERRIDE completes at that tick (R171, R172, R175, R185). -/
def Obligations.MovesStopsAndOverrides : Prop :=
  (∀ (c : Cmd) (s : State), NamesAxis c s [.run, .hold] → Rest c 46 → Arg.u c 44 2 < 4 → Ready s c.unit →
      let x := s.axis c.unit
      let ch := s.chan c.unit
      let last := match x.queue.getLast? with | some m => m.target | none => x.p
      let t := if (Arg.u c 44 2).testBit 0 then last + Arg.s c 0 8 else Arg.s c 0 8
      (x.lim.refReq = true → x.referenced = true) → ParamsFit x (Arg.s c 8 8) (Arg.s c 16 8) (Arg.s c 24 8) (Arg.s c 32 8) →
      ((Arg.u c 44 2).testBit 1 = false ∨ x.queue = [] → TargetFits x ch last t →
        Mot.tooLong x (last, 0, 0) (entryMove c s (Arg.s c 0 8)) t = false → x.queue.length < 64 → s.hbd.compls.length < 61440 →
        exec (.move c) s = .next (accepted c 0x0201 (axisSet s c.unit
          { x with queue := x.queue ++ [entryMove c s t], relook := true }))) ∧
      ((Arg.u c 44 2).testBit 1 = false → TargetFits x ch last t →
        Mot.tooLong x (last, 0, 0) (entryMove c s (Arg.s c 0 8)) t = false → 64 ≤ x.queue.length →
        exec (.move c) s = .next (answer c 0x0201 .refused 0x13 0 false s)) ∧
      ((Arg.u c 44 2).testBit 1 = true → (Arg.u c 44 2).testBit 0 = false → x.queue ≠ [] → TargetFits x ch x.p t →
        exec (.move c) s = .next (axisSet s c.unit
          { x with tickQ := x.tickQ ++ [(s.tm.frame, .replace (entryMove c s t) false)] })) ∧
      ((Arg.u c 44 2).testBit 1 = true → (Arg.u c 44 2).testBit 0 = true → x.queue ≠ [] → -2 ^ 63 ≤ x.p → x.p < 2 ^ 63 →
        exec (.move c) s = .next (axisSet s c.unit
          { x with tickQ := x.tickQ ++ [(s.tm.frame, .replace (entryMove c s (Arg.s c 0 8)) true)] }))) ∧
  (∀ (c : Cmd) (s : State), Names c s 1 → c.unit = 0 → s.md.mode ∈ [Mode.commission, .run, .hold, .degraded] → Rest c 9 →
    s.enabled 0 = true → s.hbd.compls.length < 61440 → Arg.u c 8 1 < 2 →
    ∃ ax, exec (.stop c) s = .next (accepted c 0x0202 { s with mot := { s.mot with
        axes := ax, stops := s.mot.stops ++ [{ org := c.origin 0x0202, mask := Arg.u c 0 8, app := s.tm.frame }] } }) ∧
      ∀ a, Tab.get ax a =
        if (Arg.u c 0 8).testBit a then { s.axis a with tickQ := (s.axis a).tickQ ++
          [(s.tm.frame, if Arg.u c 8 1 = 0 then .stop .ramp 1 else .stop .quick 2)] }
        else s.axis a) ∧
  (∀ (c : Cmd) (s : State), Names c s 1 → c.unit = 0 → s.permMode ∈ [Mode.run, .hold] → Rest c 10 → s.enabled 0 = true →
    Arg.u c 8 2 ≤ 20000 →
    (∀ a < 64, (Arg.u c 0 8).testBit a = true → Mot.anyTooLong { s.axis a with ovr := Arg.u c 8 2 }
      (if (s.axis a).running.isSome then ((s.axis a).p, (s.axis a).v, (s.axis a).a) else ((s.axis a).p, 0, 0))
      (s.axis a).queue = false) →
    ∃ ax, exec (.override c) s = .next { s with mot := { s.mot with
        axes := ax, ovrs := s.mot.ovrs ++ [{ org := c.origin 0x0203, app := s.tm.frame }] } } ∧
      ∀ a, Tab.get ax a =
        if (Arg.u c 0 8).testBit a then { s.axis a with tickQ := (s.axis a).tickQ ++ [(s.tm.frame, .override (Arg.u c 8 2))] }
        else s.axis a)

/-- FOLLOW, JOG, HOME: on a ready axis at standstill with nothing queued, parameters in range are taken and wait for the next tick
(R177, R178, R182, R208). FOLLOW_MASTER_LOST, AXIS_FE_FAULT, HOME_CHATTER_WINDOW_END: at a servo tick a link without samples
for LOSS_CYCLES cycles ends with cause 7, and its axis quick-stops; an axis over its following-error limit for FE_TICKS ticks
is faulted and stops at its next tick; once the chatter window and the debounce behind it have passed, its edges, those that
still wait for a tick with them, are judged (R181, R203, R209, R212). -/
def Obligations.FollowJogHomeAndSupervision : Prop :=
  (∀ (c : Cmd) (s : State), NamesAxis c s [.run] → Rest c 16 → Ready s c.unit → (s.axis c.unit).standstill = true →
    (s.axis c.unit).queue = [] → ((s.axis c.unit).lim.refReq = true → (s.axis c.unit).referenced = true) →
    locDefined (Arg.u c 0 4) = true → locDie (Arg.u c 0 4) = 1 → locRegion (Arg.u c 0 4) = 1 →
    (locNode (Arg.u c 0 4) = s.nodeId → (s.axis (locUnit (Arg.u c 0 4))).lim.given = true) →
    (locNode (Arg.u c 0 4) ≠ s.nodeId →
      (Tab.get s.mot.remote (locNode (Arg.u c 0 4) * 64 + locUnit (Arg.u c 0 4))).published = true) →
    Mot.chainBad s c.unit 4 (Arg.u c 0 4) = false →
    Mot.depthBelow s 4 c.unit + Mot.depthAbove Mot.linkOf s 4 (Arg.u c 0 4) ≤ 4 →
    Arg.s c 4 4 ≠ 0 → 1 ≤ Arg.u c 8 4 → Arg.u c 8 4 ≤ 2 ^ 31 → Arg.u c 12 1 < 2 → 1 ≤ Arg.u c 13 1 → Arg.u c 13 1 ≤ 8 →
    1 ≤ Arg.u c 14 2 → Arg.u c 14 2 ≤ 60000 →
    exec (.follow c) s = .next (axisSet s c.unit { s.axis c.unit with tickQ := (s.axis c.unit).tickQ ++ [(s.tm.frame, .follow
      { org := c.origin 0x0204, master := Arg.u c 0 4, num := Arg.s c 4 4, den := Arg.u c 8 4
        actual := decide (Arg.u c 12 1 = 1), lossCycles := Arg.u c 13 1, syncMs := Arg.u c 14 2 })] })) ∧
  (∀ (c : Cmd) (s : State), NamesAxis c s [.commission] → Rest c 24 → Ready s c.unit → (s.axis c.unit).standstill = true →
    (s.axis c.unit).queue = [] → Mot.otherMoves s c.unit = false →
    let x := s.axis c.unit
    let v := Arg.s c 0 8
    let t := if x.lim.soft then (if 0 < v then x.lim.pos else x.lim.neg) else if 0 < v then x.p + 2 ^ 62 else x.p - 2 ^ 62
    let m : Move := { org := c.origin 0x0205, target := t, vel := v.natAbs, acc := Arg.s c 8 8, dec := x.stopsOf.folDec
                      jerk := Arg.s c 16 8, jerkD := x.stopsOf.folJerk, app := s.tm.frame, jog := true, stopAt := t }
    ParamsFit x v.natAbs (Arg.s c 8 8) (min x.stopsOf.folDec x.lim.acc) (Arg.s c 16 8) →
    TargetFits { x with lim := { x.lim with soft := false } } (s.chan c.unit) x.p t →
    Mot.tooLong x (x.p, 0, 0) { m with target := 0, stopAt := 0 } t = false →
    exec (.jog c) s = .next (axisSet s c.unit { x with tickQ := x.tickQ ++ [(s.tm.frame, .jog m)] })) ∧
  (∀ (c : Cmd) (s : State), NamesAxis c s [.commission, .run] → Arg.u c 1 1 < 2 → Arg.u c 3 1 = 0 →
    s.enabled 0 = true → (s.axis c.unit).homing = none → (s.axis c.unit).barred = false → (s.axis c.unit).follower = false →
    (s.axis c.unit).standstill = true → (s.axis c.unit).queue = [] →
    (s.permMode = .commission → Mot.otherMoves s c.unit = false) →
    let l := (s.axis c.unit).lim
    Arg.u c 0 1 ≤ 3 → 1 ≤ Arg.u c 2 1 → Arg.u c 2 1 ≤ 32 → 100 ≤ Arg.u c 4 2 → (Arg.u c 0 1 % 2 = 1 ↔ Arg.u c 6 2 ≠ 0) →
    0 < Arg.s c 16 8 → Arg.s c 16 8 ≤ Arg.s c 8 8 → Arg.s c 8 8 ≤ l.vel → 0 < Arg.s c 24 8 → Arg.s c 24 8 ≤ l.acc →
    0 < Arg.s c 32 8 → Arg.s c 32 8 ≤ l.jerk →
    exec (.home c) s = .next (axisSet s c.unit { s.axis c.unit with
      homing := some { org := c.origin 0x0206, method := Arg.u c 0 1, neg := (Arg.u c 1 1).testBit 0
                       chatterCount := Arg.u c 2 1, chatterUs := Arg.u c 4 2, idxMax := Arg.u c 6 2
                       vSearch := Arg.s c 8 8, vApproach := Arg.s c 16 8, acc := Arg.s c 24 8, jerk := Arg.s c 32 8
                       homePos := Arg.s c 40 8 }
      tickQ := (s.axis c.unit).tickQ ++ [(s.tm.frame, .home)] })) ∧
  (∀ (s : State) (a : Fin 64) (f : Follow), (s.axis a.val).follow = some f → f.engaged = true → f.lossCycles ≤ f.missed →
    s.mot.lastTick = s.tm.frame + 1 → f.org.sq < 32 → (s.axis a.val).stop = none → (s.axis a.val).standstill = false →
    let q := (s.axis a.val).stopsOf
    Runs (.followMasterLost a) s fun t =>
      (t.axis a.val).follow = none ∧ (t.axis a.val).stop = some ⟨.quick, 7, q.qsDec, q.qsJerk⟩ ∧
      t.log = (recorded false Event.followMasterLost (mkSrc 1 1 a.val) 0 0 s).log ∧ t.tm = s.tm ∧ t.md = s.md ∧
      { org := f.org, result := moveResult (s.axis a.val).p 0 2 7 0 } ∈ t.hbd.compls) ∧
  (∀ (s : State) (a : Fin 64), (s.axis a.val).follow = none ∨ s.mot.lastTick ≠ s.tm.frame + 1 →
    exec (.followMasterLost a) s = .next s) ∧
  (∀ (s : State) (a : Fin 64), (s.axis a.val).io.feLimit ≠ 0 → (s.axis a.val).io.feTicks ≤ (s.axis a.val).feRun →
    (s.axis a.val).faulted = false →
    exec (.axisFeFault a) s = .next (recorded false Event.axisFeFault (mkSrc 1 1 a.val)
      (Ops.p32 (wholeCounts (s.axis a.val).fe)) 0
      (axisSet s a.val { s.axis a.val with
        faulted := true, tickQ := (s.axis a.val).tickQ ++ [(s.tm.frame, .stop .ramp 10)] }))) ∧
  (∀ (s : State) (a : Fin 64), (s.axis a.val).feRun < (s.axis a.val).io.feTicks →
    exec (.axisFeFault a) s = .next s) ∧
  (∀ (s : State) (a : Fin 64) (h : Homing) (e : Edge), (s.axis a.val).homing = some h → h.t1 = some e →
    h.phase = .window → h.judged = false →
    e.ctime + (h.chatterUs + (s.axis a.val).io.debounceUs) * 256000 ≤ s.tm.control →
    let n := h.edges + ((s.axis a.val).edges.filter (Home.inWindow h)).length
    exec (.homeChatterWindowEnd a) s = .next (axisSet s a.val { s.axis a.val with
      homing := some (if h.chatterCount < n then { h with outcome := 2, phase := .failing } else { h with judged := true }) })) ∧
  (∀ (s : State) (a : Fin 64) (h : Homing) (e : Edge), (s.axis a.val).homing = some h → h.t1 = some e →
    s.tm.control < e.ctime + (h.chatterUs + (s.axis a.val).io.debounceUs) * 256000 →
    exec (.homeChatterWindowEnd a) s = .next (axisSet s a.val (s.axis a.val)))

/-- SERVO_TICK: at a boundary that is no servo tick, or at one already evaluated, nothing happens; with MOTION disabled it only
notes the tick; in a live mode an axis whose profile goes on and that nothing else concerns takes the profile's position,
velocity and acceleration of the tick (R149, R150, R155, R185). -/
def Obligations.ServoTickFollowsTheProfile : Prop :=
  (∀ s : State, s.tm.due (2 ^ (s.mot.cfg.toNat % 4)) 0 = false ∨ s.mot.lastTick = s.tm.frame + 1 →
    exec .servoTick s = .next s) ∧
  (∀ s : State, s.tm.due (2 ^ (s.mot.cfg.toNat % 4)) 0 = true → s.mot.lastTick ≠ s.tm.frame + 1 → s.enabled 0 = false →
    exec .servoTick s = .next { s with mot := { s.mot with lastTick := s.tm.frame + 1 } }) ∧
  (∀ (s : State) (a : Nat) (m : Move) (pr : Profile) (rest : List Move), Tab.wf s.mot.axes = true →
    s.tm.due (2 ^ (s.mot.cfg.toNat % 4)) 0 = true → s.mot.lastTick ≠ s.tm.frame + 1 → s.enabled 0 = true →
    s.md.mode ∈ [Mode.commission, .run, .hold, .degraded] → (s.axis a).missNow = false → (s.axis a).prof = some pr →
    Plan.ended pr s.tm.control = false → (s.axis a).queue = m :: rest → m.started = true → (s.axis a).stop = none →
    (s.axis a).follow = none → (s.axis a).homing = none → (s.axis a).tickQ = [] → (s.axis a).edges = [] →
    (s.axis a).relook = false →
    Runs .servoTick s fun t =>
      ((t.axis a).p, (t.axis a).v, (t.axis a).a) =
        Plan.sample pr s.tm.control ((s.axis a).p, (s.axis a).v, (s.axis a).a) ∧
      (t.axis a).prof = some pr ∧ (t.axis a).queue = m :: rest ∧ t.mot.lastTick = s.tm.frame + 1 ∧ t.tm = s.tm ∧
      t.md = s.md ∧ t.deck = s.deck)

/-- ENCODER_EDGE, INDEX_EDGE, SWITCH_EDGE, SWITCH_EDGE_QUALIFIED: a level of A, B or the index counts once it has held for
ENC_FILT samples; a quadrature change counts one up or down by its order and the axis's sense, both lines at once are an
error; the first gated active index edge of a frame is captured, later ones are counted; a switch edge is a candidate until
its level has held for DEBOUNCE_US, and then qualifies, at the latest as the next edge comes (R97, R199, R200, R204 to R206).
ACCUMULATOR_STROBE: at the lattice point at which control time reaches a multiple of 20 ns, once, and at no other, every
channel with driven step outputs adds its increment to its phase; a carry is one step of the channel's direction, or is lost
while an earlier one is still held (R57, R192 to R194, R196). -/
def Obligations.EdgesAndStrobes : Prop :=
  (∀ (s : State) (a : Fin 64) (la lb : Bool) (ha hb : Nat), (s.axis a.val).io.encFilt ≤ ha → (s.axis a.val).io.encFilt ≤ hb →
    la ≠ (s.chan a.val).encA → lb ≠ (s.chan a.val).encB →
    exec (.encoderEdge a la lb ha hb) s = .next (chanSet s a.val { s.chan a.val with
      encA := la, encB := lb, errs := (s.chan a.val).errs + 1 })) ∧
  (∀ (s : State) (a : Fin 64) (la lb : Bool) (ha hb : Nat),
    ha < (s.axis a.val).io.encFilt ∨ la = (s.chan a.val).encA → hb < (s.axis a.val).io.encFilt ∨ lb = (s.chan a.val).encB →
    exec (.encoderEdge a la lb ha hb) s = .next s) ∧
  (∀ (s : State) (a : Fin 64) (lx ly : Bool) (ha hb : Nat),
    let la := if (s.axis a.val).io.encFilt ≤ ha then lx else (s.chan a.val).encA
    let lb := if (s.axis a.val).io.encFilt ≤ hb then ly else (s.chan a.val).encB
    (la ≠ (s.chan a.val).encA ∧ lb = (s.chan a.val).encB) ∨ (la = (s.chan a.val).encA ∧ lb ≠ (s.chan a.val).encB) →
    let up := xor (if lb = (s.chan a.val).encB then decide (la ≠ lb) else decide (la = lb)) ((s.axis a.val).io.flags.testBit 3)
    let n := (s.chan a.val).c
    exec (.encoderEdge a lx ly ha hb) s = .next (Ops.countDie 3 0 17 1 (chanSet s a.val { s.chan a.val with
      encA := la, encB := lb, c := (if up then n + 1 else n + 2 ^ 32 - 1) % 2 ^ 32 }))) ∧
  (∀ (s : State) (a : Fin 64) (l : Bool) (h : Nat) (t : Instant), (s.axis a.val).io.encFilt ≤ h → l ≠ (s.chan a.val).idx →
    l = !(s.axis a.val).io.flags.testBit 4 →
    ((s.axis a.val).io.flags.testBit 5 = false ∨ (s.chan a.val).encA = (s.axis a.val).io.idxGate.testBit 0 ∧
      (s.chan a.val).encB = (s.axis a.val).io.idxGate.testBit 1) →
    let ch := s.chan a.val
    exec (.indexEdge a l h t) s = .next (Ops.countDie 3 0 18 1 (chanSet s a.val
      (if ch.cap.isNone then { ch with idx := l, cap := some (edgeAt s ch true t) }
        else { ch with idx := l, capMore := ch.capMore + 1 })))) ∧
  (∀ (s : State) (a : Fin 64) (l : Bool) (h : Nat) (t : Instant), (s.axis a.val).io.encFilt ≤ h →
    l = (s.chan a.val).idx ∨ l = (s.axis a.val).io.flags.testBit 4 →
    exec (.indexEdge a l h t) s = .next (chanSet s a.val { s.chan a.val with idx := l })) ∧
  (∀ (s : State) (a : Fin 64) (l : Bool) (h : Nat) (t : Instant), h < (s.axis a.val).io.encFilt →
    exec (.indexEdge a l h t) s = .next s) ∧
  (∀ (s : State) (a : Fin 64) (w : Switch) (l : Bool) (t : Instant), l ≠ ((s.chan a.val).input w).raw →
    let ch := s.chan a.val
    let e := edgeAt s ch (xor l (lowSwitch (s.axis a.val) w)) t
    (∀ q, (ch.input w).cand = some q → e.ctime - 1 < q.ctime + (s.axis a.val).io.debounceUs * 256000) →
    exec (.switchEdge a w l t) s = .next (Ops.countDie 3 0 18 1 (chanSet s a.val
      (ch.setInput { ch.input w with raw := l, cand := some e } w)))) ∧
  (∀ (s : State) (a : Fin 64) (w : Switch) (l : Bool) (t : Instant) (q : Edge), l ≠ ((s.chan a.val).input w).raw →
    let ch := s.chan a.val
    let e := edgeAt s ch (xor l (lowSwitch (s.axis a.val) w)) t
    (ch.input w).cand = some q → q.ctime + (s.axis a.val).io.debounceUs * 256000 ≤ e.ctime - 1 →
    exec (.switchEdge a w l t) s = .next (Ops.countDie 3 0 18 1 (chanSet s a.val
      { ch.setInput { raw := l, active := q.level, cand := some e } w with qual := ch.qual ++ [(w, q)] }))) ∧
  (∀ (s : State) (a : Fin 64) (w : Switch) (t : Instant),
    exec (.switchEdge a w ((s.chan a.val).input w).raw t) s = .next s) ∧
  (∀ (s : State) (a : Fin 64) (w : Switch) (e : Edge) (t : Instant), ((s.chan a.val).input w).cand = some e →
    e.ctime + (s.axis a.val).io.debounceUs * 256000 ≤ (s.tm.edge t : Int) - s.tm.steps →
    let ch := (s.chan a.val).setInput { (s.chan a.val).input w with cand := none, active := e.level } w
    exec (.switchEdgeQualified a w t) s = .next (chanSet s a.val { ch with qual := ch.qual ++ [(w, e)] })) ∧
  (∀ (s : State) (a : Fin 64) (w : Switch) (e : Edge) (t : Instant), ((s.chan a.val).input w).cand = some e →
    (s.tm.edge t : Int) - s.tm.steps < e.ctime + (s.axis a.val).io.debounceUs * 256000 →
    exec (.switchEdgeQualified a w t) s = .next (chanSet s a.val (s.chan a.val))) ∧
  (∀ (s : State) (i : Instant), Tab.wf s.mot.chans = true → s.tm.lock = true →
    s.tm.strobeAt ((i.lp : Int) - 1) ≠ s.tm.strobeAt i.lp → s.tm.strobe < s.tm.strobeAt i.lp →
    ∃ ch k, exec (.accumulatorStrobe i) s = .next { s with
        tm := { s.tm with strobe := s.tm.strobeAt i.lp }
        mot := { s.mot with chans := ch }, log := { s.log with counters := k } } ∧
      ∀ a, let x := s.chan a
        let on := s.stepsOn = true ∧ s.fidDown 0 a = false
        let sum := x.phi + (if on ∧ (s.axis a).io.output = 1 then x.inc else 0)
        (Tab.get ch a).phi = sum % 2 ^ 64 ∧
        (Tab.get ch a).n = (if sum < 2 ^ 64 ∨ x.held.isSome = true then x.n else Bits.fit 64 (if x.neg then x.n - 1 else x.n + 1)) ∧
        (Tab.get ch a).lost = (if 2 ^ 64 ≤ sum ∧ x.held.isSome = true then x.lost + 1 else x.lost) ∧
        (Tab.get ch a).neg = x.neg ∧ (Tab.get ch a).inc = x.inc ∧ (Tab.get ch a).c = x.c) ∧
  (∀ (s : State) (i : Instant), s.tm.lock = false ∨ s.tm.strobeAt ((i.lp : Int) - 1) = s.tm.strobeAt i.lp ∨
    s.tm.strobeAt i.lp ≤ s.tm.strobe → exec (.accumulatorStrobe i) s = .next s)

/-! The Loop region. -/

namespace Sys2Proof.Says

/-- `s` with loop unit `u` replaced. -/
def slotSet (s : State) (u : Nat) (x : Slot) : State := { s with loop := { s.loop with slots := Tab.set s.loop.slots u x } }

/-- A signed 24-bit argument field (Table 6-8). -/
def m24 (c : Cmd) (off : Nat) : Int := Arg.s c off 3

/-- `s` with a change put into the shadow of the unit the entry names, where it waits for the unit's boundary (R221,
R250). -/
def waits (c : Cmd) (op : Nat) (o : SlotOp) (s : State) : State :=
  slotSet s c.unit { s.slot c.unit with ops := (s.slot c.unit).ops ++ [(c.origin op, o)] }

/-- As `waits` for a configuration command, which takes one draw of the free values (the model's own). -/
def shadowed (c : Cmd) (op : Nat) (o : SlotOp) (s : State) : State := { waits c op o s with free := s.free + 1 }

/-- The set that a LOOP_STAGE entry gives stage `k` of a kind, for parameters in range and unused bytes zero (Table 6-8). -/
abbrev stageSet (c : Cmd) (u k : Nat) (old : CoefSet) (kind : Nat) (g : CoefSet) : Prop :=
  (kind = 0 ∧ Rest c 26 ∧ Arg.u c 25 1 < 2 ∧ m24 c 19 ≤ m24 c 22 ∧ (Arg.u c 25 1 = 0 ∨ k = 0) ∧
    g = { given := true, c := [m24 c 4, m24 c 7, m24 c 10, m24 c 13, m24 c 16, m24 c 19, m24 c 22], flag := Arg.u c 25 1 }) ∨
  (kind = 1 ∧ Rest c 19 ∧ g = { given := true, c := [m24 c 4, m24 c 7, m24 c 10, m24 c 13, m24 c 16] }) ∨
  (kind = 2 ∧ Rest c 13 ∧ g = { given := true, c := [m24 c 4, m24 c 7, m24 c 10] }) ∨
  (kind = 3 ∧ Rest c 8 ∧ 0 ≤ m24 c 4 ∧ Arg.u c 7 1 ≤ 1 ∧ g = { given := true, c := [m24 c 4], flag := Arg.u c 7 1 }) ∨
  (kind = 4 ∧ Rest c 10 ∧ m24 c 4 ≤ m24 c 7 ∧ g = { given := true, c := [m24 c 4, m24 c 7] }) ∨
  (kind = 5 ∧ Rest c 10 ∧ 0 ≤ m24 c 4 ∧ 0 ≤ m24 c 7 ∧ g = { given := true, c := [m24 c 4, m24 c 7] }) ∨
  (kind = 6 ∧ Rest c 13 ∧ g = { given := true, c := [m24 c 4, m24 c 7, m24 c 10] }) ∨
  (kind = 7 ∧ Rest c 6 ∧ Arg.u c 4 1 ∈ [0, 2, 3] ∧ 2 ≤ Arg.u c 5 1 ∧ Arg.u c 5 1 ≤ 16 ∧
    g = { given := true, flag := Arg.u c 4 1, npts := Arg.u c 5 1, bp := old.bp, gain := old.gain }) ∨
  (kind = 8 ∧ Rest c 15 ∧ locDefined (Arg.u c 10 4) = true ∧ g = { given := true, c := [m24 c 4, m24 c 7] }) ∨
  (kind = 9 ∧ Rest c 13 ∧
    (Arg.u c 10 1 = 0 ∧ Arg.u c 11 2 = 0 ∨ Arg.u c 10 1 = 1 ∧ Arg.u c 11 2 < 32 ∨
      Arg.u c 10 1 = 2 ∧ u < 768 ∧ Arg.u c 11 2 < 64 ∨ Arg.u c 10 1 = 3 ∧ Arg.u c 11 2 < 256 ∨
      Arg.u c 10 1 = 4 ∧ Arg.u c 11 2 < 1024) ∧
    g = { given := true, c := [m24 c 4, m24 c 7], dest := Arg.u c 10 1, index := Arg.u c 11 2 })

/-- Whether the boundary is one of a loop unit's: of the servo tick for a servo loop, of its rate and phase for a slot
(R219). -/
abbrev unitDue (s : State) (u : Nat) : Prop :=
  if 768 ≤ u then s.tm.due (2 ^ (s.mot.cfg.toNat % 4)) 0 = true
  else s.tm.due (2 ^ (s.slot u).cfg.rate) (s.slot u).cfg.phase = true

end Sys2Proof.Says

/-- LOOP_SLOT: in CONFIGURE with LOOP disabled the fields of Table 6-7 go into the unit's shadow when its rate, phase, stage
count, loss count and oscillation detector are in range, every source's kind is allowed on its input and at most one is
remote; the command completes at the unit's boundary, where the shadow is copied (R219, R221, R222, R250, R251). LOOP_STAGE,
LOOP_TABLE: in CONFIGURE with LOOP disabled, a set in range becomes set 0 or 1 of the shadow's stage; a change of kind or
exponent drops set 1; up to seven breakpoints and gains of a gain schedule are put in place; the command completes at the
unit's boundary (R221, R238, R250, R252, R253). -/
def Obligations.LoopUnitsAreConfigured : Prop :=
  (∀ (c : Cmd) (s : State), Names c s 2 → c.unit < 832 → s.md.mode = .configure → s.enabled 1 = false →
      Arg.u c 1 1 < 4 → Arg.u c 35 1 / 4 % 32 = 0 → Arg.u c 37 1 = 0 → Rest c 45 → locDefined (Arg.u c 24 4) = true →
      (if 768 ≤ c.unit then Arg.u c 0 1 = 15 ∧ Arg.u c 2 2 = 0 else Arg.u c 0 1 ≤ 10 ∧ Arg.u c 2 2 < 2 ^ Arg.u c 0 1) →
      1 ≤ Arg.u c 4 1 → Arg.u c 4 1 ≤ 8 → 1 ≤ Arg.u c 31 1 → Arg.u c 31 1 ≤ 8 → 1 ≤ Arg.u c 36 1 → Arg.u c 36 1 ≤ 32 →
      1 ≤ Arg.u c 38 2 → Arg.u c 38 2 ≤ Arg.u c 40 2 → 0 ≤ m24 c 42 →
      (∀ j < 4, Loop.kindAllowed c.unit j (Arg.u c (8 + 4 * j) 4) = true) →
      ((List.range 4).filter fun j => decide (Arg.u c (8 + 4 * j) 4 / 2 ^ 28 = 4)).length ≤ 1 →
      (Arg.u c 24 4 = 0 ∨ ∃ j < 4, Arg.u c (8 + 4 * j) 4 / 2 ^ 28 = 4) →
      exec (.loopSlot c) s = .next (shadowed c 0x0120 (.slot
        { inUse := (Arg.u c 1 1).testBit 0, rate := Arg.u c 0 1, failSafe := (Arg.u c 1 1).testBit 1
          phase := Arg.u c 2 2, nstages := Arg.u c 4 1, x0 := Arg.s c 5 1, x2 := Arg.s c 6 1, x3 := Arg.s c 7 1
          src := [Arg.u c 8 4, Arg.u c 12 4, Arg.u c 16 4, Arg.u c 20 4], remote := Arg.u c 24 4
          loss := Arg.u c 31 1, safe := m24 c 32, oscAction := Arg.u c 35 1 % 4
          oscEn := (Arg.u c 35 1).testBit 7, oscN := Arg.u c 36 1, hpMin := Arg.u c 38 2, hpMax := Arg.u c 40 2
          oscAmp := m24 c 42 } (m24 c 28)) s)) ∧
  (∀ (c : Cmd) (s : State) (g : CoefSet), Names c s 2 → c.unit < 832 → s.md.mode = .configure → s.enabled 1 = false →
    Arg.u c 0 1 < 8 → Arg.u c 2 1 < 2 →
    let old := (Loop.shadow (s.slot c.unit)).stage (Arg.u c 0 1)
    let kind := Arg.u c 1 1
    let same : Bool := decide (kind = old.kind ∧ Arg.s c 3 1 = old.exp)
    stageSet c c.unit (Arg.u c 0 1) (if Arg.u c 2 1 = 1 then old.set1 else old.set0) kind g →
    (Arg.u c 2 1 = 1 → old.set0.given = true → same = true) →
    exec (.loopStage c) s = .next (shadowed c 0x0121 (.stage (Arg.u c 0 1)
      { kind := kind, exp := Arg.s c 3 1, link := if kind = 8 then Arg.u c 10 4 else 0
        ec := if kind = 8 then Arg.s c 14 1 else 0
        set0 := if Arg.u c 2 1 = 0 then g else old.set0
        set1 := if Arg.u c 2 1 = 1 then g else if same then old.set1 else {} }) s)) ∧
  (∀ (c : Cmd) (s : State), Names c s 2 → c.unit < 832 → s.md.mode = .configure → s.enabled 1 = false →
    Arg.u c 0 1 < 8 → Arg.u c 1 1 < 2 → 1 ≤ Arg.u c 3 1 → Arg.u c 3 1 ≤ 7 → Arg.u c 2 1 + Arg.u c 3 1 ≤ 16 →
    Rest c (4 + 6 * Arg.u c 3 1) →
    let st := (Loop.shadow (s.slot c.unit)).stage (Arg.u c 0 1)
    let put (g : CoefSet) : CoefSet := (List.range (Arg.u c 3 1)).foldl (fun (g : CoefSet) j =>
      { g with bp := Tab.set g.bp (Arg.u c 2 1 + j) (m24 c (4 + 6 * j)), gain := Tab.set g.gain (Arg.u c 2 1 + j) (m24 c (7 + 6 * j)) }) g
    st.kind = 7 →
    exec (.loopTable c) s = .next (shadowed c 0x0122 (.stage (Arg.u c 0 1)
      (if Arg.u c 1 1 = 1 then { st with set1 := put st.set1 } else { st with set0 := put st.set0 })) s))

/-- LOOP_SETPOINT, LOOP_MODE, LOOP_SET, LOOP_PRESET, LOOP_OSC_CLEAR: on a unit in use of an enabled LOOP the setpoint of a unit
that takes it from the command changes at once; the others wait for the unit's boundary (R221, R237, R238, R243, R250, R254).
LOOP_STATUS changes nothing and answers, of a unit that is evaluated, what it stood at when it took its last boundary; of any
other the output, its exponent, the error, the status bits and the counts as they stand (R255). -/
def Obligations.LoopCommandsAndStatus : Prop :=
  (∀ (c : Cmd) (s : State), s.md.mode ∈ [Mode.commission, .run, .hold, .degraded, .safeStop] → s.enabled 1 = true →
      (s.slot c.unit).cfg.inUse = true →
      (Names c s 2 → c.unit < 832 → Rest c 3 → (s.slot c.unit).cfg.src.getD 0 0 / 2 ^ 28 % 16 = 1 →
        exec (.loopSetpoint c) s = .next (done c 0x0301 0 (slotSet s c.unit { s.slot c.unit with setpoint := m24 c 0 }))) ∧
      (Names c s 2 → c.unit < 832 → Arg.u c 0 1 < 2 → Rest c 4 →
        exec (.loopMode c) s = .next (waits c 0x0302 (.mode (decide (Arg.u c 0 1 = 1)) (m24 c 1)) s)) ∧
      (Names c s 2 → c.unit < 832 → Arg.u c 0 1 < 2 → Rest c 1 →
        exec (.loopSet c) s = .next (waits c 0x0303 (.set (decide (Arg.u c 0 1 = 1))) s)) ∧
      (c.flags = 1 → c.rsv3 = 0 → c.rsv12 = 0 → locDefined c.locN = true → locNode c.locN = s.nodeId → locDie c.locN = 1 →
        locRegion c.locN = 2 → c.unit < 832 → 1 ≤ locItem c.locN → Rest c 6 →
        ((s.slot c.unit).stage (locItem c.locN - 1)).kind = 0 →
        ((s.slot c.unit).stage (locItem c.locN - 1)).set0.given = true →
        exec (.loopPreset c) s = .next (waits c 0x0304 (.preset (locItem c.locN - 1) (Arg.s c 0 6)) s)) ∧
      (Names c s 2 → c.unit < 832 → Rest c 0 →
        exec (.loopOscClear c) s = .next (waits c 0x0305 .oscClear s))) ∧
  (∀ (c : Cmd) (s : State), Names c s 2 → c.unit < 832 → s.md.mode ∉ [Mode.reset, .boot] → Rest c 0 → s.enabled 1 = true →
      (s.md.mode ∈ [Mode.commission, .run, .hold, .degraded, .safeStop] → (s.slot c.unit).cfg.inUse = true →
        exec (.loopStatus c) s = .next (done c 0x0320 (s.slot c.unit).status s)) ∧
      (s.md.mode = .configure ∨ (s.slot c.unit).cfg.inUse = false → (s.slot c.unit).misses < 256 →
        (s.slot c.unit).missTotal < 2 ^ 16 →
        ∃ r, exec (.loopStatus c) s = .next (done c 0x0320 r s) ∧
          r % 2 ^ 24 = ((s.slot c.unit).out % 2 ^ 24).toNat ∧
          r / 2 ^ 24 % 2 ^ 8 = ((s.slot c.unit).outExp % 2 ^ 8).toNat ∧
          r / 2 ^ 32 % 2 ^ 24 = ((s.slot c.unit).e % 2 ^ 24).toNat ∧
          r.testBit 56 = (s.slot c.unit).stale ∧ r.testBit 57 = (s.slot c.unit).manual ∧
          r.testBit 59 = (s.slot c.unit).osc.latch ∧ r.testBit 60 = (s.slot c.unit).set1 ∧
          r.testBit 62 = (s.slot c.unit).inputStale ∧ r.testBit 63 = (s.slot c.unit).sat ∧
          r / 2 ^ 64 % 2 ^ 8 = (s.slot c.unit).misses ∧ r / 2 ^ 80 % 2 ^ 16 = (s.slot c.unit).missTotal ∧
          r / 2 ^ 96 = (s.slot c.unit).evals % 2 ^ 32))

/-- LOOP_SLOT_BOUNDARY, LOOP_INPUT_STALE: a unit whose boundary this is not, or that has taken it, is left alone; at its boundary
its shadow is copied and the commands that wait complete with the frame number, also while LOOP is disabled; a clear takes
away the latch unless its declaration falls at this very boundary; a unit in use then latches its inputs and evaluates for its
next boundary: its error is IN0 less IN1, a single limiter stage at the error's exponent clamps it, and MANUAL, or the safe
value when that is held, stands for the output; a remote source that misses LOSS_CYCLES cycles makes the input stale (R220,
R221, R223, R230, R236, R237, R246, R250). -/
def Obligations.LoopBoundaryEvaluates : Prop :=
  (∀ (s : State) (u : Fin 832), ¬ unitDue s u.val ∨ (s.slot u.val).lastB = s.tm.frame + 1 →
    exec (.loopSlotBoundary u) s = .next s) ∧
  (∀ (s : State) (u : Fin 832) (o : Origin) (g : LoopCfg) (v : Int), unitDue s u.val → (s.slot u.val).lastB ≠ s.tm.frame + 1 →
    s.enabled 1 = false → (s.slot u.val).ops = [(o, .slot g v)] → o.sq < 32 →
    Runs (.loopSlotBoundary u) s fun t =>
      t.slot u.val = { s.slot u.val with lastB := s.tm.frame + 1, ops := [], cfg := g, setpoint := v } ∧
      t.hbd.compls = s.hbd.compls ++ [{ org := o, result := s.tm.frame }] ∧ t.tm = s.tm ∧ t.md = s.md) ∧
  (∀ (s : State) (u : Fin 832) (o : Origin) (k : Nat) (g : Stage), unitDue s u.val → (s.slot u.val).lastB ≠ s.tm.frame + 1 →
    s.enabled 1 = false → (s.slot u.val).ops = [(o, .stage k g)] → o.sq < 32 →
    Runs (.loopSlotBoundary u) s fun t =>
      t.slot u.val = { s.slot u.val with
        lastB := s.tm.frame + 1, ops := [], stages := Tab.set (s.slot u.val).stages k g } ∧
      t.hbd.compls = s.hbd.compls ++ [{ org := o, result := s.tm.frame }] ∧ t.tm = s.tm ∧ t.md = s.md) ∧
  (∀ (s : State) (u : Fin 832) (lo hi : Int), s.enabled 1 = true → (s.slot u.val).cfg.inUse = true →
    s.md.mode ∈ [Mode.commission, .run, .hold, .degraded, .safeStop] → (s.slot u.val).lastB ≠ s.tm.frame + 1 →
    unitDue s u.val → (s.slot u.val).ops = [] →
    (s.slot u.val).cfg.src = [2 ^ 28, 0, 0, 0] → (s.slot u.val).cfg.nstages = 1 → (s.slot u.val).cfg.oscEn = false →
    (s.slot u.val).osc.latch = false → (s.slot u.val).failNow = false → (s.slot u.val).set1 = false →
    (s.slot u.val).set1Now = false → ((s.slot u.val).stage 0).kind = 4 →
    ((s.slot u.val).stage 0).exp = (s.slot u.val).cfg.x0 → ((s.slot u.val).stage 0).set0.c = [lo, hi] →
    -8388608 ≤ (s.slot u.val).setpoint → (s.slot u.val).setpoint ≤ 8388607 →
    Runs (.loopSlotBoundary u) s fun t =>
      (t.slot u.val).lastB = s.tm.frame + 1 ∧ (t.slot u.val).e = (s.slot u.val).setpoint ∧
      (t.slot u.val).next.map (·.e) = some (s.slot u.val).setpoint ∧
      (t.slot u.val).next.map (·.out) = some (if (s.slot u.val).safeHeld then (s.slot u.val).cfg.safe
        else if (s.slot u.val).manual then (s.slot u.val).man
        else min (max (s.slot u.val).setpoint lo) hi) ∧
      (t.slot u.val).out = (s.slot u.val).out ∧ (t.slot u.val).status = Loop.statusOf (t.slot u.val) ∧ t.tm = s.tm ∧
      t.md = s.md ∧ t.mot = s.mot ∧ t.deck = s.deck) ∧
  (∀ (s : State) (u : Fin 832) (o : Origin), s.enabled 1 = true → (s.slot u.val).cfg.inUse = true →
    s.md.mode ∈ [Mode.commission, .run, .hold, .degraded, .safeStop] → (s.slot u.val).lastB ≠ s.tm.frame + 1 →
    unitDue s u.val → (s.slot u.val).ops = [(o, .oscClear)] → o.sq < 32 →
    Runs (.loopSlotBoundary u) s fun t =>
      (t.slot u.val).ops = [] ∧ (t.slot u.val).osc.latch = (s.slot u.val).latchNow ∧
      t.hbd.compls = s.hbd.compls ++ [{ org := o, result := s.tm.frame }]) ∧
  (∀ (s : State) (u : Fin 832) (o : Origin) (v : Int), s.enabled 1 = true → (s.slot u.val).cfg.inUse = true →
    s.md.mode ∈ [Mode.commission, .run, .hold, .degraded, .safeStop] → (s.slot u.val).lastB ≠ s.tm.frame + 1 →
    unitDue s u.val → (s.slot u.val).ops = [(o, .mode true v)] → o.sq < 32 → (s.slot u.val).safeHeld = false →
    (s.slot u.val).failNow = false → (s.slot u.val).cfg.oscAction = 0 →
    Runs (.loopSlotBoundary u) s fun t =>
      (t.slot u.val).manual = true ∧ (t.slot u.val).man = v ∧ (t.slot u.val).next.map (·.out) = some v ∧
      t.hbd.compls = s.hbd.compls ++ [{ org := o, result := s.tm.frame }]) ∧
  (∀ (s : State) (u : Fin 832), (s.slot u.val).cfg.inUse = true → (s.slot u.val).inputStale = false →
    (∃ q ∈ (s.slot u.val).missing, (s.slot u.val).cfg.loss ≤ q.2) →
    exec (.loopInputStale u) s = .next (recorded false Event.loopInputStale (mkSrc 1 2 u.val) 0 0
      (let t := slotSet s u.val { s.slot u.val with inputStale := true }
       { t with loop := { t.loop with fInput := true } }))) ∧
  (∀ (s : State) (u : Fin 832), (∀ q ∈ (s.slot u.val).missing, q.2 < (s.slot u.val).cfg.loss) →
    exec (.loopInputStale u) s = .next s)

/-! Analog conversion. -/

namespace Sys2Proof.Says

/-- `s` with converter `c` replaced. -/
def convSet (s : State) (c : Nat) (x : Converter) : State := { s with acq := { s.acq with conv := Tab.set s.acq.conv c x } }

/-- The trigger fields at an offset of an ADC_CONVERTER entry are in range, and are the given trigger (Table 7-4). -/
abbrev TrigGiven (c : Cmd) (o : Nat) (t : TrigCfg) : Prop :=
  t = { src := Arg.u c o 1, rate := Arg.u c (o + 1) 1, phase := Arg.u c (o + 2) 2, pwm := Arg.u c (o + 4) 1
        edge := Arg.u c (o + 5) 1, delay := Arg.u c (o + 6) 2 } ∧
    t.src ≤ 2 ∧ t.rate ≤ 10 ∧ (t.rate = 0 ∨ t.src = 1) ∧ t.phase < 2 ^ t.rate ∧ t.pwm < 32 ∧ (t.pwm = 0 ∨ t.src = 2) ∧ t.edge ≤ 1

/-- The first `n` entries of an ADC_SEQUENCE entry (Table 7-5). -/
def entriesOf (c : Cmd) (n : Nat) : List SeqEntry :=
  (List.range n).map fun j =>
    { input := Arg.u c (4 + 2 * j) 1 % 4, shift := Arg.u c (4 + 2 * j) 1 / 4, avg := Arg.u c (5 + 2 * j) 1 + 1 }

/-- The lattice point, counted from lattice lock, of an instant of the present frame. -/
def pointOf (s : State) (t : Instant) : Nat := s.tm.lp + t.lp

/-- The first slot of an entry at a lattice point. -/
def firstSlot (inj : Bool) (e : SeqEntry) (p : Nat) : Conversion := { inj := inj, entry := 0, cfg := e, start := p }

/-- The entry in progress ends at a lattice point. -/
def endsAt (x : Converter) (p : Nat) : Bool :=
  x.cur.any fun v => decide (v.start + 400 = p) && decide (v.taken + 1 = v.cfg.avg)

/-- The entry in progress is the last of a run of its sequence. -/
def lastOf (x : Converter) (r : RunSeq) : Bool := x.cur.any fun v => decide (r.entries.length ≤ v.entry + 1)

/-- The discard of a trigger of converter `k`: its count, its bit and, where ADC_TRIG_OVR has not been recorded yet, the
event. -/
abbrev Discards (k : Nat) (inj : Bool) (x : Converter) (s u : State) : Prop :=
  u.conv k = (if inj then { x with injOvr := min (x.injOvr + 1) 65535 } else { x with regOvr := min (x.regOvr + 1) 65535 }) ∧
    u.acq.regOvr = (if inj then s.acq.regOvr else Bits.setBit s.acq.regOvr k true) ∧
    u.acq.injOvr = (if inj then Bits.setBit s.acq.injOvr k true else s.acq.injOvr) ∧
    (s.log.limits = [] → u.log.raised = (recorded true Event.adcTrigOvr (mkSrc 1 3 k) 1 (if inj then 1 else 0) s).log.raised) ∧
    u.acq.waiting = s.acq.waiting ∧ u.tm = s.tm ∧ u.md = s.md ∧ u.deck = s.deck

end Sys2Proof.Says

/-- ADC_CONVERTER, ADC_SEQUENCE, ADC_DMA: in CONFIGURE with ADC disabled, triggers, tolerance and channels, a sequence of entries,
and a result buffer in range are stored (R281 to R283, Tables 7-4, 7-5). ADC_STATUS answers what the converter showed at the
last boundary with ADC enabled and is refused with 0x30 otherwise. The conversion's part of a frame boundary latches that: the
results, the discarded triggers, the mismatches, the state and the last code (R284, Table 7-6). -/
def Obligations.AdcConfigurationAndStatus : Prop :=
  (∀ (c : Cmd) (s : State) (r i : TrigCfg), Names c s 3 → c.unit < 32 → s.md.mode = .configure → s.enabled 2 = false →
    Rest c 20 → TrigGiven c 0 r → TrigGiven c 8 i → 1 ≤ Arg.u c 17 1 → (Arg.u c 18 1 < 32 ∨ Arg.u c 18 1 = 255) →
    (Arg.u c 19 1 < 32 ∨ Arg.u c 19 1 = 255) →
    exec (.adcConverter c) s = .next (stored c 0x0130 (convSet s c.unit { s.conv c.unit with
      cfg := { (s.conv c.unit).cfg with reg := r, inj := i, tol := Arg.u c 16 1, run := Arg.u c 17 1
                                        dmaReg := Arg.u c 18 1, dmaInj := Arg.u c 19 1 } }))) ∧
  (∀ (c : Cmd) (s : State) (n : Nat), Names c s 3 → c.unit < 32 → s.md.mode = .configure → s.enabled 2 = false →
    Arg.u c 2 2 = 0 → Arg.u c 1 1 = n → 1 ≤ n → Rest c (4 + 2 * n) →
    (∀ j < n, Arg.u c (4 + 2 * j) 1 < 64 ∧ Arg.u c (4 + 2 * j) 1 / 4 ≤ 8) →
    (Arg.u c 0 1 = 0 → n ≤ 16 → exec (.adcSequence c) s = .next (stored c 0x0131 (convSet s c.unit { s.conv c.unit with
      cfg := { (s.conv c.unit).cfg with regSeq := entriesOf c n } }))) ∧
    (Arg.u c 0 1 = 1 → n ≤ 4 → exec (.adcSequence c) s = .next (stored c 0x0131 (convSet s c.unit { s.conv c.unit with
      cfg := { (s.conv c.unit).cfg with injSeq := entriesOf c n } })))) ∧
  (∀ (c : Cmd) (s : State), Names c s 3 → 96 ≤ c.unit → s.md.mode = .configure → s.enabled 2 = false → Arg.u c 5 3 = 0 →
    Rest c 12 → 8 ≤ Arg.u c 4 1 → Arg.u c 4 1 ≤ 24 →
    let f : Fdma := { Tab.get s.acq.fdma (c.unit - 96) with
      adc := true, base := Arg.u c 0 4, sizeLog2 := Arg.u c 4 1, countAddr := Arg.u c 8 4 }
    exec (.adcDma c) s = .next (stored c 0x0132 { s with
      acq := { s.acq with fdma := Tab.set s.acq.fdma (c.unit - 96) f } })) ∧
  (∀ (c : Cmd) (s : State), Names c s 3 → c.unit < 32 → s.md.mode ∉ [Mode.reset, .boot] → Rest c 0 → s.enabled 2 = true →
    exec (.adcStatus c) s = .next (done c 0x0420 (s.conv c.unit).shown s)) ∧
  (∀ (c : Cmd) (s : State), Names c s 3 → c.unit < 32 → s.md.mode ∉ [Mode.reset, .boot] → Rest c 0 → s.enabled 2 = false →
    exec (.adcStatus c) s = .next (answer c 0x0420 .refused 0x30 0 false s)) ∧
  (∀ (s : State) (k : Nat), s.enabled 2 = true →
    let x := (Adc.boundary s).conv k
    x ≠ {} → x.regOvr < 2 ^ 16 → x.injOvr < 2 ^ 16 → x.mismatch < 2 ^ 16 →
      x.shown % 2 ^ 32 = x.results % 2 ^ 32 ∧ x.shown / 2 ^ 32 % 2 ^ 16 = x.regOvr ∧ x.shown / 2 ^ 48 % 2 ^ 16 = x.injOvr ∧
      x.shown / 2 ^ 64 % 2 ^ 16 = x.mismatch ∧ x.shown.testBit 80 = x.regRun.isSome ∧ x.shown.testBit 81 = x.injRun.isSome ∧
      x.shown.testBit 82 = x.regHeld ∧ x.shown.testBit 83 = x.injHeld ∧ x.shown.testBit 84 = x.test.isSome ∧
      x.shown.testBit 85 = s.acq.suspect.testBit k ∧ x.shown / 2 ^ 96 = x.lastCode)

/-- ADC_REGULAR_TRIGGER at one of the converter's trigger instants: it starts the regular sequence on an idle converter, is held
one deep behind an injected sequence, is kept for the work order at a lattice point at which the converter becomes free, and
is discarded while its sequence runs, behind a held one and during a converter test; at any other instant nothing happens
(R263, R264, R266, R267, R269, R274). ADC_INJECTED_TRIGGER likewise: it starts the injected sequence on an idle converter,
takes the lattice point at which a regular entry has just started, which then waits, is held one deep while the converter is
busy, is kept for the work order where the converter becomes free, and is discarded behind a held one and during a converter
test (R263, R265, R268, R269, R274). CONVERTER_FREE: at the lattice point at which a converter becomes free it goes on with an
injected sequence that a test interrupted, or takes a held injected trigger, an injected trigger of this very point, the
regular sequence's next entry, a held regular trigger or a regular trigger of this point, in this order; a regular trigger
that has to wait is held, and one behind a held one is discarded; with none the converter stays free (R264 to R269, R274). -/
def Obligations.TriggersStartSequences : Prop :=
  (∀ (s : State) (k : Fin 32) (t : Instant) (e : SeqEntry) (es : List SeqEntry), s.enabled 2 = true →
    pointOf s t ∈ (s.conv k.val).regDue → (s.conv k.val).cfg.regSeq = e :: es →
    let p := pointOf s t
    let x : Converter := { s.conv k.val with regDue := (s.conv k.val).regDue.filter (p < ·) }
    (x.test = none → x.regRun = none → x.freeAt = none → x.cur = none →
      exec (.adcRegularTrigger k t) s = .next (convSet s k.val { x with
        regRun := some { entries := e :: es, next := 1 }, cur := some (firstSlot false e p) })) ∧
    (x.test = none → x.regRun = none → x.freeAt ≠ some p → x.cur.isSome = true → endsAt x p = false → x.regHeld = false →
      exec (.adcRegularTrigger k t) s = .next (convSet s k.val { x with regHeld := true })) ∧
    (x.test = none → x.regRun = none → x.freeAt = some p ∨ endsAt x p = true →
      exec (.adcRegularTrigger k t) s = .next (convSet s k.val { x with regArr := true })) ∧
    (∀ r, x.test = none → x.regRun = some r → x.cur.map (·.inj) = some false → endsAt x p = true → lastOf x r = true →
      exec (.adcRegularTrigger k t) s = .next (convSet s k.val { x with regArr := true })) ∧
    (x.test = none → x.regRun = none → x.freeAt ≠ some p → x.cur.isSome = true → endsAt x p = false → x.regHeld = true →
      Runs (.adcRegularTrigger k t) s fun u => Discards k.val false x s u) ∧
    (x.regRun.isSome = true → endsAt x p = false → Runs (.adcRegularTrigger k t) s fun u => Discards k.val false x s u) ∧
    (∀ v, x.test = some v → v.start + 25600 ≠ p → Runs (.adcRegularTrigger k t) s fun u => Discards k.val false x s u)) ∧
  (∀ (s : State) (k : Fin 32) (t : Instant),
    s.enabled 2 = false ∨ pointOf s t ∉ (s.conv k.val).regDue ∨ (s.conv k.val).cfg.regSeq = [] →
    exec (.adcRegularTrigger k t) s = .next s) ∧
  (∀ (s : State) (k : Fin 32) (t : Instant) (e : SeqEntry) (es : List SeqEntry), s.enabled 2 = true →
    pointOf s t ∈ (s.conv k.val).injDue → (s.conv k.val).cfg.injSeq = e :: es →
    let p := pointOf s t
    let x : Converter := { s.conv k.val with injDue := (s.conv k.val).injDue.filter (p < ·) }
    let started : Converter := { x with
      injRun := some { entries := e :: es, next := 1 }, freeAt := none, cur := some (firstSlot true e p) }
    (x.test = none → x.freeAt ≠ some p → x.cur = none →
      exec (.adcInjectedTrigger k t) s = .next (convSet s k.val started)) ∧
    (∀ v, x.test = none → x.freeAt ≠ some p → x.cur = some v → endsAt x p = false → v.inj = false → v.start = p →
      v.taken = 0 → v.entry = 0 →
      exec (.adcInjectedTrigger k t) s = .next (convSet s k.val { started with regRun := none, regHeld := true })) ∧
    (∀ v r, x.test = none → x.freeAt ≠ some p → x.cur = some v → endsAt x p = false → v.inj = false → v.start = p →
      v.taken = 0 → v.entry ≠ 0 → x.regRun = some r →
      exec (.adcInjectedTrigger k t) s = .next (convSet s k.val { started with regRun := some { r with next := v.entry } })) ∧
    (∀ v, x.test = none → x.freeAt ≠ some p → x.cur = some v → endsAt x p = false →
      v.start < p ∨ v.taken ≠ 0 ∨ v.inj = true → x.injHeld = false →
      exec (.adcInjectedTrigger k t) s = .next (convSet s k.val { x with injHeld := true })) ∧
    (∀ v, x.test = none → x.freeAt ≠ some p → x.cur = some v → endsAt x p = false →
      v.start < p ∨ v.taken ≠ 0 ∨ v.inj = true → x.injHeld = true →
      Runs (.adcInjectedTrigger k t) s fun u => Discards k.val true x s u) ∧
    (x.test = none → x.injRun = none → x.freeAt = some p ∨ endsAt x p = true →
      exec (.adcInjectedTrigger k t) s = .next (convSet s k.val { x with injArr := true })) ∧
    (∀ r, x.test = none → x.injRun = some r → x.cur.map (·.inj) = some true → endsAt x p = true → lastOf x r = true →
      exec (.adcInjectedTrigger k t) s = .next (convSet s k.val { x with injArr := true })) ∧
    (∀ v, x.test = some v → v.start + 25600 ≠ p → Runs (.adcInjectedTrigger k t) s fun u => Discards k.val true x s u)) ∧
  (∀ (s : State) (k : Fin 32) (t : Instant),
    s.enabled 2 = false ∨ pointOf s t ∉ (s.conv k.val).injDue ∨ (s.conv k.val).cfg.injSeq = [] →
    exec (.adcInjectedTrigger k t) s = .next s) ∧
  (∀ (s : State) (k : Fin 32) (t : Instant), (s.conv k.val).freeAt = some (pointOf s t) →
    let x : Converter := { s.conv k.val with freeAt := none }
    let p := pointOf s t
    (∀ r, x.injRun = some r → x.injArr = false → x.regArr = false →
      exec (.converterFree k t) s = .next (convSet s k.val { x with
        cur := some { inj := true, entry := r.next, cfg := r.entries.getD r.next {}, start := p } })) ∧
    (∀ e es, x.injRun = none → x.cfg.injSeq = e :: es → x.injHeld = true → x.injArr = false → x.regArr = false →
      exec (.converterFree k t) s = .next (convSet s k.val { x with
        injHeld := false, injRun := some { entries := e :: es, next := 1 }, cur := some (firstSlot true e p) })) ∧
    (∀ e es, x.injRun = none → x.cfg.injSeq = e :: es → x.injHeld = true → x.injArr = true → x.regArr = false →
      exec (.converterFree k t) s = .next (convSet s k.val { x with
        injArr := false, injRun := some { entries := e :: es, next := 1 }, cur := some (firstSlot true e p) })) ∧
    (∀ e es, x.injRun = none → x.cfg.injSeq = e :: es → x.injHeld = false → x.injArr = true → x.regArr = false →
      exec (.converterFree k t) s = .next (convSet s k.val { x with
        injArr := false, injRun := some { entries := e :: es, next := 1 }, cur := some (firstSlot true e p) })) ∧
    (∀ e es, x.injRun = none → x.cfg.injSeq = e :: es → x.injHeld = true ∨ x.injArr = true → x.regArr = true →
      x.regHeld = false →
      exec (.converterFree k t) s = .next (convSet s k.val { x with
        injHeld := x.injHeld && x.injArr, injArr := false, regArr := false, regHeld := true
        injRun := some { entries := e :: es, next := 1 }, cur := some (firstSlot true e p) })) ∧
    (∀ r, x.injRun = none → x.injHeld = false → x.injArr = false → x.regRun = some r →
      exec (.converterFree k t) s = .next (convSet s k.val { x with
        regRun := some { r with next := r.next + 1 }
        cur := some { entry := r.next, cfg := r.entries.getD r.next {}, start := p } })) ∧
    (∀ e es, x.injRun = none → x.injHeld = false → x.injArr = false → x.regRun = none → x.cfg.regSeq = e :: es →
      x.regHeld = true → x.regArr = false →
      exec (.converterFree k t) s = .next (convSet s k.val { x with
        regHeld := false, regRun := some { entries := e :: es, next := 1 }, cur := some (firstSlot false e p) })) ∧
    (∀ e es, x.injRun = none → x.injHeld = false → x.injArr = false → x.regRun = none → x.cfg.regSeq = e :: es →
      x.regHeld = false → x.regArr = true →
      exec (.converterFree k t) s = .next (convSet s k.val { x with
        regArr := false, regRun := some { entries := e :: es, next := 1 }, cur := some (firstSlot false e p) })) ∧
    (∀ e es, x.injRun = none → x.injHeld = false → x.injArr = false → x.regRun = none → x.cfg.regSeq = e :: es →
      x.regHeld = true → x.regArr = true →
      Runs (.converterFree k t) s fun u => Discards k.val false { x with
        regHeld := false, regArr := false, regRun := some { entries := e :: es, next := 1 }
        cur := some (firstSlot false e p) } s u) ∧
    (x.injRun = none → x.injHeld = false → x.injArr = false → x.regRun = none → x.regHeld = false → x.regArr = false →
      exec (.converterFree k t) s = .next (convSet s k.val x))) ∧
  (∀ (s : State) (k : Fin 32) (t : Instant), (s.conv k.val).freeAt ≠ some (pointOf s t) →
    exec (.converterFree k t) s = .next s)

/-- The code of a sample: the integer nearest 4096 times the difference over 2.5 V, 0 below 0 V and 4095 from full scale on
(R259). Differences are in picovolts. ADC_SLOT_END: after 400 lattice points the slot's code, that of the active die, joins
the entry's sum. Codes of an in-step pair outside DEGRADED more than the tolerance apart are a mismatch, and XCHK_RUN of them
in a row ask for a converter test. The last slot of a sequence's last entry gives the rounded result with its record for the
next boundary and leaves the converter free; an injected sequence goes straight on with its next entry. A test takes the codes
of both dies for 64 slots. At any other lattice point nothing happens (R260 to R262, R265, R271 to R275, Table 7-2).
ADC_TEST_END: a test whose means all lie within 2048 ± 4, or in which only a die that does not run failed, makes the input
suspect; one in which CDA's mean lies outside and CDB's inside faults CDA: its converter is marked, flagged and named by
DIE_FAULT, or, behind lattice point 6,150 of an in-step pair, marked and flagged for the next frame; and so for CDB. Without a
test that has ended nothing happens (R29, R30, R274; that DIE_FAULT carries checker code 0 is the model's choice, log 69). -/
def Obligations.SlotEndsAndTests : Prop :=
  (∀ (a : AnalogIn) (n : Nat), n ≤ 4095 →
    (2 * n - 1) * 2500000000000 ≤ 8192 * (a.ain - a.ainn) → 8192 * (a.ain - a.ainn) < (2 * n + 1) * 2500000000000 →
    Adc.codeOf a = n) ∧
  (∀ a : AnalogIn, a.ain < a.ainn → Adc.codeOf a = 0) ∧
  (∀ a : AnalogIn, 8191 * 2500000000000 ≤ 8192 * (a.ain - a.ainn) → Adc.codeOf a = 4095) ∧
  (∀ (s : State) (k : Fin 32) (a b : AnalogIn) (t : Instant) (v : Conversion), (s.conv k.val).test = none →
    (s.conv k.val).cur = some v → v.start + 400 = pointOf s t → t.lp ≤ 5850 →
    (s.pair.st ≠ 1 ∨ s.md.mode = .degraded ∨
      max (Adc.codeOf a) (Adc.codeOf b) - min (Adc.codeOf a) (Adc.codeOf b) ≤ (s.conv k.val).cfg.tol) →
    let code := if s.pair.active = 2 then Adc.codeOf b else Adc.codeOf a
    let now := s.tm.lp ≤ v.start + 100
    let v0 := if v.taken = 0 then { v with
        holdAbs := v.start + 100, holdFrame := if now then s.tm.frame else s.tm.first - 1
        holdLp := if now then v.start + 100 - s.tm.lp else v.start + 100 + s.tm.lpPrev - s.tm.lp } else v
    let x : Converter := { s.conv k.val with codeNow := some code, mismatchRun := 0 }
    let value := (Bits.roundDiv (v.sum + code : Nat) (2 ^ v.cfg.shift)).toNat
    let result (u : State) : Prop :=
      u.acq.waiting.map (fun q => (q.conv, q.input, q.value, q.holdAbs, q.late)) =
          s.acq.waiting.map (fun q => (q.conv, q.input, q.value, q.holdAbs, q.late)) ++
            [(k.val, 4 * k.val + v.cfg.input, value, v0.holdAbs, false)] ∧
        (v.cfg.input < 4 → v.entry < 16 → v0.holdLp < 2 ^ 16 →
          u.acq.waiting.getLast?.map (·.record) = some (value % 2 ^ 20 + v.cfg.input * 2 ^ 20 + v.entry * 2 ^ 22 +
            (if v.inj then 2 ^ 26 else 0) + (if v.xchk then 2 ^ 27 else 0) +
            (if v.clip ∨ code = 0 ∨ code = 4095 then 2 ^ 28 else 0) + v0.holdLp * 2 ^ 32 + k.val * 2 ^ 48 +
            v0.holdFrame % 256 * 2 ^ 56)) ∧
        u.tm = s.tm ∧ u.md = s.md ∧ u.deck = s.deck
    (v.taken + 1 < v.cfg.avg →
      exec (.adcSlotEnd k a b t) s = .next (Ops.count 3 16 1 (convSet s k.val { x with
        cur := some { v0 with start := pointOf s t, taken := v.taken + 1, sum := v.sum + code
                              clip := v.clip || decide (code = 0) || decide (code = 4095) } }))) ∧
    (∀ r, v.cfg.avg ≤ v.taken + 1 → v.inj = false → (s.conv k.val).regRun = some r →
      Runs (.adcSlotEnd k a b t) s fun u =>
        u.conv k.val = { x with
          cur := none, freeAt := some (pointOf s t)
          regRun := if r.entries.length ≤ v.entry + 1 then none else some r } ∧ result u) ∧
    (∀ r, v.cfg.avg ≤ v.taken + 1 → v.inj = true → (s.conv k.val).injRun = some r →
      Runs (.adcSlotEnd k a b t) s fun u =>
        u.conv k.val = (if r.entries.length ≤ v.entry + 1 then
            { x with cur := none, injRun := none, freeAt := some (pointOf s t) }
          else { x with freeAt := none, cur := some { inj := true, entry := v.entry + 1, start := pointOf s t
                                                      cfg := r.entries.getD (v.entry + 1) {} } }) ∧ result u)) ∧
  (∀ (s : State) (k : Fin 32) (a b : AnalogIn) (t : Instant) (v : Conversion), (s.conv k.val).test = none →
    (s.conv k.val).cur = some v → v.start + 400 = pointOf s t → v.taken + 1 < v.cfg.avg →
    s.pair.st = 1 → s.md.mode ≠ .degraded →
    (s.conv k.val).cfg.tol < max (Adc.codeOf a) (Adc.codeOf b) - min (Adc.codeOf a) (Adc.codeOf b) →
    Runs (.adcSlotEnd k a b t) s fun u =>
      (u.conv k.val).mismatch = min ((s.conv k.val).mismatch + 1) 65535 ∧ u.acq.xchk = Bits.setBit s.acq.xchk k.val true ∧
      (u.conv k.val).cur.map (·.xchk) = some true ∧ u.acq.waiting = s.acq.waiting ∧ u.tm = s.tm ∧ u.deck = s.deck ∧
      ((s.conv k.val).mismatchRun + 1 < (s.conv k.val).cfg.run →
        (u.conv k.val).mismatchRun = (s.conv k.val).mismatchRun + 1 ∧ (u.conv k.val).testDue = (s.conv k.val).testDue) ∧
      ((s.conv k.val).cfg.run ≤ (s.conv k.val).mismatchRun + 1 → (s.conv k.val).testDue = false →
        (u.conv k.val).mismatchRun = 0 ∧ (u.conv k.val).testDue = true ∧
        u.log.raised.getLast? = (recorded true Event.adcXchkFault (mkSrc 1 3 k.val) 0 0 s).log.raised.getLast?)) ∧
  (∀ (s : State) (k : Fin 32) (a b : AnalogIn) (t : Instant), (s.conv k.val).test = none →
    ((s.conv k.val).cur = none ∨ ∃ v, (s.conv k.val).cur = some v ∧ v.start + 400 ≠ pointOf s t) →
    exec (.adcSlotEnd k a b t) s = .next s) ∧
  (∀ (s : State) (k : Fin 32) (a b : AnalogIn) (t : Instant) (v : ConvTest), (s.conv k.val).test = some v →
    v.start + 400 * (v.taken + 1) = pointOf s t →
    let w := { v with taken := v.taken + 1, sumA := v.sumA + Adc.codeOf a, sumB := v.sumB + Adc.codeOf b }
    exec (.adcSlotEnd k a b t) s = .next (Ops.count 3 16 1 (convSet s k.val (if v.taken = 63 then
      { s.conv k.val with test := none, tested := some w, freeAt := some (pointOf s t) }
      else { s.conv k.val with test := some w })))) ∧
  (∀ (s : State) (k : Fin 32) (t : Instant), (s.conv k.val).tested = none → exec (.adcTestEnd k t) s = .next s) ∧
  (∀ (s : State) (k : Fin 32) (t : Instant) (v : ConvTest), (s.conv k.val).tested = some v →
    2044 * 64 ≤ v.sumA ∧ v.sumA ≤ 2052 * 64 ∨ Pair.runs s 1 = false →
    2044 * 64 ≤ v.sumB ∧ v.sumB ≤ 2052 * 64 ∨ Pair.runs s 2 = false →
    exec (.adcTestEnd k t) s = .next (recorded true Event.adcInputSuspect (mkSrc 1 3 k.val) k.val (s.conv k.val).lastMux
      (let u := convSet s k.val { s.conv k.val with tested := none, mismatchRun := 0 }
       { u with acq := { u.acq with suspect := Bits.setBit s.acq.suspect k.val true } }))) ∧
  (∀ (s : State) (k : Fin 32) (t : Instant) (v : ConvTest), (s.conv k.val).tested = some v → s.pair.st = 1 →
    let u := convSet s k.val { s.conv k.val with tested := none, mismatchRun := 0 }
    (v.sumA < 2044 * 64 ∨ 2052 * 64 < v.sumA → 2044 * 64 ≤ v.sumB → v.sumB ≤ 2052 * 64 →
      let cda := { s.pair.cda with marks := s.pair.cda.marks ++ [(3, .unit, k.val)] }
      let q : FlagFault := { die := 1, src := mkSrc 1 3 k.val }
      (t.lp ≤ 6150 → exec (.adcTestEnd k t) s = .next
        (recorded true Event.dieFault q.src 0 ((s.tm.frame + 1) % 2 ^ 32) { u with
          pair := { u.pair with cda := cda, flagged := s.pair.flagged ++ [q]
                                lastFault := q.src, lastFaultFrame := (s.tm.frame + 1) % 2 ^ 32 } })) ∧
      (6150 < t.lp → exec (.adcTestEnd k t) s = .next { u with
        pair := { u.pair with cda := cda, flaggedLate := s.pair.flaggedLate ++ [q] } })) ∧
    (2044 * 64 ≤ v.sumA → v.sumA ≤ 2052 * 64 → v.sumB < 2044 * 64 ∨ 2052 * 64 < v.sumB →
      let cdb := { s.pair.cdb with marks := s.pair.cdb.marks ++ [(3, .unit, k.val)] }
      let q : FlagFault := { die := 2, src := mkSrc 2 3 k.val }
      (t.lp ≤ 6150 → exec (.adcTestEnd k t) s = .next
        (recorded true Event.dieFault q.src 0 ((s.tm.frame + 1) % 2 ^ 32) { u with
          pair := { u.pair with cdb := cdb, flagged := s.pair.flagged ++ [q]
                                lastFault := q.src, lastFaultFrame := (s.tm.frame + 1) % 2 ^ 32 } })) ∧
      (6150 < t.lp → exec (.adcTestEnd k t) s = .next { u with
        pair := { u.pair with cdb := cdb, flaggedLate := s.pair.flaggedLate ++ [q] } })))

/-! Acquisition, captures and counters. -/

namespace Sys2Proof.Says

/-- `s` with capture engine `e` replaced. -/
def capSet (s : State) (e : Nat) (x : Capture) : State := { s with acq := { s.acq with cap := Tab.set s.acq.cap e x } }

/-- One capture engine. -/
def capOf (s : State) (e : Nat) : Capture := Tab.get s.acq.cap e

end Sys2Proof.Says

/-- ACQ_TAP_ASSIGN, ACQ_REDUCE: in CONFIGURE with ACQ disabled an assignable tap takes its source, and each tap of a range its
reduction, which begins with the next interval (R290, R291, R314). CAPTURE_CFG, CAPTURE_TRIGGER, CAPTURE_ARM, CAPTURE_STOP: an
idle engine of a disabled ACQ takes its taps, lengths, store and trigger; an enabled ACQ's idle engine is armed with its
history cleared, and a stop before any trigger ends the arming ABORTED (R302, R303, R305, R314). CAPTURE_SAMPLE,
REDUCTION_INTERVAL_END: an armed engine that is due adds one row to its history and, unless its DMA channel is paused or
stopped, to its store in the Deck, and nothing else of the Deck changes; after its trigger it counts down, with the last
sample the record is complete as it was taken and a single-mode engine is idle, and a level trigger met by a ready engine is
accepted; an ended interval waits for the next boundary's block (R278, R297, R302 to R304, R307). -/
def Obligations.TapsAndCaptures : Prop :=
  (∀ (c : Cmd) (s : State), Names c s 3 → c.unit = 0 → s.md.mode = .configure → s.enabled 3 = false → Rest c 10 →
    locDefined (Arg.u c 4 4) = true → 3840 ≤ Arg.u c 0 2 → Arg.u c 0 2 ≤ 4095 → Arg.u c 2 1 ≤ 3 →
    (if Arg.u c 2 1 = 1 ∨ Arg.u c 2 1 = 2 then
      locDie (Arg.u c 4 4) = 1 ∧ locRegion (Arg.u c 4 4) = 2 ∧ locNode (Arg.u c 4 4) = s.nodeId ∧
        locUnit (Arg.u c 4 4) < 832 ∧ 1 ≤ locItem (Arg.u c 4 4) ∧ locItem (Arg.u c 4 4) ≤ 8
     else Arg.u c 4 4 = 0) →
    Arg.u c 8 2 ≤ 1023 → (Arg.u c 2 1 = 3 ∨ Arg.u c 8 2 = 0) →
    let a : TapAssign := { src := Arg.u c 2 1, state := Arg.u c 3 1, loc := Arg.u c 4 4, recno := Arg.u c 8 2 }
    exec (.acqTapAssign c) s = .next (stored c 0x0140 { s with
      acq := { s.acq with assign := Tab.set s.acq.assign (Arg.u c 0 2) a } })) ∧
  (∀ (c : Cmd) (s : State), Names c s 3 → c.unit = 0 → s.md.mode ∉ [Mode.reset, .boot] → s.enabled 3 = false → Rest c 8 →
    Arg.u c 5 1 < 4 → 1 ≤ Arg.u c 2 2 → Arg.u c 0 2 + Arg.u c 2 2 ≤ 4096 → 3 ≤ Arg.u c 4 1 → Arg.u c 4 1 ≤ 16 →
    Arg.u c 6 1 ≤ 8 → Arg.u c 7 1 ≤ 31 → s.hbd.isStream (Arg.u c 7 1) = true →
    ((Arg.u c 5 1).testBit 1 = true →
      ∀ i < Arg.u c 2 2, (Taps.tap s (Arg.u c 0 2 + i)).fmt ≠ 7 ∧ (Taps.tap s (Arg.u c 0 2 + i)).fmt ≠ 8) →
    let g : RedCfg := { on := (Arg.u c 5 1).testBit 0, fwd := (Arg.u c 5 1).testBit 1, m := Arg.u c 4 1
                        xbits := Arg.u c 6 1, ring := Arg.u c 7 1 }
    ∃ red, exec (.acqReduce c) s = .next (stored c 0x0141 { s with acq := { s.acq with red := red } }) ∧
      ∀ tap, Tab.get red tap = if Arg.u c 0 2 ≤ tap ∧ tap < Arg.u c 0 2 + Arg.u c 2 2 then
          { Tab.get s.acq.red tap with newCfg := some g }
        else Tab.get s.acq.red tap) ∧
  (∀ (c : Cmd) (s : State), Names c s 3 → 32 ≤ c.unit → c.unit < 96 → s.md.mode ∉ [Mode.reset, .boot] →
      let x := capOf s (c.unit - 32)
      (∀ (n : Nat), Arg.u c 16 1 = n → Arg.u c 31 1 = 0 → Rest c 36 → x.arm = none → s.enabled 3 = false → 1 ≤ n → n ≤ 8 →
        (∀ j < n, Arg.u c (2 * j) 2 ≤ 4095) → Arg.u c 17 1 < 2 ^ n → 1 ≤ Arg.u c 18 2 → Arg.u c 20 4 ≤ 65535 →
        1 ≤ Arg.u c 24 4 → Arg.u c 20 4 + Arg.u c 24 4 ≤ 65536 → Arg.u c 28 1 ≤ 31 → 8 ≤ Arg.u c 29 1 →
        Arg.u c 29 1 ≤ 24 → Arg.u c 30 1 ≤ 31 → s.hbd.isStream (Arg.u c 30 1) = true →
        (∀ j < n, (Arg.u c 17 1).testBit j = true → (Taps.tap s (Arg.u c (2 * j) 2)).fmt ≠ 7 ∧
          (Taps.tap s (Arg.u c (2 * j) 2)).fmt ≠ 8) →
        let g : CapCfg :=
          { given := true, taps := (List.range n).map fun j => Arg.u c (2 * j) 2, meas := Arg.u c 17 1
            div := Arg.u c 18 2, pre := Arg.u c 20 4, post := Arg.u c 24 4, dma := Arg.u c 28 1, sizeLog2 := Arg.u c 29 1
            ring := Arg.u c 30 1, base := Arg.u c 32 4 }
        (Arg.u c 20 4 + Arg.u c 24 4) * AcqOps.rowSize s g ≤ 2 ^ Arg.u c 29 1 →
        exec (.captureCfg c) s = .next (stored c 0x0142 (capSet s (c.unit - 32) { x with cfg := g, total := 0 }))) ∧
      (Arg.u c 1 1 < 8 → Rest c 36 → x.arm = none → s.enabled 3 = false → Arg.u c 0 1 ≤ 4 → Arg.u c 2 2 ≤ 4095 →
        Arg.u c 4 2 ≤ Arg.u c 6 2 → (Arg.u c 0 1 = 2 → Arg.s c 8 8 ≤ Arg.s c 16 8) → 0 ≤ Arg.s c 24 8 →
        (Taps.tap s (Arg.u c 2 2)).fmt ≠ 7 → (Taps.tap s (Arg.u c 2 2)).fmt ≠ 8 →
        exec (.captureTrigger c) s = .next (stored c 0x0143 (capSet s (c.unit - 32) { x with
          trig := { kind := Arg.u c 0 1, pol := (Arg.u c 1 1).testBit 0, either := (Arg.u c 1 1).testBit 1
                    leave := (Arg.u c 1 1).testBit 2, tap := Arg.u c 2 2, wmin := Arg.u c 4 2, wmax := Arg.u c 6 2
                    level := Arg.s c 8 8, hi := Arg.s c 16 8, hyst := Arg.s c 24 8, code := Arg.u c 32 2
                    mask := Arg.u c 34 2 } }))) ∧
      (Arg.u c 0 1 < 2 → Rest c 1 → s.enabled 3 = true → x.arm = none → x.cfg.given = true → s.hbd.compls.length < 61440 →
        exec (.captureArm c) s = .next (accepted c 0x0401 (capSet s (c.unit - 32) { x with
          arm := some (c.origin 0x0401), normal := decide (Arg.u c 0 1 = 1), records := 0, lastTrig := 0, stopMark := false
          rows := [], taken := 0, readyFrame := none, hit := none, low := false, high := false
          pulse := none, idle := false, evHit := false }))) ∧
      (Rest c 0 → s.enabled 3 = true → x.arm = none →
        exec (.captureStop c) s = .next (done c 0x0402 0 s)) ∧
      (∀ o, Rest c 0 → s.enabled 3 = true → x.arm = some o → x.hit = none → x.records = 0 → x.stops = [] →
        o.sq < 32 → s.tm.due x.cfg.div 0 = false →
        exec (.captureStop c) s = .next (done c 0x0402 0 (capSet { s with hbd := { s.hbd with compls :=
            s.hbd.compls ++ [{ org := o, status := .aborted, result := x.lastTrig * 2 ^ 64 }] } } (c.unit - 32) { x with
          arm := none, stops := [], stopMark := false, rows := [], taken := 0, readyFrame := none
          hit := none, low := false, high := false, pulse := none, idle := false, evHit := false })))) ∧
  (∀ (s : State) (e : Fin 64), (capOf s e.val).arm = none ∨ s.enabled 3 = false ∨
      (capOf s e.val).lastB = s.tm.frame + 1 ∨ s.tm.due (capOf s e.val).cfg.div 0 = false →
    exec (.captureSample e) s = .next s) ∧
  (∀ (s : State) (e : Fin 64), (capOf s e.val).arm.isSome = true → s.enabled 3 = true →
    s.tm.due (capOf s e.val).cfg.div 0 = true → (capOf s e.val).lastB ≠ s.tm.frame + 1 → (capOf s e.val).ends = [] →
    (capOf s e.val).stops = [] → Tab.wf s.deck = true →
    let x := capOf s e.val
    let row := x.cfg.taps.map (Taps.tap s)
    let bs := AcqOps.rowBytes row
    let size := 2 ^ x.cfg.sizeLog2
    bs.length ≤ size →
    Runs (.captureSample e) s fun t =>
      (capOf t e.val).total = x.total + 1 ∧ (capOf t e.val).lastB = s.tm.frame + 1 ∧
      (s.acq.fdmaPaused.testBit x.cfg.dma = false → s.acq.fdmaStopped.testBit x.cfg.dma = false →
        ∀ i < bs.length, Tab.get t.deck (x.cfg.base + (x.total * bs.length + i) % size) = bs.getD i 0) ∧
      (s.acq.fdmaPaused.testBit x.cfg.dma = true ∨ s.acq.fdmaStopped.testBit x.cfg.dma = true → t.deck = s.deck) ∧
      (∀ a, a < x.cfg.base ∨ x.cfg.base + size ≤ a → Tab.get t.deck a = Tab.get s.deck a) ∧
      (∀ f n, x.hit = some (f, n + 2) → (capOf t e.val).hit = some (f, n + 1) ∧
        (capOf t e.val).rows = (row :: x.rows).take (x.cfg.pre + x.cfg.post)) ∧
      (∀ f, x.hit = some (f, 1) →
        (capOf t e.val).out.map (fun r => (r.cfg, r.trigFrame, r.num, r.normal)) = some (x.cfg, f, x.records, x.normal) ∧
        (capOf t e.val).out.map (·.rows) = some ((row :: x.rows).take (x.cfg.pre + x.cfg.post)).reverse ∧
        (capOf t e.val).records = x.records + 1 ∧ (capOf t e.val).hit = none ∧ (capOf t e.val).taken = 0 ∧
        (capOf t e.val).arm = (if x.normal = true ∧ x.stopMark = false then x.arm else none)) ∧
      (x.hit = none → x.taken < x.cfg.pre → (capOf t e.val).hit = none ∧ (capOf t e.val).taken = x.taken + 1) ∧
      (x.hit = none → x.cfg.pre ≤ x.taken → x.trig.kind = 0 → x.trig.pol = false → 2 ≤ x.cfg.post →
        (capOf t e.val).hit = if x.trig.level ≤ (Taps.tap s x.trig.tap).v then some (s.tm.frame, x.cfg.post - 1) else none) ∧
      t.tm = s.tm ∧ t.md = s.md ∧ t.hbd = s.hbd) ∧
  (∀ (s : State) (k : Fin 4096), (Tab.get s.acq.red k.val).ended = none → exec (.reductionIntervalEnd k) s = .next s) ∧
  (∀ (s : State) (k : Fin 4096) (a : RedAcc), (Tab.get s.acq.red k.val).ended = some a →
    exec (.reductionIntervalEnd k) s = .next { s with acq := { s.acq with
      red := Tab.set s.acq.red k.val { Tab.get s.acq.red k.val with ended := none }
      done := s.acq.done ++ [{ tap := k.val, acc := a, due := s.tm.frame + 1 }] } })

/-- COUNTER_SELECT, COUNTER_DUMP_CFG, PRECISE_CFG: a region's counters take the eight selections, and those selected anew or
marked in CLR start at 0; the dump and the sampling take their settings (R592, R593, R597). DUMP_CAPTURE, COUNTER_DUMP: once
per dump boundary every region's counters are captured as they stand; with no link and no session a COUNTER_DUMP message moves
nothing (R592). -/
def Obligations.CountersSelectedAndDumped : Prop :=
  (∀ (c : Cmd) (s : State), c.flags = 1 → c.rsv3 = 0 → c.rsv12 = 0 → locDefined c.locN = true → locNode c.locN = s.nodeId →
    locDie c.locN = 1 → locUnit c.locN = 0 → locItem c.locN = 0 → s.md.mode ∉ [Mode.reset, .boot] → Rest c 17 →
    (∀ j < 8, Arg.u c (2 * j) 2 ≤ 7 ∨ 16 ≤ Arg.u c (2 * j) 2 ∧ Arg.u c (2 * j) 2 ≤ RecOps.selMax 1 (locRegion c.locN)) →
    ∃ k, exec (.counterSelect c) s = .next (done c 0x0A20 0 { s with log := { s.log with counters := k } }) ∧
      ∀ d, d = 1 ∨ d = 2 → let old := Tab.get s.log.counters (8 * d + locRegion c.locN)
        let new := Tab.get k (8 * d + locRegion c.locN)
        new.busy = old.busy ∧ ∀ j < 8, new.sel.getD j 0 = Arg.u c (2 * j) 2 ∧
          new.cnt.getD j 0 = (if (Arg.u c 16 1).testBit j = true ∨ Arg.u c (2 * j) 2 ≠ old.sel.getD j 0 then 0
            else old.cnt.getD j 0)) ∧
  (∀ (c : Cmd) (s : State), Names c s 7 → c.unit = 5 → s.md.mode ∉ [Mode.reset, .boot] →
    (Rest c 3 → Arg.u c 0 1 ≤ 1 → 6 ≤ Arg.u c 1 1 → Arg.u c 1 1 ≤ 16 → Arg.u c 2 1 ≤ 31 → s.hbd.isStream (Arg.u c 2 1) = true →
      exec (.counterDumpCfg c) s = .next (done c 0x0A21 0 { s with log := { s.log with
        dumpEn := decide (Arg.u c 0 1 = 1), dumpN := Arg.u c 1 1, dumpRing := Arg.u c 2 1 } })) ∧
    (Rest c 6 → Arg.u c 1 1 = 0 → Arg.u c 0 1 ≤ 1 → (Arg.u c 2 2 ≤ 1023 ∨ Arg.u c 2 2 = 0xFFFF) → 1 ≤ Arg.u c 4 2 →
      exec (.preciseCfg c) s = .next (done c 0x0A22 0 { s with log := { s.log with
        sampleEn := decide (Arg.u c 0 1 = 1), sampleTask := Arg.u c 2 2, samplePeriod := Arg.u c 4 2, sampleOps := [] } }))) ∧
  (∀ s : State, s.log.dumpEn = false ∨ s.tm.due (2 ^ s.log.dumpN) 0 = false ∨ s.log.captureFrame = s.tm.frame + 1 →
    exec .dumpCapture s = .next s) ∧
  (∀ s : State, s.log.dumpEn = true → s.tm.due (2 ^ s.log.dumpN) 0 = true → s.log.captureFrame ≠ s.tm.frame + 1 →
    ∃ l, exec .dumpCapture s = .next { s with log := { s.log with
        captured := l, captureFrame := s.tm.frame + 1, capturePeerAbsent := decide (s.pair.st ≠ 1)
        captureActive := s.pair.active } } ∧
      (∀ r < 8, (8 + r, Tab.get s.log.latched (8 + r), Tab.get s.log.latched (16 + r)) ∈ l) ∧
      (∀ r < 6, (24 + r, Tab.get s.log.latched (24 + r), ({} : Counters)) ∈ l) ∧
      (∀ r < 6, (r, Tab.get s.log.latched r, ({} : Counters)) ∈ l)) ∧
  (∀ s : State, s.hbd.mayWrite = false → exec .counterDump s = .next s)

/-! Recipes. -/

namespace Sys2Proof.Says

/-- `s` with sequencer `q` replaced. -/
def seqSet (s : State) (q : Nat) (x : Sequencer) : State := { s with prog := { s.prog with seqs := Tab.set s.prog.seqs q x } }

/-- `s` with an interim completion of a sequencer's start command (Table 9-9). -/
def stepReport (x : Sequencer) (st : Status) (frame step flags cause deferrals reason : Nat) (s : State) : State :=
  { s with hbd := { s.hbd with compls := s.hbd.compls ++ [{
      org := x.org, status := st, interim := true
      result := frame % 2 ^ 64 + step * 2 ^ 64 + flags * 2 ^ 80 + cause * 2 ^ 88 + min deferrals 65535 * 2 ^ 96 +
        reason * 2 ^ 112 }] } }

/-- Frames that the preparation of a step with `n` entries takes at least: one, and one more for each 64 entries begun
after the
first (R324). -/
def prepFrames (n : Nat) : Nat := max 1 ((n + 63) / 64)

/-- A step made pending at a boundary (R324). -/
def pendingStep (x : Sequencer) (n frame : Nat) (k : Option Nat) : Sequencer :=
  { x with pend := true, nxt := n, k := k, prepP := frame, prepDone := false, prepMissed := false, prepFail := 0, deferrals := 0 }

end Sys2Proof.Says

/-- SEQ_CFG, SEQ_LOAD, SEQ_STATUS: in CONFIGURE with SEQ disabled a sequencer takes its area and group, and a new area discards
its table; a table that passes the checks of R318 is stored in the area with its steps and recipe number; the status changes
nothing and answers the recipe, the step, the state, the cause and the last Keystone instant (R317, R318, R340, R343). -/
def Obligations.RecipesAreLoaded : Prop :=
  (∀ (c : Cmd) (s : State), Names c s 4 → 16 ≤ c.unit → s.md.mode = .configure → s.enabled 5 = false → Rest c 6 →
    12 ≤ Arg.u c 4 1 → Arg.u c 4 1 ≤ 24 →
    let x := s.seqr (c.unit - 16)
    exec (.seqCfg c) s = .next (stored c 0x0150 (seqSet s (c.unit - 16) { x with
      given := true, base := Arg.u c 0 4, sizeLog2 := Arg.u c 4 1, group := Arg.u c 5 1
      loaded := x.loaded && decide (x.given = true ∧ x.base = Arg.u c 0 4 ∧ x.sizeLog2 = Arg.u c 4 1) }))) ∧
  (∀ (c : Cmd) (s : State) (bs : Bytes), Names c s 4 → 16 ≤ c.unit → s.md.mode ∈ [Mode.configure, .run, .hold] →
    s.enabled 5 = true → Rest c 12 → (s.seqr (c.unit - 16)).given = true →
    Arg.u c 8 4 ≤ 2 ^ (s.seqr (c.unit - 16)).sizeLog2 → (s.seqr (c.unit - 16)).st = 0 →
    (Seq.checkTable s (s.seqr (c.unit - 16)) bs = none →
      exec (.seqLoad c (some bs)) s = .next (done c 0x0151 0 (let t := seqSet s (c.unit - 16) { s.seqr (c.unit - 16) with
          loaded := true, recipe := Bits.leAt bs 12 4, steps := Bits.leAt bs 0 2 }
        { t with deck := Mem.write s.deck (s.seqr (c.unit - 16)).base bs }))) ∧
    (∀ r, Seq.checkTable s (s.seqr (c.unit - 16)) bs = some r →
      exec (.seqLoad c (some bs)) s = .next (answer c 0x0151 .refused r 0 false s))) ∧
  (∀ (c : Cmd) (s : State), Names c s 4 → 16 ≤ c.unit → s.md.mode ∉ [Mode.reset, .boot] → Rest c 0 → s.enabled 5 = true →
    let x := s.seqr (c.unit - 16)
    exec (.seqStatus c) s = .next (done c 0x0820 ((if x.loaded then x.recipe else 0) +
      (if x.running then x.cur else x.nxt) * 2 ^ 32 + x.st * 2 ^ 48 + x.cause * 2 ^ 56 + x.lastK % 2 ^ 64 * 2 ^ 64) s))

/-- SEQ_START, SEQ_RESUME: an idle sequencer with a loaded table is ACCEPTED and its step becomes pending, the Keystone instant no
earlier than START_AT and the planned end of its preparation; a paused one goes on with its pending step (R324, R336, R340,
R341). -/
def Obligations.RecipesStartAndResume : Prop :=
  (∀ (c : Cmd) (s : State), Names c s 4 → 16 ≤ c.unit → s.md.mode = .run → s.enabled 5 = true → Arg.u c 2 2 = 0 → Rest c 16 →
    Arg.u c 12 4 < 10 ^ 9 → Arg.u c 12 4 % 15625 = 0 → s.hbd.compls.length < 61440 →
    let x := s.seqr (c.unit - 16)
    x.st = 0 → x.given = true → x.loaded = true → x.group = 0 → Arg.u c 0 2 < x.steps →
    let at_ := Arg.u c 4 8 * 64000 + Arg.u c 12 4 / 15625
    exec (.seqStart c) s = .next (accepted c 0x0801 (seqSet s (c.unit - 16)
      (pendingStep { x with st := 1, cause := 0, org := c.origin 0x0801, running := false, stopped := false } (Arg.u c 0 2)
        s.tm.frame (some (max (s.tm.frame + prepFrames (Seq.step s x (Arg.u c 0 2)).nent) at_)))))) ∧
  (∀ (c : Cmd) (s : State), Names c s 4 → 16 ≤ c.unit → s.md.mode = .run → s.enabled 5 = true → Rest c 0 →
    let x := s.seqr (c.unit - 16)
    x.st = 2 → x.group = 0 →
    exec (.seqResume c) s = .next (done c 0x0802 0 (seqSet s (c.unit - 16) (pendingStep { x with st := 1 } x.nxt s.tm.frame
      (some (s.tm.frame + prepFrames (Seq.step s x x.nxt).nent)))))) ∧
  (∀ (c : Cmd) (s : State), Names c s 4 → 16 ≤ c.unit → s.md.mode = .run → s.enabled 5 = true → Rest c 0 →
    (s.seqr (c.unit - 16)).st ≠ 2 → exec (.seqResume c) s = .next (answer c 0x0802 .refused 0x8A 0 false s))

/-- STEP_PREPARED, KEYSTONE_COMMIT: a step none of whose actions would be refused is prepared, too late for the coming boundary
behind lattice point 5,850; one with a refused action and no step running pauses the sequencer; at its Keystone instant a
prepared step commits with its actions, is reported and recorded, an action that its target no longer allows is skipped and
recorded, and the next step becomes pending; an unprepared one, or one whose preparation missed the deadline, is deferred by
one boundary, and a step whose instant a TIME_SET has skipped is deferred and commits at the boundary reached (R80, R89, R322,
R324 to R328). STEP_END, SEQ_TIMEOUT: when the condition bit of a kind 1 end has the value it waits for, the last step's end
completes the recipe and an earlier one gives the next step its Keystone instant; a step that times out pauses, or makes the
step it names pending (R319 to R321, R324). -/
def Obligations.StepsCommitAndEnd : Prop :=
  (∀ (s : State) (q : Fin 16) (t : Instant),
    (s.seqr q.val).st ≠ 1 ∨ (s.seqr q.val).pend = false ∨ (s.seqr q.val).prepDone = true →
    exec (.stepPrepared q t) s = .next s) ∧
  (∀ (s : State) (q : Fin 16) (i : Instant), (s.seqr q.val).st = 1 → (s.seqr q.val).pend = true → (s.seqr q.val).prepDone = false →
    let x := s.seqr q.val
    let r := Seq.wouldFail s (Seq.actions s x (Seq.step s x x.nxt))
    (r = 0 → exec (.stepPrepared q i) s = .next (Ops.count 4 21 1
      (seqSet s q.val { x with prepDone := true, prepMissed := x.prepMissed || decide (5850 < i.lp), prepFail := 0 }))) ∧
    (r ≠ 0 → x.running = false → x.org.sq < 32 → s.hbd.compls.length < 61440 →
      Runs (.stepPrepared q i) s fun t =>
        (t.seqr q.val).st = 2 ∧ (t.seqr q.val).cause = 2 ∧ (t.seqr q.val).k = none ∧
        t.log.raised = (recorded true Event.seqPause (mkSrc 1 4 (16 + q.val)) 2 x.nxt s).log.raised ∧
        t.hbd = (stepReport x .done (s.tm.frame + 1) x.nxt 8 2 x.deferrals r s).hbd ∧ t.out = s.out ∧ t.deck = s.deck)) ∧
  (∀ (s : State) (q : Fin 16) (k : Nat), s.enabled 5 = true → (s.seqr q.val).st = 1 → (s.seqr q.val).pend = true →
    (s.seqr q.val).group = 0 → (s.seqr q.val).k = some k → (k = s.tm.frame ∨ k < s.tm.frame ∧ k < s.tm.first) → s.permMode ≠ .hold →
    (s.seqr q.val).org.sq < 32 → s.hbd.compls.length < 61440 →
    let x := s.seqr q.val
    let y : Sequencer := { x with running := true, cur := x.nxt, lastK := s.tm.frame, cnt := 0, settled := 0, trig := false
                                  actionFail := false, pend := false, k := none }
    let z := if x.nxt + 1 < x.steps then pendingStep y (x.nxt + 1) s.tm.frame none else y
    let report (t : State) : State := recorded false Event.seqStep (mkSrc 1 4 (16 + q.val)) x.nxt (s.tm.frame % 2 ^ 32)
      (stepReport x .done s.tm.frame x.nxt 0 0 x.deferrals 0 (seqSet t q.val z))
    (x.prepDone = true → x.prepMissed = false → x.prepFail = 0 → Seq.actions s x (Seq.step s x x.nxt) = [] →
      exec (.keystoneCommit q) s = .next (report s)) ∧
    (∀ a, x.prepDone = true → x.prepMissed = false → x.prepFail = 0 → Seq.actions s x (Seq.step s x x.nxt) = [a] → a.kind = 2 →
      (s.valve a.target).cfg.drive = 1 →
      exec (.keystoneCommit q) s = .next (report (Ops.count 4 22 1
        (s.setValve a.target { s.valve a.target with cmd := decide (a.value % 256 = 1) })))) ∧
    (∀ a, x.prepDone = true → x.prepMissed = false → x.prepFail = 0 → Seq.actions s x (Seq.step s x x.nxt) = [a] → a.kind = 2 →
      (s.valve a.target).cfg.drive ≠ 1 →
      Runs (.keystoneCommit q) s fun t =>
        (t.seqr q.val).actionFail = true ∧ (t.seqr q.val).running = true ∧ t.out = s.out ∧
        t.prog.seqFlags = Bits.setBit s.prog.seqFlags 1 true ∧
        t.log.raised = (recorded false Event.seqStep (mkSrc 1 4 (16 + q.val)) x.nxt (s.tm.frame % 2 ^ 32)
          (recorded false Event.seqActionFail (mkSrc 1 4 (16 + q.val)) x.nxt a.idx s)).log.raised) ∧
    (∀ a, x.prepDone = true → x.prepMissed = false → x.prepFail = 0 → Seq.actions s x (Seq.step s x x.nxt) = [a] → a.kind = 1 → s.enabled 1 = true →
      (s.slot (locUnit a.target)).cfg.inUse = true → (s.slot (locUnit a.target)).cfg.src.getD 0 0 / 2 ^ 28 % 16 = 1 →
      Runs (.keystoneCommit q) s fun t =>
        (t.slot (locUnit a.target)).setpoint = Bits.signed 24 a.value ∧ t.seqr q.val = z) ∧
    (x.prepDone = false ∨ x.prepMissed = true →
      exec (.keystoneCommit q) s = .next (recorded false Event.stepDeferred (mkSrc 1 4 (16 + q.val)) x.nxt (k % 2 ^ 32)
        (stepReport x .deferred k x.nxt 0 0 (min (x.deferrals + 1) 65535) 0
          (let t := seqSet s q.val { x with deferrals := min (x.deferrals + 1) 65535, k := some (s.tm.frame + 1) }
           { t with prog := { t.prog with seqFlags := Bits.setBit s.prog.seqFlags 0 true } }))))) ∧
  (∀ (s : State) (q : Fin 16) (k : Nat), s.enabled 5 = true → (s.seqr q.val).st = 1 → (s.seqr q.val).pend = true →
    (s.seqr q.val).group = 0 → (s.seqr q.val).k = some k → s.tm.first ≤ k → k < s.tm.frame → s.permMode ≠ .hold →
    (s.seqr q.val).org.sq < 32 → (s.seqr q.val).prepDone = true → (s.seqr q.val).prepMissed = false →
    (s.seqr q.val).prepFail = 0 → Seq.actions s (s.seqr q.val) (Seq.step s (s.seqr q.val) (s.seqr q.val).nxt) = [] →
    Runs (.keystoneCommit q) s fun t =>
      (t.seqr q.val).running = true ∧ (t.seqr q.val).cur = (s.seqr q.val).nxt ∧ (t.seqr q.val).lastK = s.tm.frame ∧
      t.log.raised = (recorded false Event.seqStep (mkSrc 1 4 (16 + q.val)) (s.seqr q.val).nxt (s.tm.frame % 2 ^ 32)
        (recorded false Event.stepDeferred (mkSrc 1 4 (16 + q.val)) (s.seqr q.val).nxt (k % 2 ^ 32) s)).log.raised ∧
      t.prog.seqFlags = Bits.setBit s.prog.seqFlags 0 true ∧ t.deck = s.deck ∧ t.out = s.out) ∧
  (∀ (s : State) (q : Fin 16) (k : Nat), (s.seqr q.val).group = 0 → (s.seqr q.val).k = some k → s.tm.frame < k →
    exec (.keystoneCommit q) s = .next s) ∧
  (∀ (s : State) (q : Fin 16), s.enabled 5 = false ∨ (s.seqr q.val).pend = false → exec (.keystoneCommit q) s = .next s) ∧
  (∀ (s : State) (q : Fin 16), (s.seqr q.val).st ≠ 1 ∨ (s.seqr q.val).running = false →
    exec (.stepEnd q) s = .next s ∧ exec (.seqTimeout q) s = .next s) ∧
  (∀ (s : State) (q : Fin 16), (s.seqr q.val).st = 1 → (s.seqr q.val).running = true →
    let x := s.seqr q.val
    let d := Seq.step s x x.cur
    (d.kind = 1 → s.prog.conds.testBit d.a ≠ decide (d.b = 0) → exec (.stepEnd q) s = .next s) ∧
    (d.kind = 1 → s.prog.conds.testBit d.a = decide (d.b = 0) → x.pend = false → x.org.sq < 32 →
      exec (.stepEnd q) s = .next (let t := seqSet s q.val { x with st := 0, running := false, pend := false, k := none, stopped := false }
        { t with hbd := { t.hbd with compls := t.hbd.compls ++ [{
            org := x.org
            result := s.tm.frame % 2 ^ 64 + x.cur * 2 ^ 64 + (5 + if x.actionFail then 2 else 0) * 2 ^ 80 +
              min x.deferrals 65535 * 2 ^ 96 }] } })) ∧
    (d.kind = 1 → s.prog.conds.testBit d.a = decide (d.b = 0) → x.pend = true → x.actionFail = false →
      s.md.mode ≠ .degraded → (x.prepDone = false ∨ x.prepFail = 0) → x.group = 0 →
      exec (.stepEnd q) s = .next (seqSet s q.val { x with
        running := false, k := some (max (x.prepP + prepFrames (Seq.step s x x.nxt).nent) (s.tm.frame + 1)) })) ∧
    (d.kind = 1 → s.prog.conds.testBit d.a ≠ decide (d.b = 0) → d.timeout ≠ 0 → d.timeout ≤ x.cnt → d.onTimeout ≠ 0xFFFF →
      x.group = 0 →
      exec (.seqTimeout q) s = .next (recorded false Event.seqTimeout (mkSrc 1 4 (16 + q.val)) x.cur 0
        (let t := seqSet s q.val (pendingStep { x with running := false } d.onTimeout s.tm.frame
            (some (max (s.tm.frame + prepFrames (Seq.step s x d.onTimeout).nent) (s.tm.frame + 1))))
         { t with prog := { t.prog with seqFlags := Bits.setBit s.prog.seqFlags 2 true } }))) ∧
    (d.kind = 1 → s.prog.conds.testBit d.a ≠ decide (d.b = 0) → d.timeout ≠ 0 → d.timeout ≤ x.cnt → d.onTimeout = 0xFFFF →
      x.org.sq < 32 → s.hbd.compls.length < 61440 →
      Runs (.seqTimeout q) s fun t =>
        (t.seqr q.val).st = 2 ∧ (t.seqr q.val).cause = 4 ∧ (t.seqr q.val).nxt = x.cur ∧ (t.seqr q.val).pend = true ∧
        t.hbd = (stepReport x .done s.tm.frame x.cur 8 4 0 0 s).hbd ∧ t.out = s.out ∧ t.deck = s.deck) ∧
    (d.timeout = 0 ∨ x.cnt < d.timeout → exec (.seqTimeout q) s = .next s))

/-! Cyclic programs. -/

namespace Sys2Proof.Says

/-- `s` with task `t` replaced. -/
def taskSet (s : State) (t : Nat) (x : Task) : State := { s with prog := { s.prog with tasks := Tab.set s.prog.tasks t x } }

/-- The configuration that a TASK_CFG entry gives (Table 10-3). -/
def taskOf (c : Cmd) : TaskCfg :=
  { given := true, prio := Arg.u c 2 1, rate := Arg.u c 3 1, phase := Arg.u c 4 2, deadline := Arg.u c 6 2
    mask := Arg.u c 8 4, entry := Arg.u c 12 4, budget := Arg.u c 16 4, skipLimit := Arg.u c 20 1
    faultAction := Arg.u c 21 1, autostart := (Arg.u c 22 1).testBit 0, falling := (Arg.u c 22 1).testBit 1
    dataBase := Arg.u c 24 4, dataSize := Arg.u c 28 4, imgIn := Arg.u c 32 4, imgOut := Arg.u c 36 4 }

/-- A task started afresh (R380). -/
def started (x : Task) : Task := { x with started := true, next := 0, skips := 0, overruns := 0, maxOps := 0 }

/-- The tasks whose cycle waits for an engine. -/
def waitingTasks (s : State) : List (Nat × Task) := s.prog.tasks.filter fun q => q.2.cyc.any fun c => c.engine.isNone

/-- What the tap of a recorded variable of a TYPE shows of its bits (Tables 8-2, 10-7). -/
def shownAs (typ v : Nat) : TapVal :=
  if typ = 0 then { fmt := 4, v := Bits.signed 32 v } else if typ = 1 then { fmt := 5, v := v }
  else if typ = 2 then { fmt := 6, v := Bits.signed 64 v } else if typ = 3 then { fmt := 7, v := v } else { fmt := 8, v := v }

end Sys2Proof.Says

/-- PROG_CFG, PROG_LOAD, TASK_CFG, PROG_IMAGE, PROG_MAP: in CONFIGURE with PROGRAM disabled the area is taken and the image
discarded; a file that passes the load checks is placed in the area, one that fails is refused with its check, offset and
number; a cyclic task, an image entry, a recipe variable and a recorded variable are stored, the last with its tap taking the
variable's format and present value, which is the model's choice (R290, R348, R360, R379, R382, R409, R410; log 57).
PROG_CHANGE, FORCE_SET, FORCE_CLEAR, FORCE_READ: a change whose entries name variables of the declared TYPE that the task owns
waits for the task's next cycle start; a force is entered, removed and read, each change of a force is recorded, and one of an
output entry acts at once at the task's own output boundary (R369, R370, R373, R375, R381). -/
def Obligations.ProgramsLoadedChangedAndForced : Prop :=
  (∀ (c : Cmd) (s : State), Names c s 4 → c.unit = 0 → s.md.mode = .configure → s.enabled 4 = false → Rest c 5 →
    (16 ≤ Arg.u c 4 1 → Arg.u c 4 1 ≤ 24 →
      exec (.progCfg c) s = .next (stored c 0x0160
        { s with prog := { s.prog with base := Arg.u c 0 4, sizeLog2 := Arg.u c 4 1, image := {} } })) ∧
    (Arg.u c 4 1 < 16 ∨ 24 < Arg.u c 4 1 →
      exec (.progCfg c) s = .next (answer c 0x0160 .refused 0x4B 0 false s))) ∧
  (∀ (c : Cmd) (s : State) (bs : Bytes), Names c s 4 → c.unit = 0 → s.md.mode = .configure → s.enabled 4 = false → Rest c 12 →
    (LintisCode.check bs (Arg.u c 8 4) s.prog.sizeLog2 = none →
      exec (.progLoad c (some bs)) s = .next (stored c 0x0161
        { s with prog := { s.prog with image := LintisCode.declared bs }
                 deck := LintisCode.place bs s.prog.base s.deck })) ∧
    (∀ code off no, LintisCode.check bs (Arg.u c 8 4) s.prog.sizeLog2 = some (code, off, no) →
      exec (.progLoad c (some bs)) s =
        .next (answer c 0x0161 .refused code (code + off * 2 ^ 64 + no * 2 ^ 96) false s))) ∧
  (∀ (c : Cmd) (s : State), Names c s 4 → c.unit = 0 → s.md.mode = .configure → Rest c 12 →
    exec (.progLoad c none) s = .next (answer c 0x0161 .busError 0 0 false s)) ∧
  (∀ (c : Cmd) (s : State), Names c s 4 → c.unit = 0 → s.md.mode = .configure → s.enabled 4 = false → Rest c 40 →
    Arg.u c 23 1 = 0 → Arg.u c 22 1 < 4 → s.prog.image.given = false → Arg.u c 0 2 ≤ 1023 → (taskOf c).prio ≤ 15 →
    1 ≤ (taskOf c).budget → 1 ≤ (taskOf c).skipLimit → (taskOf c).skipLimit ≤ 16 → (taskOf c).faultAction ≤ 2 →
    ((taskOf c).rate ≤ 7 ∧ (taskOf c).phase < 2 ^ ((taskOf c).rate + 3) ∧ (taskOf c).deadline = 0 ∧
        (taskOf c).mask.testBit 0 = true ∨
      (taskOf c).rate = 255 ∧ (taskOf c).phase = 0 ∧ 1 ≤ (taskOf c).deadline ∧ (taskOf c).mask.testBit 0 = false) →
    exec (.taskCfg c) s = .next (stored c 0x0162 (taskSet s (Arg.u c 0 2) { s.task (Arg.u c 0 2) with cfg := taskOf c }))) ∧
  (∀ (c : Cmd) (s : State), Names c s 4 → c.unit = 0 → s.md.mode = .configure → s.enabled 4 = false → Rest c 24 →
    Arg.u c 3 1 = 0 → Arg.u c 8 4 = 0 → Arg.u c 0 2 ≤ 1023 → Arg.u c 18 2 < 64 → Arg.u c 20 4 = 0 →
    (Arg.u c 2 1 = 0 → Arg.u c 16 1 = 3 → Arg.u c 17 1 = 5 →
      exec (.progImage c) s = .next (stored c 0x0163 (taskSet s (Arg.u c 0 2) { s.task (Arg.u c 0 2) with
        inMap := Tab.set (s.task (Arg.u c 0 2)).inMap (Arg.u c 4 4)
          { off := Arg.u c 12 4, kind := 3, typ := 5, index := Arg.u c 18 2 } }))) ∧
    (Arg.u c 2 1 = 1 → Arg.u c 16 1 = 16 → Arg.u c 17 1 = 5 → (∀ q ∈ s.prog.tasks, q.2.outMap = []) →
      exec (.progImage c) s = .next (stored c 0x0163 (taskSet s (Arg.u c 0 2) { s.task (Arg.u c 0 2) with
        outMap := Tab.set (s.task (Arg.u c 0 2)).outMap (Arg.u c 4 4)
          { off := Arg.u c 12 4, kind := 16, typ := 5, index := Arg.u c 18 2 } })))) ∧
  (∀ (c : Cmd) (s : State), Names c s 4 → c.unit = 0 → s.md.mode = .configure → s.enabled 4 = false → Rest c 12 →
    Arg.u c 1 1 = 0 → Arg.u c 7 1 = 0 → Arg.u c 2 2 ≤ 1023 → Arg.u c 4 2 ≤ 1023 → Arg.u c 6 1 ≤ 4 →
    2 ≤ Arg.u c 8 4 / 2 ^ 28 → Arg.u c 8 4 / 2 ^ 28 ≤ 3 → Arg.u c 8 4 % 4 = 0 →
    s.prog.recipeVars = [] → s.prog.recNums = [] →
    let b : Binding := { given := true, task := Arg.u c 4 2, typ := Arg.u c 6 1, addr := Arg.u c 8 4 }
    let v := Mem.readLe s.deck (Prog.addr s (Arg.u c 8 4 / 2 ^ 28) (Arg.u c 8 4 % 2 ^ 28))
      (if Arg.u c 6 1 = 2 ∨ Arg.u c 6 1 = 4 then 8 else 4)
    (Arg.u c 0 1 = 1 →
      exec (.progMap c) s = .next (stored c 0x0164
        { s with prog := { s.prog with recipeVars := Tab.set [] (Arg.u c 2 2) b } })) ∧
    (Arg.u c 0 1 = 2 →
      exec (.progMap c) s = .next (stored c 0x0164
        { s with prog := { s.prog with recNums := Tab.set [] (Arg.u c 2 2) b }
                 acq := { s.acq with recVals := Tab.set s.acq.recVals (Arg.u c 2 2) (shownAs (Arg.u c 6 1) v) } }))) ∧
  (∀ (c : Cmd) (s : State), Names c s 4 → c.unit = 0 → s.md.mode ∈ [Mode.commission, .run, .hold, .degraded] →
    s.enabled 4 = true → s.hbd.compls.length < 61440 → Arg.u c 2 1 = 1 → Arg.u c 0 2 ≤ 1023 → Arg.u c 3 3 = 0 →
    Arg.u c 11 1 = 0 → Arg.u c 10 1 ≤ 4 → Rest c 20 → (s.task (Arg.u c 0 2)).cfg.given = true →
    (Prog.changeReason s (Arg.u c 0 2) (Arg.u c 6 4, Arg.u c 10 1, Arg.u c 12 8) = none →
      exec (.progChange c) s = .next (accepted c 0x0165 (taskSet s (Arg.u c 0 2) { s.task (Arg.u c 0 2) with
        changes := (s.task (Arg.u c 0 2)).changes ++ [{
          org := { tag := c.tag.toNat, session := c.session.toNat, sq := c.sq.val, opcode := 0x0165 }, app := s.tm.frame
          entries := [(Arg.u c 6 4, Arg.u c 10 1, Arg.u c 12 8)] }] }))) ∧
    (∀ r, Prog.changeReason s (Arg.u c 0 2) (Arg.u c 6 4, Arg.u c 10 1, Arg.u c 12 8) = some r →
      exec (.progChange c) s = .next (answer c 0x0165 .refused r 0 false s))) ∧
  (∀ (c : Cmd) (s : State), Names c s 4 → c.unit = 0 → s.md.mode ∈ [Mode.commission, .run, .hold, .degraded] →
    s.enabled 4 = true → Rest c 24 → Arg.u c 1 1 ≤ 1 → Arg.u c 2 2 ≤ 1023 → Arg.u c 8 1 ≤ 6 → Arg.u c 9 7 = 0 →
    let x := s.task (Arg.u c 2 2)
    let old := Tab.get s.prog.forces (Arg.u c 0 1)
    let f : Force := { inUse := true, kind := Arg.u c 1 1, task := Arg.u c 2 2, addr := Arg.u c 4 4, typ := Arg.u c 8 1
                       value := Arg.u c 16 8, app := s.tm.frame }
    (Tab.get (if Arg.u c 1 1 = 0 then x.inMap else x.outMap) (Arg.u c 4 4)).kind ≠ 0 →
    (∀ q ∈ s.prog.forces, q.1 ≠ Arg.u c 0 1 → q.2.kind = Arg.u c 1 1 → q.2.task = Arg.u c 2 2 → q.2.addr ≠ Arg.u c 4 4) →
    (old.kind = 1 → (s.task old.task).outAt ≠ s.tm.frame + 1) → (f.kind = 1 → x.outAt ≠ s.tm.frame + 1) →
    exec (.forceSet c) s = .next (done c 0x0166 0 (recorded false Event.forceSet (mkSrc 1 4 0) (Arg.u c 0 1) (Arg.u c 16 8)
      { s with prog := { s.prog with
          forces := Tab.set s.prog.forces (Arg.u c 0 1) { f with last := if f.kind = 0 then none else some (Prog.underlying s f) }
          ending := if old.active then s.prog.ending ++ [{ old with app := s.tm.frame }] else s.prog.ending } }))) ∧
  (∀ (c : Cmd) (s : State), Names c s 4 → c.unit = 0 → s.md.mode ∈ [Mode.commission, .run, .hold, .degraded] →
    s.enabled 4 = true → Rest c 24 → Arg.u c 1 1 = 1 → Arg.u c 2 2 ≤ 1023 → Arg.u c 8 1 ≤ 6 → Arg.u c 9 7 = 0 →
    let x := s.task (Arg.u c 2 2)
    let e := Tab.get x.outMap (Arg.u c 4 4)
    e.kind = 16 → x.outAt = s.tm.frame + 1 → s.prog.forces = [] → s.prog.ending = [] →
    Runs (.forceSet c) s fun u =>
      (u.valve e.index).cmd = decide (Arg.u c 16 8 % 2 = 1) ∧ (Tab.get u.prog.forces (Arg.u c 0 1)).active = true ∧
      u.deck = s.deck ∧ u.log.raised = (recorded false Event.forceSet (mkSrc 1 4 0) (Arg.u c 0 1) (Arg.u c 16 8) s).log.raised) ∧
  (∀ (c : Cmd) (s : State), Names c s 4 → c.unit = 0 → s.md.mode ∈ [Mode.commission, .run, .hold, .degraded] →
    s.enabled 4 = true → Rest c 1 →
    let old := Tab.get s.prog.forces (Arg.u c 0 1)
    (old.inUse = true → (old.kind = 1 → (s.task old.task).outAt ≠ s.tm.frame + 1) →
      exec (.forceClear c) s = .next (done c 0x0167 0 (recorded false Event.forceClear (mkSrc 1 4 0) (Arg.u c 0 1) old.value
        { s with prog := { s.prog with
            forces := Tab.erase s.prog.forces (Arg.u c 0 1)
            ending := if old.active then s.prog.ending ++ [{ old with app := s.tm.frame }] else s.prog.ending } }))) ∧
    (old.inUse = false → exec (.forceClear c) s = .next (done c 0x0167 0 s))) ∧
  (∀ (c : Cmd) (s : State), Names c s 4 → c.unit = 0 → s.md.mode ∉ [Mode.reset, .boot] → Rest c 1 →
    let f := Tab.get s.prog.forces (Arg.u c 0 1)
    exec (.forceRead c) s = .next (done c 0x0172
      (f.addr + f.value * 2 ^ 32 + ((if f.inUse then 1 else 0) + 2 * if f.changed then 1 else 0) * 2 ^ 96)
      { s with prog := { s.prog with forces := Tab.set s.prog.forces (Arg.u c 0 1) { f with changed := false } } }))

/-- TASK_CONTROL, TASK_FLAGS, TASK_STATUS, TASK_FAULT_READ, DISPATCH: a task is stopped, started or restarted, its flags are set,
its status and its fault record are read; of the tasks that are ready the one with the lowest priority number goes to the
lowest free engine and consumes the flags of its mask (R347 to R349, R352, R368, R380, R382). -/
def Obligations.TasksAreControlledAndDispatched : Prop :=
  (∀ (c : Cmd) (s : State), Names c s 4 → c.unit = 0 → s.md.mode ∈ [Mode.commission, .run, .hold, .degraded, .safeStop] →
    s.enabled 4 = true → Rest c 3 → Arg.u c 0 2 < 1024 →
    let t := Arg.u c 0 2
    let x := s.task t
    (Arg.u c 2 1 = 0 → (∀ d, x.cyc = some d → d.engine ≠ none) →
      exec (.taskControl c) s = .next (done c 0x0168 0 (taskSet s t { x with started := false }))) ∧
    (Arg.u c 2 1 = 1 → x.faulted = true → exec (.taskControl c) s = .next (answer c 0x0168 .refused 0x49 0 false s)) ∧
    (Arg.u c 2 1 = 1 → x.faulted = false → x.started = true → exec (.taskControl c) s = .next (done c 0x0168 0 s)) ∧
    (Arg.u c 2 1 = 1 → x.faulted = false → x.started = false → x.cfg.given = true →
      exec (.taskControl c) s = .next (done c 0x0168 0 (taskSet s t (started x)))) ∧
    (Arg.u c 2 1 = 2 → x.cfg.given = true →
      exec (.taskControl c) s =
        .next (done c 0x0168 0 (taskSet s t (started { x with faulted := false, actionDue := false }))))) ∧
  (∀ (c : Cmd) (s : State), Names c s 4 → c.unit = 0 → s.md.mode ∈ [Mode.commission, .run, .hold, .degraded, .safeStop] →
    s.enabled 4 = true → Rest c 8 → Arg.u c 0 2 < 1024 → Arg.u c 2 2 = 0 → (s.task (Arg.u c 0 2)).cfg.given = true →
    (Arg.u c 4 4 &&& 0xFFFFFE = Arg.u c 4 4 →
      exec (.taskFlags c) s = .next (done c 0x0169 0 (taskSet s (Arg.u c 0 2)
        { s.task (Arg.u c 0 2) with flags := (s.task (Arg.u c 0 2)).flags ||| Arg.u c 4 4 }))) ∧
    (Arg.u c 4 4 &&& 0xFFFFFE ≠ Arg.u c 4 4 →
      exec (.taskFlags c) s = .next (answer c 0x0169 .refused 0x4A 0 false s))) ∧
  (∀ (c : Cmd) (s : State), Names c s 4 → c.unit = 0 → s.md.mode ∉ [Mode.reset, .boot] → Rest c 2 → Arg.u c 0 2 < 1024 →
    let x := s.task (Arg.u c 0 2)
    let rest := min x.skips 255 * 2 ^ 8 + min x.overruns 65535 * 2 ^ 64 + x.maxOps % 2 ^ 32 * 2 ^ 96
    (x.faulted = true → x.cyc = none → 0 < x.next → x.next < 2 ^ 32 →
      exec (.taskStatus c) s = .next (done c 0x0170 (4 + (x.next - 1) * 2 ^ 32 + rest) s)) ∧
    (∀ d, x.faulted = false → x.cyc = some d → d.engine = none → 0 < x.next →
      exec (.taskStatus c) s = .next (done c 0x0170 (2 + d.num * 2 ^ 32 + rest) s)) ∧
    (∀ d e, x.faulted = false → x.cyc = some d → d.engine = some e →
      exec (.taskStatus c) s = .next (done c 0x0170 (3 + d.num * 2 ^ 32 + rest) s)) ∧
    (x.faulted = false → x.cyc = none → x.started = false → x.next = 0 →
      exec (.taskStatus c) s = .next (done c 0x0170 rest s)) ∧
    (x.faulted = false → x.cyc = none → x.started = true → x.next = 0 → x.flags &&& x.cfg.mask = 0 →
      exec (.taskStatus c) s = .next (done c 0x0170 (1 + rest) s))) ∧
  (∀ (c : Cmd) (s : State), Names c s 4 → c.unit = 0 → s.md.mode ∉ [Mode.reset, .boot] → Rest c 2 → Arg.u c 0 2 < 1024 →
    ((s.task (Arg.u c 0 2)).fault = none → exec (.taskFaultRead c) s = .next (done c 0x0171 0 s)) ∧
    (∀ f, (s.task (Arg.u c 0 2)).fault = some f →
      exec (.taskFaultRead c) s = .next (done c 0x0171 (Arg.u c 0 2 + f.cause * 2 ^ 16 + f.access * 2 ^ 24 +
        f.codeAddr * 2 ^ 32 + f.dataAddr * 2 ^ 64 + f.cycle * 2 ^ 96 + f.frame * 2 ^ 128 + f.engine * 2 ^ 192) s))) ∧
  (∀ s : State, waitingTasks s = [] → exec .dispatch s = .next s) ∧
  (∀ (s : State) (t e : Nat) (x : Task), s.enabled 4 = true →
    s.md.mode ∈ [Mode.commission, .run, .hold, .degraded, .safeStop] → s.task t = x → x.cfg.prio < 16 →
    (t, x) ∈ waitingTasks s → (∀ q ∈ waitingTasks s, q = (t, x) ∨ x.cfg.prio < q.2.cfg.prio) →
    e < 16 → Prog.engineBusy s e = false → (∀ e' < e, Prog.engineBusy s e' = true) →
    exec .dispatch s = .next (Ops.count 4 (if x.lastEngine = some e then 18 else 19) 1 (Ops.count 4 17 1 (taskSet s t { x with
      flags := x.flags - (x.flags &&& x.cfg.mask), lastEngine := some e
      cyc := x.cyc.map fun c => { c with
        engine := some e, flags := x.flags &&& x.cfg.mask, pc := x.cfg.entry, stack := [], ret := [] } }))))

/-! The Benand network. -/

namespace Sys2Proof.Says

/-- `s` with the network part replaced. -/
def netSet (s : State) (n : Net) : State := { s with net := n }

/-- The first minislot the node owns (R447). -/
abbrev FirstMini (s : State) (m : Nat) : Prop :=
  m < s.net.sys.nm ∧ Tab.get s.net.minis m = s.nodeId + 1 ∧ ∀ k < m, Tab.get s.net.minis k ≠ s.nodeId + 1

/-- One of the two Piers. -/
def pierOf (s : State) (b : Bool) : NetPier := if b then s.net.pierB else s.net.pierA

/-- `s` with one of the two Piers replaced. -/
def pierSet (s : State) (b : Bool) (p : NetPier) : State :=
  if b then { s with net := { s.net with pierB := p } } else { s with net := { s.net with pierA := p } }

/-- `s` with a port of a Pier replaced. -/
def portSet (s : State) (b : Bool) (n : Nat) (x : NetPort) : State :=
  pierSet s b { pierOf s b with ports := Tab.set (pierOf s b).ports n x }

/-- The Link counter block of a Pier. -/
def pierRegion (b : Bool) : Nat := if b then 5 else 4

/-- The control time of an instant of the present frame, in 1/256 ns (R88). -/
def controlOf (s : State) (t : Instant) : Int := (Time.edge s.tm t : Int) - s.tm.steps

/-- The reference time of an instant of the present frame (R427). -/
def referenceOf (s : State) (t : Instant) : Int :=
  (Time.edge s.tm t : Int) + (if s.net.ref = s.nodeId + 1 then 0 else s.net.thLast)

end Sys2Proof.Says

/-- NET_SYSTEM, NET_NODES, NET_SLOTS, NET_PUBS, NET_LOCAL: in CONFIGURE with NETWORK disabled the system parameters, a node, the
owner of a slot or minislot, a publication and the receive ring are stored (R414, R426, R448, R450). NET_SEND of 1 to 1,024
bytes joins the queues of the channels it names; NET_NODE_MAP answers 128 nodes of the map and NET_PORT_STATUS what a port
showed at the last cycle boundary (R447, R453). -/
def Obligations.NetworkConfigurationAndSending : Prop :=
  (∀ (c : Cmd) (s : State), Names c s 5 → c.unit = 0 → s.md.mode = .configure → s.enabled 6 = false → Rest c 32 →
    Arg.u c 1 1 = 0 → Arg.u c 19 1 = 0 → Arg.u c 29 1 = 0 →
    let g : NetSys := { given := true, cycleN := Arg.u c 0 1, staticLen := Arg.u c 2 2, ns := Arg.u c 4 2, nm := Arg.u c 6 2
                        slotNs := Arg.u c 8 4, miniNs := Arg.u c 12 4, guard := Arg.u c 16 2, depth := Arg.u c 18 1
                        cable := Arg.u c 20 2, timeMaster := Arg.u c 22 2, casc := Arg.u c 24 2, backup := Arg.u c 26 2
                        stnLoss := Arg.u c 28 1, nodes := Arg.u c 30 2, raw := Arg.u c 0 48 }
    1 ≤ g.cycleN → g.cycleN ≤ 8 → g.staticLen % 8 = 0 → 8 ≤ g.staticLen → g.staticLen ≤ 256 → 8 ≤ g.ns → g.ns ≤ 1024 →
    g.nm ≤ 4096 → (g.nm = 0 → g.miniNs = 0) → 20 ≤ g.guard → g.guard ≤ 1000 → 1 ≤ g.depth → g.depth ≤ 4 → g.cable ≤ 1000 →
    g.timeMaster ≤ 511 → g.casc ≤ 511 → (g.backup ≤ 511 ∨ g.backup = 0xFFFF) → 1 ≤ g.stnLoss → g.stnLoss ≤ 8 → 1 ≤ g.nodes →
    g.nodes ≤ 512 →
    exec (.netSystem c) s = .next (stored c 0x0180 (netSet s { s.net with sys := g }))) ∧
  (∀ (c : Cmd) (s : State), Names c s 5 → c.unit = 0 → s.md.mode = .configure → s.enabled 6 = false → Arg.u c 0 1 = 1 →
    Arg.u c 1 7 = 0 → Arg.u c 13 1 < 4 → Rest c 14 → Arg.u c 8 2 ≤ 511 → (Arg.u c 10 2 ≤ 511 ∨ Arg.u c 10 2 = 0xFFFF) →
    (Arg.u c 12 1 ≤ 7 ∨ Arg.u c 12 1 = 0xFF) →
    exec (.netNodes c) s = .next (stored c 0x0181 (netSet s { s.net with
      nodes := Tab.set s.net.nodes (Arg.u c 8 2) {
        given := true, parent := Arg.u c 10 2, port := Arg.u c 12 1, coldstart := (Arg.u c 13 1).testBit 0
        station := (Arg.u c 13 1).testBit 1, raw := Arg.u c 8 8 } }))) ∧
  (∀ (c : Cmd) (s : State), Names c s 5 → c.unit = 0 → s.md.mode = .configure → s.enabled 6 = false → Arg.u c 2 2 = 1 →
    Rest c 6 → (Arg.u c 4 2 ≤ 511 ∨ Arg.u c 4 2 = 0xFFFF) →
    let held := if Arg.u c 4 2 = 0xFFFF then 0 else Arg.u c 4 2 + 1
    (Arg.u c 0 2 < 1024 →
      exec (.netSlots c) s = .next (stored c 0x0182 (netSet s { s.net with slots := Tab.set s.net.slots (Arg.u c 0 2) held }))) ∧
    (0x8000 ≤ Arg.u c 0 2 → Arg.u c 0 2 < 0x9000 →
      exec (.netSlots c) s = .next (stored c 0x0182
        (netSet s { s.net with minis := Tab.set s.net.minis (Arg.u c 0 2 - 0x8000) held })))) ∧
  (∀ (c : Cmd) (s : State), Names c s 5 → c.unit = 0 → s.md.mode = .configure → s.enabled 6 = false → Arg.u c 0 1 = 1 →
    Arg.u c 1 3 = 0 → Rest c 16 → Arg.u c 4 2 ≤ 511 → Arg.u c 6 1 ∈ [5, 6] → Arg.u c 10 2 = 0 → Arg.u c 12 4 = 0 →
    s.net.pubs = [] → s.mot.remote = [] →
    (Arg.u c 8 2 ≤ 1023 →
      exec (.netPubs c) s = .next (stored c 0x0183 (netSet s { s.net with pubs := [{
        publisher := Arg.u c 4 2, kind := Arg.u c 6 1, index := Arg.u c 7 1, slot := Arg.u c 8 2, size := 0, loc := 0
        raw := Arg.u c 4 12 }] }))) ∧
    (Arg.u c 8 2 = 0xFFFF → exec (.netPubs c) s = .next (stored c 0x0183 s))) ∧
  (∀ (c : Cmd) (s : State), Names c s 5 → c.unit = 0 → s.md.mode = .configure → s.enabled 6 = false → Rest c 1 →
    (Arg.u c 0 1 ≤ 31 ∨ Arg.u c 0 1 = 0xFF →
      exec (.netLocal c) s = .next (stored c 0x0184 (netSet s { s.net with rxRing := Arg.u c 0 1 }))) ∧
    (31 < Arg.u c 0 1 → Arg.u c 0 1 ≠ 0xFF →
      exec (.netLocal c) s = .next (answer c 0x0184 .refused 0x5B 0 false s))) ∧
  (∀ (c : Cmd) (s : State) (bs : Bytes) (m : Nat), Names c s 5 → c.unit = 0 → s.md.mode ∉ [Mode.reset, .boot] → Rest c 12 →
    s.enabled 6 = true → s.hbd.compls.length < 61440 → 1 ≤ Arg.u c 8 2 → Arg.u c 8 2 ≤ 1024 → 1 ≤ Arg.u c 10 1 →
    Arg.u c 10 1 ≤ 3 → Arg.u c 11 1 < 2 → FirstMini s m → m + Net.minislots s.net.sys (Arg.u c 8 2) ≤ s.net.sys.nm →
    s.net.sends.length < 16 →
    exec (.netSend c (some bs)) s = .next (accepted c 0x0501 (netSet s { s.net with sends := s.net.sends ++ [{
      org := { tag := c.tag.toNat, session := c.session.toNat, sq := c.sq.val, opcode := 0x0501 }
      payload := bs.take (Arg.u c 8 2), ts := (Arg.u c 11 1).testBit 0
      waitA := (Arg.u c 10 1).testBit 0, waitB := (Arg.u c 10 1).testBit 1 }] }))) ∧
  (∀ (c : Cmd) (s : State), Names c s 5 → c.unit = 0 → s.md.mode ∉ [Mode.reset, .boot] → Rest c 1 →
    (s.enabled 6 = true → Arg.u c 0 1 ≤ 3 →
      exec (.netNodeMap c) s = .next (done c 0x0521 (s.net.map / 2 ^ (128 * Arg.u c 0 1) % 2 ^ 128) s)) ∧
    (s.enabled 6 = false → exec (.netNodeMap c) s = .next (answer c 0x0521 .refused 0x50 0 false s))) ∧
  (∀ (c : Cmd) (s : State), c.flags = 0 → c.rsv3 = 0 → c.rsv12 = 0 → locDefined c.locN = true → locNode c.locN = s.nodeId →
    locDie c.locN = 3 → locRegion c.locN ∈ [4, 5] → locItem c.locN = 0 → s.md.mode ∉ [Mode.reset, .boot] → Rest c 0 →
    (s.enabled 6 = true →
      exec (.netPortStatus c) s = .next (done c 0x0520
        (Tab.get s.net.portsShown (c.unit + if locRegion c.locN = 5 then 16 else 0)) s)) ∧
    (s.enabled 6 = false → exec (.netPortStatus c) s = .next (answer c 0x0520 .refused 0x50 0 false s)))

/-- STATIC_SLOT_SEND, DYNAMIC_FRAME_SEND, BENAND_FRAME_RX, NETWORK_CYCLE, COLDSTART_OFFER, NET_COLDSTART_FAIL: an owned slot sends
its formed payload on both channels, or NULL; a minislot sends the first waiting frame of its channel; a frame with a bad CRC
is discarded and counted, a valid STATIC one is kept for the next boundary; a cycle boundary takes the map of the nodes in
sync, begins its slots anew and latches the state and the counters that NET_PORT_STATUS shows; the coldstart offer, its
confirmation and its failure (R417, R420, R422 to R425, R439, R447, R453). -/
def Obligations.FramesAreSentAndReceived : Prop :=
  (∀ (s : State) (k : Fin 1024), k.val ≥ s.net.sys.ns ∨ Tab.get s.net.slots k.val ≠ s.nodeId + 1 ∨ k.val ∈ s.net.sent →
    exec (.staticSlotSend k) s = .next s) ∧
  (∀ (s : State) (k : Fin 1024), k.val < s.net.sys.ns → Tab.get s.net.slots k.val = s.nodeId + 1 → k.val ∉ s.net.sent →
    k.val * s.net.sys.slotNs / 15625 = s.tm.frame % 2 ^ s.net.sys.cycleN → s.net.state = 4 → s.net.offering = false →
    let at_ := k.val * s.net.sys.slotNs % 15625 * 256
    let ofs := Net.departure s.tm at_ - at_
    let sent (typ : Nat) (bs : Bytes) (n : Net) : Net := { n with
      txA := Net.frame s typ k.val ofs s.net.nextId (decide (s.net.ref = s.nodeId + 1)) false bs
      txB := Net.frame s typ k.val ofs s.net.nextId (decide (s.net.ref = s.nodeId + 1)) true bs
      nextId := (s.net.nextId + 1) % 2 ^ 16, sent := s.net.sent ++ [k.val] }
    (∀ bs, Tab.get s.net.formed k.val = some bs →
      exec (.staticSlotSend k) s = .next (Ops.count 5 16 1 (netSet s (sent 0 bs s.net)))) ∧
    (Tab.get s.net.formed k.val = none →
      Runs (.staticSlotSend k) s fun t =>
        t.net.txA = (sent 1 [] s.net).txA ∧ t.net.txB = (sent 1 [] s.net).txB ∧ t.net.sent = s.net.sent ++ [k.val] ∧
        t.net.flags.testBit 6 = true ∧ t.out = s.out ∧ t.mot = s.mot ∧ t.prog = s.prog ∧ t.deck = s.deck)) ∧
  (∀ (s : State) (m : Fin 4096) (chB : Bool), s.net.state ≠ 4 ∨ Tab.get s.net.minis m.val ≠ s.nodeId + 1 ∨ s.net.sends = [] →
    exec (.dynamicFrameSend m chB) s = .next s) ∧
  (∀ (s : State) (m : Fin 4096) (r : NetSendReq), s.net.state = 4 → m.val < s.net.sys.nm →
    Tab.get s.net.minis m.val = s.nodeId + 1 →
    (s.net.sys.ns * s.net.sys.slotNs + m.val * s.net.sys.miniNs) / 15625 = s.tm.frame % 2 ^ s.net.sys.cycleN →
    2 * m.val ∉ s.net.dynSent → Net.occupied (s.net.occA ++ s.net.pierA.occ) m.val = false → s.net.sends = [r] →
    r.waitA = true → r.waitB = false → r.ts = false → r.org.sq < 32 → r.id = none → m.val + Net.minislots s.net.sys r.payload.length ≤ s.net.sys.nm →
    let at_ := (s.net.sys.ns * s.net.sys.slotNs + m.val * s.net.sys.miniNs) % 15625 * 256
    Runs (.dynamicFrameSend m false) s fun t =>
      t.net.sends = [] ∧ t.net.occA = s.net.occA ++ [(m.val, Net.minislots s.net.sys r.payload.length)] ∧
      t.net.dynSent = s.net.dynSent ++ [2 * m.val] ∧
      t.net.txA = Net.frame s 2 m.val (Net.departure s.tm at_ - at_) s.net.nextId (decide (s.net.ref = s.nodeId + 1)) false r.payload ∧
      t.net.txB = s.net.txB ∧ t.net.nextId = (s.net.nextId + 1) % 2 ^ 16 ∧
      t.hbd.compls = s.hbd.compls ++ [{ org := r.org, result := s.net.nextId + m.val * 2 ^ 16 +
        (s.tm.frame - s.tm.frame % 2 ^ s.net.sys.cycleN) * 2 ^ 64 }] ∧ t.out = s.out ∧ t.mot = s.mot ∧ t.deck = s.deck) ∧
  (∀ (s : State) (chB : Bool) (rx : RxFrame), s.net.state = 0 → exec (.benandFrameRx chB rx) s = .next s) ∧
  (∀ (s : State) (chB : Bool) (rx : RxFrame), s.net.state ≠ 0 → rx.header.length = 32 →
    rx.payload.length = Bits.leAt rx.header 8 2 → rx.crcOk = false →
    exec (.benandFrameRx chB rx) s = .next (Ops.count 5 18 1 (netSet s { s.net with flags := Bits.setBit s.net.flags 7 true }))) ∧
  (∀ (s : State) (chB : Bool) (rx : RxFrame), s.net.state = 4 → rx.header.length = 32 →
    rx.payload.length = Bits.leAt rx.header 8 2 → rx.crcOk = true → Bits.leAt rx.header 20 8 = s.net.hash →
    Bits.leAt rx.header 0 1 % 16 = 0 → (Bits.leAt rx.header 0 1).testBit 5 = false →
    Bits.leAt rx.header 8 2 = s.net.sys.staticLen →
    let src := Bits.leAt rx.header 4 2
    let slot := Bits.leAt rx.header 6 2
    slot < s.net.sys.ns → Tab.get s.net.slots slot = src + 1 →
    Bits.leAt rx.header 12 8 = s.tm.frame - s.tm.frame % 2 ^ s.net.sys.cycleN → src ≠ s.nodeId → s.net.ref ≠ src + 1 →
    s.net.integ = 0 →
    let sync := (Bits.leAt rx.header 1 1).testBit 0
    exec (.benandFrameRx chB rx) s = .next (Ops.count 5 17 1 (netSet s { s.net with
      quiet := if sync then 0 else s.net.quiet, reason := if sync then 0 else s.net.reason
      seen := if sync then Bits.setBit s.net.seen src true else s.net.seen
      good := Bits.setBit s.net.good src true, gotStatic := Bits.setBit s.net.gotStatic src true
      rx := s.net.rx ++ [{ chB := chB, kind := 0, source := src, slot := slot, id := Bits.leAt rx.header 2 2
                           cycle := Bits.leAt rx.header 12 8, payload := rx.payload, time := Time.edge s.tm rx.t }] }))) ∧
  (∀ s : State, s.net.state = 0 ∨ s.net.lastCycle = s.tm.frame + 1 → exec .networkCycle s = .next s) ∧
  (∀ s : State, s.net.state = 1 → s.net.integ = 0 → s.tm.due (2 ^ s.net.sys.cycleN) 0 = true → s.net.lastCycle ≠ s.tm.frame + 1 →
    s.net.schedDue = false → s.net.offering = false →
    Runs .networkCycle s fun t =>
      t.net.state = 1 ∧ t.net.map = s.net.seen ∧ t.net.seen = 0 ∧ t.net.sent = [] ∧ t.net.dynSent = [] ∧ t.net.occA = [] ∧
      t.net.occB = [] ∧ t.net.lastCycle = s.tm.frame + 1 ∧
      (∀ (b : Bool) (n : Fin 9),
        let p := if b then t.net.pierB else t.net.pierA
        let x := Tab.get p.ports n.val
        let st := if p.mode = 0 then 0 else if n.val ≠ 8 ∧ x.admitted = false then 1 else if x.isolated then 4
                  else if p.mode = 1 then 2 else 3
        Tab.get t.net.portsShown (n.val + if b then 16 else 0) = st + x.viols * 2 ^ 8 + Bits.fitU 32 x.dp * 2 ^ 16 +
          x.forwarded * 2 ^ 48 + x.violTotal * 2 ^ 80 + x.headerErr * 2 ^ 96 + x.codeErr * 2 ^ 112) ∧ t.tm = s.tm ∧ t.md = s.md ∧ t.out = s.out ∧ t.deck = s.deck) ∧
  (∀ s : State, s.net.state = 2 → s.net.integ = 0 → s.net.own = true → 1 ≤ s.net.ownRun →
    s.tm.due (2 ^ s.net.sys.cycleN) 0 = true → s.net.lastCycle ≠ s.tm.frame + 1 →
    s.net.schedDue = false → s.net.pubs = [] →
    Runs .networkCycle s fun t =>
      t.net.state = 4 ∧ t.net.offering = true ∧ t.net.pierA.mode = 2 ∧ t.net.pierB.mode = 2 ∧
      { stamp := s.tm.frame, code := Event.netColdstart, src := mkSrc 1 5 0 : Ev } ∈ t.log.raised) ∧
  (∀ s : State, s.net.state = 1 → (Tab.get s.net.nodes s.nodeId).coldstart = true →
    (4 + 2 * s.nodeId) * 2 ^ s.net.sys.cycleN ≤ s.net.quiet →
    exec .coldstartOffer s = .next (netSet s { s.net with
      state := 2, own := false, other := false, ownRun := 0, lonely := 0, quiet := 0 })) ∧
  (∀ s : State, s.net.state ≠ 1 ∨ (Tab.get s.net.nodes s.nodeId).coldstart = false ∨
      s.net.quiet < (4 + 2 * s.nodeId) * 2 ^ s.net.sys.cycleN →
    exec .coldstartOffer s = .next s) ∧
  (∀ s : State, s.net.state = 2 → 8 ≤ s.net.lonely →
    exec .netColdstartFail s = .next (recorded false Event.netColdstartFail (mkSrc 1 5 0) 0 0
      (netSet s { s.net with state := 1, quiet := 0, lonely := 0 }))) ∧
  (∀ s : State, s.net.state ≠ 2 ∨ s.net.lonely < 8 → exec .netColdstartFail s = .next s)

/-- PIER_START_DELIMITER, SLOT_END_CUT, COLDSTART_LOCK_RELEASE: a port that is down and a Pier in quarantine count what they
receive and forward nothing; in startup mode a frame in sync is forwarded and a first COLDSTART of a child is forwarded and
locks its source; in scheduled mode a static frame within the guard of a slot that its port owns is forwarded, to be cut where
it would outlast its slot, and one outside it is a window violation, the third in succession isolates the port; a transmission
is cut at the end of its slot; the lock of a COLDSTART source lapses after two cycles (R146, R428 to R433, R435, R438).
PROBE_REQ, PROBE_REQ_RX, PROBE_RSP, NET_PORT_DOWN: outside quarantine a configured port's request leaves at the start of the
expansion gap of each cycle in scheduled mode and every 100 µs otherwise; it starts a measurement, and one that was not
answered is counted; an answer carries its turn-round time and gives half of the rest as the port's delay, the sixteenth
within the cable length admits the port; a probe of a node that the topology does not place there keeps the port down on both
channels; a port that goes down, after four unanswered probes or as its receiver tells, loses its measurements and cuts what
it forwards (R434, R435; the header fields of a probe that Table 12-2 does not settle are the model's choice, log 62). -/
def Obligations.PiersForwardAndProbe : Prop :=
  (∀ (s : State) (b : Bool) (n : Fin 9) (h : Bytes) (t : Instant),
    (pierOf s b).mode = 0 ∨ n.val ≠ 8 ∧ (Tab.get (pierOf s b).ports n.val).admitted = false →
    let x := Tab.get (pierOf s b).ports n.val
    exec (.pierStartDelimiter b n h t) s = .next (portSet s b n.val { x with received := (x.received + 1) % 2 ^ 32 })) ∧
  (∀ (s : State) (b : Bool) (n : Fin 9) (h : Bytes) (t : Instant), (pierOf s b).mode = 1 →
    n.val = 8 ∨ (Tab.get (pierOf s b).ports n.val).admitted = true → Bits.leAt h 0 1 % 16 ∉ [5, 6] →
    (Tab.get (pierOf s b).ports n.val).isolated = false → Tab.wf (pierOf s b).ports = true →
    let x := Tab.get (pierOf s b).ports n.val
    let hold := 400 * 256 + (if t.ph.val = 0 then 0 else 640 - 80 * t.ph.val) + if n.val = 8 then 0 else x.dp
    let corr := Bits.fitU 16 ((if n.val = 8 then 0 else Bits.leAt h 28 2) + (Bits.roundDiv (4 * hold : Nat) 256).toNat)
    let y (outs : Nat) : NetPort := { x with
      received := (x.received + 1) % 2 ^ 32, forwarded := (x.forwarded + 1) % 2 ^ 32
      fwd := some { outs := outs, corr := corr, ncorr := 65535 - corr } }
    ((Bits.leAt h 1 1).testBit 0 = true → Runs (.pierStartDelimiter b n h t) s fun u =>
      Tab.get (pierOf u b).ports n.val = y (Pier.outs s b n.val false) ∧ (pierOf u b).lock = (pierOf s b).lock ∧
      pierOf u (!b) = pierOf s (!b) ∧ u.out = s.out ∧ u.mot = s.mot) ∧
    (∀ m, (Bits.leAt h 1 1).testBit 0 = false → Bits.leAt h 0 1 % 16 = 3 → (pierOf s b).uplink = some m → m ≠ n.val →
      m < 8 → (Tab.get (pierOf s b).ports m).admitted = true → (Net.parent s).isSome = true → (pierOf s b).lock = none →
      Runs (.pierStartDelimiter b n h t) s fun u =>
        Tab.get (pierOf u b).ports n.val = y (2 ^ m) ∧
        (pierOf u b).lock = some { source := Bits.leAt h 4 2, time := controlOf s t, port := n.val, fresh := true } ∧
        pierOf u (!b) = pierOf s (!b) ∧ u.out = s.out ∧ u.mot = s.mot) ∧
    ((Bits.leAt h 1 1).testBit 0 = false → Bits.leAt h 0 1 % 16 ≠ 3 → (pierOf s b).uplink ≠ some n.val →
      exec (.pierStartDelimiter b n h t) s = .next (portSet s b n.val { x with received := (x.received + 1) % 2 ^ 32 }))) ∧
  (∀ (s : State) (b : Bool) (n : Fin 9) (h : Bytes) (t : Instant) (q : Nat × Int), (pierOf s b).mode = 2 →
    n.val = 8 ∨ (Tab.get (pierOf s b).ports n.val).admitted = true → Bits.leAt h 0 1 % 16 = 0 →
    Bits.leAt h 28 2 ^^^ Bits.leAt h 30 2 = 0xFFFF → Tab.wf (pierOf s b).ports = true →
    let x := Tab.get (pierOf s b).ports n.val
    let at_ : Int := referenceOf s t - (if n.val = 8 then 0 else 64 * Bits.leAt h 28 2 + x.dp : Nat)
    Pier.nearest s false (Pier.portOwns s b n.val false) at_ = some q →
    (q.2.natAbs ≤ s.net.sys.guard * 256 → x.isolated = false →
      Runs (.pierStartDelimiter b n h t) s fun u =>
        let y := Tab.get (pierOf u b).ports n.val
        let past := q.2 + 8 * (39 + Bits.leAt h 8 2) * 256 - s.net.sys.slotNs * 256
        y.forwarded = (x.forwarded + 1) % 2 ^ 32 ∧ y.received = (x.received + 1) % 2 ^ 32 ∧ y.viols = 0 ∧
        y.fwd.map (fun f => (f.outs, f.cut)) = some (Pier.outs s b n.val false, false) ∧
        y.fwd.bind (·.cutAt) = (if 0 < past then some (referenceOf s t + s.net.sys.slotNs * 256 - q.2) else none) ∧
        pierOf u (!b) = pierOf s (!b) ∧ u.out = s.out ∧ u.mot = s.mot) ∧
    (s.net.sys.guard * 256 < q.2.natAbs →
      Runs (.pierStartDelimiter b n h t) s fun u =>
        let y := Tab.get (pierOf u b).ports n.val
        y.forwarded = x.forwarded ∧ y.violTotal = min (x.violTotal + 1) 65535 ∧ u.net.flags.testBit 0 = true ∧
        (x.isolated = false → x.viols < 2 → y.viols = x.viols + 1 ∧ y.isolated = false) ∧
        (x.isolated = false → 2 ≤ x.viols → y.viols = 0 ∧ y.isolated = true ∧ u.net.flags.testBit 1 = true) ∧
        u.out = s.out ∧ u.mot = s.mot)) ∧
  (∀ (s : State) (b : Bool) (n : Fin 9) (t : Instant), (Tab.get (pierOf s b).ports n.val).fwd = none →
    exec (.slotEndCut b n t) s = .next s) ∧
  (∀ (s : State) (b : Bool) (n : Fin 9) (t : Instant) (f : NetFwd), (Tab.get (pierOf s b).ports n.val).fwd = some f →
    (∀ k, f.cutAt = some k → k ≤ referenceOf s t → f.cut = false →
      exec (.slotEndCut b n t) s = .next (Ops.countDie 3 (pierRegion b) 18 1 (portSet s b n.val
        { Tab.get (pierOf s b).ports n.val with fwd := some { f with cut := true } }))) ∧
    (f.cutAt = none ∨ f.cut = true → exec (.slotEndCut b n t) s = .next s) ∧
    (∀ k, f.cutAt = some k → referenceOf s t < k → exec (.slotEndCut b n t) s = .next s)) ∧
  (∀ (s : State) (b : Bool) (t : Instant), (pierOf s b).lock = none → exec (.coldstartLockRelease b t) s = .next s) ∧
  (∀ (s : State) (b : Bool) (t : Instant) (l : NetLock), (pierOf s b).lock = some l →
    (l.time + 2 * 2 ^ s.net.sys.cycleN * frame256 ≤ controlOf s t →
      exec (.coldstartLockRelease b t) s = .next (pierSet s b { pierOf s b with lock := none })) ∧
    (controlOf s t < l.time + 2 * 2 ^ s.net.sys.cycleN * frame256 →
      exec (.coldstartLockRelease b t) s = .next s)) ∧
  (∀ (s : State) (b : Bool) (n : Fin 8) (t : Instant), (pierOf s b).mode = 0 →
    exec (.probeReq b n t) s = .next s ∧ (∀ src, exec (.probeReqRx b n src t) s = .next s) ∧
    (∀ src turn, exec (.probeRsp b n src turn t) s = .next s)) ∧
  (∀ (s : State) (b : Bool) (n : Fin 8) (t : Instant) (k : Nat), (pierOf s b).mode ≠ 0 → Net.childAt s n.val = some k →
    let x := Tab.get (pierOf s b).ports n.val
    let at_ := controlOf s t
    let gap : Int := ((s.tm.frame - s.tm.frame % 2 ^ s.net.sys.cycleN) * frame256 +
      (s.net.sys.ns * s.net.sys.slotNs + s.net.sys.nm * s.net.sys.miniNs) * 256 : Nat) - s.tm.steps
    let sent := Ops.countDie 3 (pierRegion b) 19 1 (portSet s b n.val { x with
      req := some at_, lastReq := some at_, unanswered := if x.req = none then x.unanswered else x.unanswered + 1
      probeTx := Net.frame s 5 0xFFFF 0 0 (decide (s.net.ref = s.nodeId + 1)) b [] })
    (∀ l, (pierOf s b).mode = 1 → x.lastReq = some l → l + 100000 * 256 ≤ at_ → exec (.probeReq b n t) s = .next sent) ∧
    (∀ l, (pierOf s b).mode = 1 → x.lastReq = some l → at_ < l + 100000 * 256 → exec (.probeReq b n t) s = .next s) ∧
    ((pierOf s b).mode = 1 → x.lastReq = none → exec (.probeReq b n t) s = .next sent) ∧
    (∀ l, (pierOf s b).mode = 2 → x.lastReq = some l → l < gap → gap ≤ at_ → exec (.probeReq b n t) s = .next sent) ∧
    (∀ l, (pierOf s b).mode = 2 → x.lastReq = some l → gap ≤ l ∨ at_ < gap → exec (.probeReq b n t) s = .next s)) ∧
  (∀ (s : State) (b : Bool) (n : Fin 8) (t : Instant) (src : BitVec 16), (pierOf s b).mode ≠ 0 →
    Net.childAt s n.val = some src.toNat → Tab.wf (pierOf s b).ports = true →
    let turn := 800 * 256 + if t.ph.val = 0 then 0 else 640 - 80 * t.ph.val
    Runs (.probeReqRx b n src t) s fun u =>
      Tab.get (pierOf u b).ports n.val = { Tab.get (pierOf s b).ports n.val with
        mismatch := false, turn := turn
        probeTx := Net.frame s 6 0xFFFF 0 0 (decide (s.net.ref = s.nodeId + 1)) b (Bits.toLe 4 turn ++ Bits.toLe 4 0) } ∧
      pierOf u (!b) = pierOf s (!b) ∧ u.log = s.log) ∧
  (∀ (s : State) (b : Bool) (n : Fin 8) (t : Instant) (src : BitVec 16) (k : Nat), (pierOf s b).mode ≠ 0 →
    Net.childAt s n.val = some k → k ≠ src.toNat → Tab.wf (pierOf s b).ports = true → Tab.wf (pierOf s (!b)).ports = true →
    Runs (.probeReqRx b n src t) s fun u =>
      (Tab.get (pierOf u b).ports n.val).admitted = false ∧ (Tab.get (pierOf u b).ports n.val).mismatch = true ∧
      (Tab.get (pierOf u (!b)).ports n.val).admitted = false) ∧
  (∀ (s : State) (b : Bool) (n : Fin 8) (t : Instant) (src : BitVec 16) (turn : BitVec 32) (d : Int), (pierOf s b).mode ≠ 0 →
    Net.childAt s n.val = some src.toNat → Tab.wf (pierOf s b).ports = true →
    let x := Tab.get (pierOf s b).ports n.val
    let m2 : Int := controlOf s t - d - turn.toNat
    x.req = some d → 0 ≤ m2 → (x.meas = [] ∨ (m2 - 2 * (x.dp : Int)).natAbs ≤ 2560) →
    (x.admitted = true ∨ x.meas.length < 15 →
      Runs (.probeRsp b n src turn t) s fun u =>
        let y := Tab.get (pierOf u b).ports n.val
        y.req = none ∧ y.unanswered = 0 ∧ y.meas = (x.meas ++ [m2]).drop (x.meas.length - 15) ∧
        y.dp = (Bits.roundDiv y.meas.sum (2 * y.meas.length)).toNat ∧ y.admitted = x.admitted ∧ u.log = s.log) ∧
    (x.admitted = false → 15 ≤ x.meas.length → (Tab.get (pierOf s (!b)).ports n.val).mismatch = false →
      (Bits.roundDiv ((x.meas ++ [m2]).drop (x.meas.length - 15)).sum 32).toNat ≤ s.net.sys.cable * 256 →
      Runs (.probeRsp b n src turn t) s fun u =>
        (Tab.get (pierOf u b).ports n.val).admitted = true ∧
        u.log.raised = (recorded true (Event.netPortUp b) (mkSrc 3 (pierRegion b) n.val) n.val 0 s).log.raised)) ∧
  (∀ (s : State) (b : Bool) (n : Fin 8) (cause : PortDown),
    (Tab.get (pierOf s b).ports n.val).admitted = false ∨
      cause = .probesUnanswered ∧ (Tab.get (pierOf s b).ports n.val).unanswered < 4 →
    exec (.netPortDown b n cause) s = .next s) ∧
  (∀ (s : State) (b : Bool) (n : Fin 8) (cause : PortDown), (Tab.get (pierOf s b).ports n.val).admitted = true →
    cause ≠ .probesUnanswered ∨ 4 ≤ (Tab.get (pierOf s b).ports n.val).unanswered →
    let x := Tab.get (pierOf s b).ports n.val
    exec (.netPortDown b n cause) s = .next (recorded true (Event.netPortDown b) (mkSrc 3 (pierRegion b) n.val) n.val 0
      (let u := portSet s b n.val { x with
         admitted := false, meas := [], req := none, unanswered := 0
         codeErr := if cause = .codeErrors then min (x.codeErr + 16) 65535 else x.codeErr
         fwd := x.fwd.map fun f => { f with cut := true } }
       { u with net := { u.net with flags := Bits.setBit s.net.flags 2 true } })))

/-! Valve, PWM and trigger outputs and inputs. -/

namespace Sys2Proof.Says

/-- The valve tests of a VALVE_CFG entry (Table 14-9). -/
def valveOf (c : Cmd) : ValveCfg :=
  { drive := Arg.u c 4 1, testEn := (Arg.u c 5 1).testBit 0, rbEn := (Arg.u c 5 1).testBit 1, periodMs := Arg.u c 6 2
    offUs := Arg.u c 8 2, onUs := Arg.u c 10 2, gapUs := Arg.u c 12 2, rbUs := Arg.u c 14 1 }

/-- The level of a PWM ball: its high time while outputs are on and no fault holds the ball off (R31, R106, R524). -/
def pwmBall (s : State) (n : Nat) (x : Pwm) : Bool :=
  x.high && s.stepsOn && s.enabled 9 && decide (x.drive ≠ 0) && !s.fidDown 1 (64 + n)

end Sys2Proof.Says

/-- VALVE_CFG, PWM_CFG, OUTPUT_TEST_START, OUTPUT_TEST_END, OUTPUT_READBACK, OUTPUT_UNTESTED, VALVE_FAULT_CLEAR: a valve and a PWM
output are configured; a test pulse starts only on live outputs, once half the period and the gap have passed and no other
output of the cluster is under test; it ends RB_US after its pulse, and a wrong reading locks the output, a safety output on
both balls, and is recorded; so does a difference outside a test that has lasted RB_US, none of it within RB_US of a change of
state; a test overdue by twice its period is recorded once; a lock is cleared unless the readback still senses on (R516 to
R523). -/
def Obligations.OutputsAreConfiguredAndTested : Prop :=
  (∀ (c : Cmd) (s : State), Names c s 7 → c.unit = 0 → s.md.mode = .configure → s.enabled 8 = false → Arg.u c 1 1 = 1 →
    Arg.u c 2 2 = 0 → Arg.u c 5 1 < 4 → Arg.u c 15 1 = 0 → Rest c 16 → Arg.u c 0 1 ≤ 63 → (valveOf c).drive ≤ 2 →
    let g := valveOf c
    (g.testEn = false ∨ g.rbEn = true ∧ 10 ≤ g.periodMs ∧ g.periodMs ≤ 10000 ∧ 200 ≤ g.offUs ∧ g.offUs ≤ 1000 ∧ 50 ≤ g.onUs ∧
        g.onUs ≤ 200 ∧ 100 ≤ g.gapUs ∧ g.gapUs ≤ 10000 ∧ 1 ≤ g.rbUs ∧ g.rbUs < g.onUs →
      exec (.valveCfg c) s =
        .next (stored c 0x01A0 (s.setValve (Arg.u c 0 1) { s.valve (Arg.u c 0 1) with cfg := g }))) ∧
    (g.testEn = true → g.rbEn = false ∨ g.onUs ≤ g.rbUs →
      exec (.valveCfg c) s = .next (answer c 0x01A0 .refused 0x68 0 false s))) ∧
  (∀ (c : Cmd) (s : State), Names c s 7 → c.unit = 0 → s.md.mode = .configure → s.enabled 9 = false → Arg.u c 1 1 = 1 →
    Arg.u c 2 2 = 0 → Arg.u c 5 1 < 2 → Arg.u c 7 1 = 0 → Rest c 12 → Arg.u c 0 1 ≤ 31 → Arg.u c 4 1 ≤ 3 → Arg.u c 6 1 ≤ 10 →
    (Arg.u c 4 1 = 0 ∨ 8 ≤ Arg.u c 8 4 ∧ Arg.u c 8 4 ≤ 2 ^ 24 →
      exec (.pwmCfg c) s = .next (stored c 0x01A1 (s.setPwm (Arg.u c 0 1) {
        drive := Arg.u c 4 1, sync := (Arg.u c 5 1).testBit 0, syncN := Arg.u c 6 1, period := Arg.u c 8 4 }))) ∧
    (Arg.u c 4 1 ≠ 0 → Arg.u c 8 4 < 8 ∨ 2 ^ 24 < Arg.u c 8 4 →
      exec (.pwmCfg c) s = .next (answer c 0x01A1 .refused 0x69 0 false s))) ∧
  (∀ (s : State) (o : TestedOut) (t : Instant), s.out.live = false ∨ s.stepsOn = false ∨ Out.clusterBusy s o = true →
    exec (.outputTestStart o t) s = .next s) ∧
  (∀ (s : State) (v : Fin 64) (t : Instant),
    let x := s.valve v.val
    s.enabled 8 = true → x.cfg.testEn = true → x.cfg.drive ≠ 0 → s.out.live = true → s.stepsOn = true → x.locked = false →
    x.test.run = none → Out.clusterBusy s (.valve v) = false →
    let p := s.tm.lp + t.lp
    x.test.last + x.cfg.periodMs * 200000 ≤ p →
    x.test.change + (if p < x.test.last + x.cfg.periodMs * 400000 then 10 else 1) * (x.cfg.gapUs * 400) ≤ p →
    exec (.outputTestStart (.valve v) t) s = .next (s.setValve v.val { x with test := { x.test with run := some p } })) ∧
  (∀ (s : State) (v : Fin 64) (i : Instant) (p : Nat) (a b : Bool),
    let x := s.valve v.val
    x.test.run = some p →
    let fin := p + (if x.on then x.cfg.offUs else x.cfg.onUs) * 400 + x.cfg.rbUs * 400
    let t : PulseTest := { x.test with run := none, last := fin, untested := false }
    (s.tm.lp + i.lp < fin → exec (.outputTestEnd (.valve v) a b i) s = .next s) ∧
    (fin ≤ s.tm.lp + i.lp →
      exec (.outputTestEnd (.valve v) true true i) s = .next (s.setValve v.val { x with test := t })) ∧
    (fin ≤ s.tm.lp + i.lp → Tab.wf s.out.valves = true → (a && b) = false →
      Runs (.outputTestEnd (.valve v) a b i) s fun u =>
        u.valve v.val = { x with test := t, locked := true } ∧
        u.log = (recorded true (Event.outputTestFail false) (mkSrc 3 1 v.val) (mkSrc 3 1 v.val) 0 s).log ∧
        u.saf = s.saf ∧ u.md = s.md)) ∧
  (∀ (s : State) (v : Fin 64) (i : Instant) (a b : Bool), (s.valve v.val).test.run = none →
    exec (.outputTestEnd (.valve v) a b i) s = .next s) ∧
  (∀ (s : State) (v : Fin 64) (i : Instant),
    let x := s.valve v.val
    (s.enabled 8 = true → x.cfg.rbEn = true → x.cfg.drive ≠ 0 → x.test.run = none → x.locked = false →
      x.test.change + 2 * (x.cfg.rbUs * 400) ≤ s.tm.lp + i.lp →
      exec (.outputReadback (.valve v) i) s = .next (recorded true (Event.outputReadback false) (mkSrc 3 1 v.val)
        (mkSrc 3 1 v.val) 0 (s.setValve v.val { x with locked := true }))) ∧
    (x.locked = true ∨ x.test.run.isSome = true ∨ s.tm.lp + i.lp < x.test.change + 2 * (x.cfg.rbUs * 400) →
      exec (.outputReadback (.valve v) i) s = .next s)) ∧
  (∀ (s : State) (k : Fin 8) (b2 : Bool) (i : Instant),
    let x := s.safeOut k.val
    let w := Tab.get s.saf.cfg (17 + k.val)
    s.enabled 7 = true → w % 256 ≠ 0 → w.testBit 9 = true → (if b2 then x.test2 else x.test1).run = none →
    x.lockTest = false → x.lockEdm = false →
    (if b2 then x.test2 else x.test1).change + 2 * (Tab.get s.saf.cfg 0 / 2 ^ 96 % 2 ^ 8 * 400) ≤ s.tm.lp + i.lp →
    exec (.outputReadback (.safety k b2) i) s = .next (recorded true (Event.outputReadback true) (mkSrc 3 3 (16 + k.val))
      (mkSrc 3 3 (16 + k.val)) 0 (s.setSafeOut k.val { x with lockTest := true }))) ∧
  (∀ (s : State) (v : Fin 64) (i : Instant),
    let x := s.valve v.val
    s.enabled 8 = true → x.cfg.testEn = true → x.cfg.drive ≠ 0 → s.out.live = true →
    (x.test.untested = false → x.test.last + x.cfg.periodMs * 800000 ≤ s.tm.lp + i.lp →
      exec (.outputUntested (.valve v) i) s = .next (recorded true (Event.outputUntested false) (mkSrc 3 1 v.val)
        (mkSrc 3 1 v.val) 0 (s.setValve v.val { x with test := { x.test with untested := true } }))) ∧
    (x.test.untested = true ∨ s.tm.lp + i.lp < x.test.last + x.cfg.periodMs * 800000 →
      exec (.outputUntested (.valve v) i) s = .next s)) ∧
  (∀ (s : State) (hi : Bool) (value : BitVec 32), s.md.mode ∉ [Mode.reset, .boot] → FieldAnswers s →
    exec (.valveFaultClear hi value) s = .next { s with out := { s.out with
      valves := Tab.mapVals s.out.valves fun v x =>
        let at_ := if hi then 32 else 0
        if at_ ≤ v ∧ v < at_ + 32 ∧ value.toNat.testBit (v - at_) = true ∧ s.out.readback.testBit v = false then
          { x with locked := false }
        else x } })

/-- PWM_PERIOD_START, PWM_HIGH_END, TRIG_IN_EDGE: a period that has run out begins anew at its end with the high time then in
effect, a synchronised one also at its frame timer's boundary, and its high part ends after that time; the ball is high only
while outputs are on; a trigger ball's edge is a candidate for eight lattice points, an edge back withdraws it and a candidate
that has held is accepted with its timestamp (R31, R97, R106, R523, R524, R639). -/
def Obligations.PwmPeriodsAndTriggerEdges : Prop :=
  (∀ (s : State) (n : Fin 32) (t : Instant), s.enabled 9 = false ∨ (s.pwm n.val).drive = 0 →
    exec (.pwmPeriodStart n t) s = .next s) ∧
  (∀ (s : State) (n : Fin 32) (t : Instant), s.enabled 9 = true → (s.pwm n.val).drive ≠ 0 → s.enabled 2 = false →
    let x := s.pwm n.val
    let p := s.tm.lp + t.lp
    let y (q : Nat) : Pwm := { x with start := some q, cur := x.h, high := decide (x.h ≠ 0) }
    let begun (q : Nat) : State := s.setPwm n.val { y q with pin := pwmBall s n.val (y q) }
    let sync := x.sync = true ∧ t.lp = 0 ∧ s.tm.due (2 ^ x.syncN) 0 = true
    (x.start = none → t.lp = 0 → exec (.pwmPeriodStart n t) s = .next (begun p)) ∧
    (x.start = none → t.lp ≠ 0 → exec (.pwmPeriodStart n t) s = .next s) ∧
    (∀ q, x.start = some q → q ≠ p → sync → exec (.pwmPeriodStart n t) s = .next (begun p)) ∧
    (∀ q, x.start = some q → q + x.period ≤ p → ¬ sync → exec (.pwmPeriodStart n t) s = .next (begun (q + x.period))) ∧
    (∀ q, x.start = some q → p < q + x.period → ¬ sync → exec (.pwmPeriodStart n t) s = .next s)) ∧
  (∀ (s : State) (n : Fin 32) (t : Instant) (p : Nat), (s.pwm n.val).start = some p → s.enabled 2 = false →
    let x := s.pwm n.val
    (x.high = true → x.cur < x.period → p + x.cur ≤ s.tm.lp + t.lp →
      exec (.pwmHighEnd n t) s = .next (s.setPwm n.val { x with high := false, pin := false })) ∧
    (x.high = false ∨ x.period ≤ x.cur ∨ s.tm.lp + t.lp < p + x.cur → exec (.pwmHighEnd n t) s = .next s)) ∧
  (∀ (s : State) (n : Fin 8) (level : Bool) (t : Instant), s.tm.lock = false → exec (.trigInEdge n level t) s = .next s) ∧
  (∀ (s : State) (n : Fin 8) (level : Bool) (t : Instant), s.tm.lock = true →
    let x := Tab.get s.out.trigIn n.val
    let p := s.tm.lp + t.lp
    let put (y : TrigIn) : State := { s with out := { s.out with trigIn := Tab.set s.out.trigIn n.val y } }
    let e : TrigEdge := { level := level, time := Time.edge s.tm t }
    (x.cand = none → level ≠ x.now → exec (.trigInEdge n level t) s = .next (put { x with cand := some (p + 8, e) })) ∧
    (∀ q d, x.cand = some (q, d) → p < q → level = x.now →
      exec (.trigInEdge n level t) s = .next (put { x with cand := none })) ∧
    (∀ q d, x.cand = some (q, d) → q ≤ p → d.level ≠ x.now → level = x.now →
      exec (.trigInEdge n level t) s =
        .next (put { x with now := d.level, fresh := x.fresh ++ [d], cand := some (p + 8, e) })))

/-! Safety. -/

namespace Sys2Proof.Says

/-- `s` with the Safety region replaced. -/
def safSet (s : State) (x : Safety) : State := { s with saf := x }

/-- `s` after a safety command has been noted for the edit session's 600 s (R511). -/
def noted (s : State) : State :=
  safSet s { s.saf with session := s.saf.session.map fun q => { q with last := s.tm.control } }

/-- The password of a command: LEN bytes at an argument offset. -/
def pwdOf (c : Cmd) (off : Nat) : Bytes := Arg.bytes c off (Arg.u c 0 1)

/-- Whether a password is 8 to 32 characters from 0x20 to 0x7E (R512). -/
abbrev PwdOk (c : Cmd) (off : Nat) : Prop :=
  8 ≤ Arg.u c 0 1 ∧ Arg.u c 0 1 ≤ 32 ∧ ∀ b ∈ pwdOf c off, 0x20 ≤ b.toNat ∧ b.toNat ≤ 0x7E

/-- The stored form of a password: its SHA-512 digest (R512). -/
def pwdHash (c : Cmd) (off : Nat) : Nat := Bits.ofLe (Crypto.sha512 (pwdOf c off))

/-- `s` with element `i` of the edit copy replaced by the argument bytes. -/
def edited (c : Cmd) (q : SafeSession) (i : Nat) (s : State) : State :=
  safSet s { s.saf with session := some { q with last := s.tm.control, edit := Tab.set q.edit i c.args.toNat } }

end Sys2Proof.Says

/-- SAFETY_UNLOCK, UNLOCK_LOCKOUT_END, SAFETY_SESSION_TIMEOUT, SAFETY_CANCEL, SAFETY_PASSWORD, SAFETY_COMMIT, SAFETY_LOG_READ: the
right password opens an edit session on a copy of the configuration, the fifth wrong one in succession starts the lockout of
60 s; a session ends after 600 s or by SAFETY_CANCEL; a password is stored as its digest; a valid edit copy waits for the next
boundary to take effect; a change-log entry is read in halves (R511 to R513, R515). SAFETY_GLOBAL, SAFETY_INPUT,
SAFETY_OUTPUT, SAFETY_AXIS, SAFETY_SLP: in an edit session an element whose fields are in range replaces that of the edit
copy, one out of range is refused with its element's code, and without a session every one is LOCKED (R492, R511, R512, R526,
R529). -/
def Obligations.SafetySessionsAndElements : Prop :=
  (∀ (c : Cmd) (s : State), Names c s 6 → c.unit = 0 → s.md.mode ∈ [Mode.configure, .commission] → Arg.u c 1 3 = 0 → Rest c 40 →
    (s.saf.lockout ≠ none → exec (.safetyUnlock c) s = .next (answer c 0x0601 .locked 0 0 false (noted s))) ∧
    (s.saf.lockout = none → PwdOk c 8 → s.saf.store.password = some (pwdHash c 8) →
      (s.saf.session = none →
        exec (.safetyUnlock c) s = .next (done c 0x0601 0 (safSet s { s.saf with
          wrong := 0, session := some { operator := Arg.u c 4 4, edit := s.saf.cfg, last := s.tm.control } }))) ∧
      (s.saf.session ≠ none →
        exec (.safetyUnlock c) s = .next (answer c 0x0601 .refused 0x6B 0 false
          (let t := noted s; safSet t { t.saf with wrong := 0 })))) ∧
    (s.saf.lockout = none → s.saf.session = none → (PwdOk c 8 → s.saf.store.password ≠ some (pwdHash c 8)) →
      exec (.safetyUnlock c) s = .next (answer c 0x0601 .locked 0 0 false
        (recorded false Event.safetyUnlockFail (mkSrc 1 6 0) 0 0 (safSet s { s.saf with
          flags := s.saf.flags ||| 16, wrong := if s.saf.wrong = 4 then 0 else s.saf.wrong + 1
          lockout := if s.saf.wrong = 4 then some s.tm.control else none }))))) ∧
  (∀ s : State,
    (∀ t, s.saf.lockout = some t → t + 60 * (sec256 : Int) ≤ s.tm.control + frame256 →
      exec .unlockLockoutEnd s = .next (safSet s { s.saf with lockout := none })) ∧
    (∀ t, s.saf.lockout = some t → s.tm.control + frame256 < t + 60 * (sec256 : Int) →
      exec .unlockLockoutEnd s = .next s) ∧
    (s.saf.lockout = none → exec .unlockLockoutEnd s = .next s) ∧
    (∀ q, s.saf.session = some q → q.last + 600 * (sec256 : Int) ≤ s.tm.control + frame256 →
      exec .safetySessionTimeout s = .next (safSet s { s.saf with session := none })) ∧
    (∀ q, s.saf.session = some q → s.tm.control + frame256 < q.last + 600 * (sec256 : Int) →
      exec .safetySessionTimeout s = .next s) ∧
    (s.saf.session = none → exec .safetySessionTimeout s = .next s)) ∧
  (∀ (c : Cmd) (s : State), Names c s 6 → c.unit = 0 → s.md.mode ∈ [Mode.configure, .commission] → Rest c 0 →
    (s.saf.session = none → exec (.safetyCancel c) s = .next (answer c 0x0603 .locked 0 0 false s) ∧
      exec (.safetyCommit c) s = .next (answer c 0x0602 .locked 0 0 false s)) ∧
    (∀ q, s.saf.session = some q →
      exec (.safetyCancel c) s = .next (done c 0x0603 0 (safSet s { s.saf with session := none })) ∧
      (∀ r, Safe.checkFormat s.nodeId q.edit = some r →
        exec (.safetyCommit c) s = .next (answer c 0x0602 .refused r.1 0 false (noted s))) ∧
      (Safe.checkFormat s.nodeId q.edit = none → Safe.checkRefs s (s.enabled 0) q.edit = none → Mot.allStill s = true →
        (∀ k ∈ s.saf.outs, k.2.ss1 = none) →
        s.pair.cda.channel = false ∨ s.pair.cdb.channel = false ∨ s.saf.crc1 = s.saf.crc2 →
        exec (.safetyCommit c) s = .next (safSet s { s.saf with
          session := none
          commit := some ({ tag := c.tag.toNat, session := c.session.toNat, sq := c.sq.val, opcode := 0x0602 }, q.edit,
            s.saf.crc1, q.operator) })))) ∧
  (∀ (c : Cmd) (s : State), Names c s 6 → c.unit = 0 → s.md.mode ∈ [Mode.configure, .commission] → Arg.u c 1 3 = 0 → Rest c 36 →
    s.saf.session ≠ none ∨ s.saf.store.password = none →
    (PwdOk c 4 → exec (.safetyPassword c) s = .next (done c 0x0604 0 (let t := noted s
        safSet t { t.saf with store := { s.saf.store with password := some (pwdHash c 4) } }))) ∧
    (¬ PwdOk c 4 → exec (.safetyPassword c) s = .next (answer c 0x0604 .refused 0x66 0 false (noted s)))) ∧
  (∀ (c : Cmd) (s : State), Names c s 6 → c.unit = 0 → s.md.mode ∉ [Mode.reset, .boot] → Rest c 2 → Arg.u c 1 1 < 2 →
    let w := match s.saf.store.log[Arg.u c 0 1]? with
      | some e => e.seq + e.sec * 2 ^ 32 + e.ns * 2 ^ 96 + e.operator * 2 ^ 128 + e.oldCrc * 2 ^ 160 + e.newCrc * 2 ^ 192
      | none => 0
    exec (.safetyLogRead c) s = .next (done c 0x0621 (w / 2 ^ (128 * Arg.u c 1 1) % 2 ^ 128) (noted s))) ∧
  (∀ (c : Cmd) (s : State) (q : SafeSession), Names c s 6 → s.md.mode ∈ [Mode.configure, .commission] →
    s.saf.session = some q →
    let w := c.args.toNat
    let f (off len : Nat) : Nat := Arg.u c off len
    (c.unit = 0 → Rest c 13 → Safe.globalOk w = true →
      exec (.safetyGlobal c) s = .next (done c 0x0610 0 (edited c q 0 s))) ∧
    (c.unit = 0 → Rest c 13 → f 0 1 = 0 ∨ 30 < f 0 1 →
      exec (.safetyGlobal c) s = .next (answer c 0x0610 .refused 0x64 0 false (noted s))) ∧
    (c.unit < 16 → Rest c 16 → f 7 1 < 4 →
      ((f 0 1 = 0 ∧ f 1 1 ≤ 1) ∨ (f 0 1 ≤ 5 ∧ f 1 1 ≤ 1 ∧ f 2 2 ≤ 1900 ∧ 1 ≤ f 4 2 ∧ f 4 2 ≤ 500 ∧
          (f 0 1 = 1 → f 6 1 ≠ 0 ∨ (f 7 1).testBit 0 = true)) →
        exec (.safetyInput c) s = .next (done c 0x0611 0 (edited c q (1 + c.unit) s))) ∧
      (5 < f 0 1 → exec (.safetyInput c) s = .next (answer c 0x0611 .refused 0x61 0 false (noted s)))) ∧
    (16 ≤ c.unit → c.unit < 24 → Rest c 4 → f 1 1 < 4 →
      (f 0 1 = 0 ∨ f 0 1 ≤ 2 ∧ 10 ≤ f 2 2 ∧ f 2 2 ≤ 10000 →
        exec (.safetyOutput c) s = .next (done c 0x0612 0 (edited c q (1 + c.unit) s))) ∧
      (2 < f 0 1 → exec (.safetyOutput c) s = .next (answer c 0x0612 .refused 0x62 0 false (noted s)))) ∧
    (64 ≤ c.unit → Rest c 40 → f 0 1 < 8 → f 3 1 = 0 →
      (f 1 1 ≤ 7 → f 2 1 ≤ 1 → 1 ≤ f 16 4 → 0 < Arg.s c 24 8 → 0 < Arg.s c 32 8 →
        exec (.safetyAxis c) s = .next (done c 0x0613 0 (edited c q (c.unit - 39) s))) ∧
      (7 < f 1 1 → exec (.safetyAxis c) s = .next (answer c 0x0613 .refused 0x63 0 false (noted s)))) ∧
    (64 ≤ c.unit → Rest c 20 →
      (Arg.s c 0 8 < Arg.s c 8 8 → exec (.safetySlp c) s = .next (done c 0x0614 0 (edited c q (c.unit + 25) s))) ∧
      (Arg.s c 8 8 ≤ Arg.s c 0 8 →
        exec (.safetySlp c) s = .next (answer c 0x0614 .refused 0x63 0 false (noted s))))) ∧
  (∀ (c : Cmd) (s : State), Names c s 6 → s.md.mode ∈ [Mode.configure, .commission] → s.saf.session = none →
    (c.unit = 0 → Rest c 13 → exec (.safetyGlobal c) s = .next (answer c 0x0610 .locked 0 0 false s)) ∧
    (64 ≤ c.unit → Rest c 20 → exec (.safetySlp c) s = .next (answer c 0x0614 .locked 0 0 false s)))

/-- SAFETY_INPUT_ACCEPT, SAFETY_DISCREPANCY, SAFETY_VERDICT_EXCHANGE, SAFETY_CHANNEL_RESTORED: a ball's level is accepted when it
has held for FILT_US, and the instant since which the accepted levels of the two balls disagree is kept; a disagreement of
DISC_MS is recorded; a low ball of a present channel demands the groups of its stop-demand input; verdicts that differ are
recorded and stop the machine while both channels are present; a channel is restored after 64 equal verdicts (R490 to R493,
R509). -/
def Obligations.SafetyVerdicts : Prop :=
  (∀ (s : State) (k : Fin 16) (b2 level : Bool) (held : Nat) (t : Instant),
    s.tm.lock = false ∨ held < Tab.get s.saf.cfg (1 + k.val) / 2 ^ 16 % 2 ^ 16 * 400 →
    exec (.safetyInputAccept k b2 level held t) s = .next s) ∧
  (∀ (s : State) (k : Fin 16) (b2 level : Bool) (held : Nat) (t : Instant), s.tm.lock = true →
    Tab.get s.saf.cfg (1 + k.val) / 2 ^ 16 % 2 ^ 16 * 400 ≤ held →
    let w := Tab.get s.saf.cfg (1 + k.val)
    let x := Tab.get s.saf.ins k.val
    let l1 := if b2 then x.lev1 else some level
    let l2 := if b2 then some level else x.lev2
    let differ := l1.isSome && l2.isSome && (decide (l1 = some false) != decide (l2 = some (decide (w / 256 % 256 = 1))))
    exec (.safetyInputAccept k b2 level held t) s = .next (safSet s { s.saf with
      ins := Tab.set s.saf.ins k.val { x with
        lev1 := l1, lev2 := l2, since := if differ then some (x.since.getD (s.tm.lp + t.lp)) else none } })) ∧
  (∀ (s : State) (k : Fin 16) (t : Instant),
    let x := Tab.get s.saf.ins k.val
    let w := Tab.get s.saf.cfg (1 + k.val)
    (x.since = none ∨ s.enabled 7 = false ∨ w % 256 = 0 ∨ x.disc = true → exec (.safetyDiscrepancy k t) s = .next s) ∧
    (∀ p, x.since = some p → s.enabled 7 = true → w % 256 ≠ 0 → x.disc = false →
      (p + w / 2 ^ 32 % 2 ^ 16 * 400000 ≤ s.tm.lp + t.lp →
        exec (.safetyDiscrepancy k t) s = .next (recorded true Event.safetyDiscrepancy (mkSrc 1 6 k.val) k.val 0
          (safSet s { s.saf with ins := Tab.set s.saf.ins k.val { x with disc := true, discSeen := false } }))) ∧
      (s.tm.lp + t.lp < p + w / 2 ^ 32 % 2 ^ 16 * 400000 → exec (.safetyDiscrepancy k t) s = .next s))) ∧
  (∀ (s : State) (x : BitVec 32), s.saf.judged = true → x = 0 ∨ s.enabled 7 = false →
    exec (.safetyVerdictExchange x) s = .next s) ∧
  (∀ (s : State) (x : BitVec 32), s.saf.judged = true → x ≠ 0 → s.enabled 7 = true → s.pair.cda.channel = true →
    s.pair.cdb.channel = true →
    exec (.safetyVerdictExchange x) s = .next (recorded true Event.safetyXcomp (mkSrc 1 6 0) x.toNat 0
      (let t := safSet s { s.saf with flags := s.saf.flags ||| 1 }
       { t with md := { t.md with stopCauses := s.md.stopCauses ++ [5] } }))) ∧
  (∀ (s : State) (k j : Nat), k < 16 → j < 8 → s.saf.judged = false → s.enabled 7 = true → s.saf.begun = true →
    s.pair.cda.channel = true → (Tab.get s.saf.ins k).lat1 = some false →
    let w := Tab.get s.saf.cfg (1 + k)
    w % 256 = 1 → (w / 2 ^ 48 % 256).testBit j = true →
    Runs (.safetyVerdictExchange 0) s fun t =>
      t.saf.judged = true ∧ (j, LatchSrc.input k, (w / 2 ^ 56 % 256).testBit 1) ∈ t.saf.next) ∧
  (∀ s : State, s.pair.st = 1 → s.pair.cda.channel = false → s.pair.cdb.channel = true → 64 ≤ s.pair.cda.rebuilt →
    exec (.safetyChannelRestored .cda) s = .next (recorded true Event.safetyChannelRestored (mkSrc 1 6 0) 1 0
      (let t := safSet s { s.saf with crc1 := if s.saf.loaded then Safe.crc s.saf.cfg else 0
                                      crc2 := if s.saf.loaded then Safe.crc s.saf.cfg else 0 }
       { t with pair := { t.pair with cda := { s.pair.cda with channel := true, rebuilt := 0 } } }))) ∧
  (∀ s : State, s.pair.cda.rebuilt < 64 ∨ s.pair.cda.channel = true → exec (.safetyChannelRestored .cda) s = .next s)

/-- SAFETY_ACK, SAFE_SELECT, SAFETY_AXIS_STATUS, SS1_STANDSTILL, SS1_TIMEOUT, SAFETY_EDM_FAULT: an output whose demands have gone
is released at the next boundary and the acknowledgement is recorded, another is refused; a function is selected on the axes
of a mask; the axis status answers the monitored speeds; a group that has stood still for eight boundaries, or runs out its
SS1 time, goes off; a contradicting EDM input locks its output (R500, R503, R504, R526, R527). -/
def Obligations.SafetyDemandsAndReleases : Prop :=
  (∀ (c : Cmd) (s : State) (k : Fin 8), Names c s 6 → c.unit = 0 → s.md.mode ∈ [Mode.commission, .run, .hold, .degraded] →
    Rest c 1 → Arg.u c 0 1 = 2 ^ k.val → Tab.get s.saf.cfg (17 + k.val) % 256 ≠ 0 → Tab.wf s.saf.outs = true →
    (s.enabled 7 = true → Safe.releasable s k.val = true →
      Runs (.safetyAck c) s fun t =>
        t.safeOut k.val = { s.safeOut k.val with
          latch := [], lockTest := false, lockEdm := false, stuck1 := false, stuck2 := false, onNext := true } ∧
        (∀ j, j ≠ k.val → t.safeOut j = s.safeOut j) ∧ t.hbd = (done c 0x0605 0 s).hbd ∧
        t.log = (recorded false Event.safetyAck (mkSrc 1 6 0) (2 ^ k.val) 0 s).log ∧ t.mot = s.mot ∧ t.out = s.out ∧ t.md = s.md) ∧
    (s.enabled 7 = true → Safe.releasable s k.val = false →
      exec (.safetyAck c) s = .next (answer c 0x0605 .refused 0x67 0 false (noted s))) ∧
    (s.enabled 7 = false → exec (.safetyAck c) s = .next (answer c 0x0605 .refused 0x60 0 false (noted s)))) ∧
  (∀ (c : Cmd) (s : State), Names c s 6 → c.unit = 0 → s.md.mode ∈ [Mode.commission, .run, .hold, .degraded] → Rest c 10 →
    1 ≤ Arg.u c 8 1 → Arg.u c 8 1 ≤ 3 → Arg.u c 9 1 < 2 → s.enabled 7 = true →
    let axes := (List.range 64).filter fun a => (Arg.u c 0 8).testBit a
    let has (a : Nat) : Bool := (Tab.get s.saf.cfg (25 + a) % 256).testBit (if Arg.u c 8 1 = 1 then 0 else 2)
    ((∀ a ∈ axes, has a = true) →
      exec (.safeSelect c) s = .next (done c 0x0606 0 (let t := noted s
        Safe.bars (safSet t { t.saf with axes := Tab.modifyAll s.saf.axes axes fun _ y =>
          { y with sel := Bits.setBit y.sel (Arg.u c 8 1 - 1) (decide (Arg.u c 9 1 = 1)) } })))) ∧
    ((∃ a ∈ axes, has a = false) →
      exec (.safeSelect c) s = .next (answer c 0x0606 .refused 0x6C 0 false (noted s)))) ∧
  (∀ (c : Cmd) (s : State), Names c s 6 → 64 ≤ c.unit → s.md.mode ∉ [Mode.reset, .boot] → Rest c 0 →
    let a := c.unit - 64
    let w := Tab.get s.saf.cfg (25 + a)
    let y := Tab.get s.saf.axes a
    let g := w / 256 % 256
    let b (p : Prop) [Decidable p] (n : Nat) : Nat := if p then n else 0
    (s.enabled 7 = true → y.hist = [] →
      exec (.safetyAxisStatus c) s = .next (done c 0x0620 (Bits.unsigned 32 y.ve + Bits.unsigned 32 y.vc * 2 ^ 32 +
        (b (y.sls.isSome = true) 1 + b (y.sdiPos.isSome = true ∨ y.sdiNeg.isSome = true) 2 +
          b ((s.axis a).safeRef.isSome = true) 4 + b (w ≠ 0 ∧ (s.safeOut g).ss1.isSome = true) 8 +
          b (w ≠ 0 ∧ (s.safeOut g).off = true) 16 + b (y.viol ≠ 0 ∨ y.posDisc = true) 32) * 2 ^ 96 + g * 2 ^ 104) (noted s))) ∧
    (s.enabled 7 = false → exec (.safetyAxisStatus c) s = .next (answer c 0x0620 .refused 0x60 0 false (noted s)))) ∧
  (∀ (s : State) (k : Fin 8), (s.safeOut k.val).ss1 = none →
    exec (.ss1Standstill k) s = .next s ∧ exec (.ss1Timeout k) s = .next s) ∧
  (∀ (s : State) (k : Fin 8) (r : Ss1), (s.safeOut k.val).ss1 = some r →
    let late := r.t0 + (Tab.get s.saf.cfg (17 + k.val) / 2 ^ 16 % 2 ^ 16 * 256000000 : Nat)
    let offNext := s.setSafeOut k.val { s.safeOut k.val with offNext := true }
    (8 ≤ r.still → exec (.ss1Standstill k) s = .next offNext) ∧ (r.still < 8 → exec (.ss1Standstill k) s = .next s) ∧
    (late ≤ s.tm.control → exec (.ss1Timeout k) s = .next offNext) ∧
    (s.tm.control < late → exec (.ss1Timeout k) s = .next s)) ∧
  (∀ (s : State) (i : Fin 16) (t : Instant),
    let k := i.val / 2
    let x := s.safeOut k
    let w := Tab.get s.saf.cfg (17 + k)
    let on := if i.val % 2 = 0 then x.on1 else x.on2
    s.enabled 7 = true → w % 256 ≠ 0 → w.testBit 8 = true → x.lockEdm = false →
    (on = s.saf.edm.testBit i.val →
      Tab.get s.saf.edmSince i.val + (Tab.get s.saf.cfg 0 / 2 ^ 80 % 2 ^ 16 * 256000000 : Nat) ≤
          (s.tm.edge t : Int) - s.tm.steps →
      exec (.safetyEdmFault i t) s = .next (recorded true Event.safetyEdmFault (mkSrc 1 6 (24 + i.val)) i.val 0
        (s.setSafeOut k { x with lockEdm := true }))) ∧
    (on ≠ s.saf.edm.testBit i.val → x.stuck1 = false → x.stuck2 = false → exec (.safetyEdmFault i t) s = .next s))

/-! Trust, identity and debug. -/

namespace Sys2Proof.Says

/-- `s` with the trust store replaced. -/
def trustSet (s : State) (t : Trust) : State := { s with trust := t }

end Sys2Proof.Says

/-- TRUST_SVN_COMMIT raises each kind's fused SVN to that of the running image, never lowering it, and fuses their REVOKE bits; in
CONFIGURE only; refused with 0x92 unless PAIR_STATE is 1; DONE with the new values; a commit that changes nothing writes no
fuse (R605). -/
def Obligations.SvnCommitRaisesTheFusedVersions : Prop :=
  ∀ (c : Cmd) (s : State), NamesHbd c s 3 → c.unit = 0 → Rest c 0 →
    (s.md.mode = .configure → s.pair.st = 1 →
      let t := s.trust
      let a := max t.svn1 t.run1.1
      let b := max t.svn2 t.run2.1
      let d := max t.svn3 t.run3.1
      let r := t.revoked ||| t.run1.2 ||| t.run2.2 ||| t.run3.2
      exec (.trustSvnCommit c) s = .next (doneHbd c 0x0901 (a + b * 2 ^ 8 + d * 2 ^ 16 + r * 2 ^ 24)
        (trustSet s { t with svn1 := a, svn2 := b, svn3 := d, revoked := r }))) ∧
    (s.md.mode = .configure → s.pair.st = 1 → s.trust.run1.1 ≤ s.trust.svn1 → s.trust.run2.1 ≤ s.trust.svn2 →
      s.trust.run3.1 ≤ s.trust.svn3 → s.trust.revoked ||| s.trust.run1.2 ||| s.trust.run2.2 ||| s.trust.run3.2 = s.trust.revoked →
      Runs (.trustSvnCommit c) s fun t => t.trust = s.trust) ∧
    (s.md.mode = .configure → s.pair.st ≠ 1 →
      exec (.trustSvnCommit c) s = .next (answerHbd c 0x0901 .refused 0x92 s)) ∧
    (s.md.mode ∉ [Mode.reset, .boot, .configure] →
      exec (.trustSvnCommit c) s = .next (answerHbd c 0x0901 .wrongMode 0 s))

/-- TRUST_PROVISION, ATTEST, IDENTITY_CERT: a customer key that its own signature proves is burnt once; the report and its
signature, and the certificate, are written to host memory (R606 to R608). -/
def Obligations.KeysAreProvisionedAndAttested : Prop :=
  (∀ (c : Cmd) (s : State) (bs : Bytes), NamesHbd c s 3 → c.unit = 0 → s.md.mode = .configure → Rest c 8 → Arg.u c 0 8 % 64 = 0 →
    let key := Bits.slice bs 0 32
    let good := Crypto.edVerify key (Crypto.sha512 (Trusted.identity ++ Bits.toLe 8 Config.serial.toNat ++ key)) (Bits.slice bs 32 64)
    (s.trust.customer = 0 →
      exec (.trustProvision c (some bs)) s = .next (if good = true then
        doneHbd c 0x0902 0 (trustSet s { s.trust with customer := Bits.ofLe key }) else answerHbd c 0x0902 .refused 0x94 s)) ∧
    (s.trust.customer ≠ 0 → exec (.trustProvision c (some bs)) s = .next (answerHbd c 0x0902 .refused 0x93 s)) ∧
    (s.trust.customer = 0 → exec (.trustProvision c none) s = .next (answerHbd c 0x0902 .busError 0 s))) ∧
  (∀ (c : Cmd) (s : State), NamesHbd c s 3 → c.unit = 0 → s.md.mode ∉ [Mode.reset, .boot] →
    (Rest c 40 → Arg.u c 0 8 % 64 = 0 →
      let b := Trusted.reportBody c s
      exec (.attest c) s = .next (doneHbd c 0x0910 (s.tm.frame % 2 ^ 64) { s with hbd := { s.hbd with
        mem := Mem.write s.hbd.mem (Arg.u c 0 8) (b ++ Crypto.edSign Trusted.seed (Crypto.sha512 b)) } })) ∧
    (Rest c 8 → Arg.u c 0 8 % 64 = 0 →
      exec (.identityCert c) s = .next (doneHbd c 0x0911 0 { s with hbd := { s.hbd with
        mem := Mem.write s.hbd.mem (Arg.u c 0 8) (Crypto.edPublic Trusted.seed ++ Bits.toLe 8 Config.serial.toNat ++
          Bits.toLe 1 (if Config.grade then 1 else 0) ++ List.replicate 23 0#8 ++
          (List.range 64).map fun i => Config.certSignature i) } })) ∧
    (Rest c 40 → Arg.u c 0 8 % 64 ≠ 0 →
      exec (.attest c) s = .next (answerHbd c 0x0910 .refused 0x91 s)))

/-- DEBUG_CHALLENGE, DEBUG_CHALLENGE_EXPIRY, DEBUG_UNLOCK, DEBUG_LOCK, DEBUG_SCOPE_EXPIRY, TAP_INSTRUCTION: a fresh challenge
replaces the outstanding one and is valid for 60 s; a token for it opens its scopes for its lifetime, field scope in CONFIGURE
only, and uses it up; with no valid challenge a token is refused; scopes close by command, and each at the end of its own
lifetime, and closing field scope resets the field side; with its scope closed a test access port is in BYPASS and changes
nothing (R609 to R611, R647). With its scope open the spec gives the instruction no effect, and the model refuses it. The
challenge's bits are a free value. -/
def Obligations.DebugScopesOpenAndClose : Prop :=
  (∀ (c : Cmd) (s : State), NamesHbd c s 3 → c.unit = 0 → s.md.mode ∉ [Mode.reset, .boot] → Rest c 0 →
    ∃ ch, exec (.debugChallenge c) s = .next (doneHbd c 0x0920 ch
      (trustSet s { s.trust with
        challenge := some ch, draws := s.trust.draws + 1, challengeUntil := s.tm.control + 60 * (sec256 : Int) }))) ∧
  (∀ (s : State) (t : Instant),
    (s.trust.challengeUntil ≤ (s.tm.edge t : Int) - s.tm.steps →
      exec (.debugChallengeExpiry t) s = .next (trustSet s { s.trust with challenge := none })) ∧
    ((s.tm.edge t : Int) - s.tm.steps < s.trust.challengeUntil → exec (.debugChallengeExpiry t) s = .next s)) ∧
  (∀ (c : Cmd) (s : State) (bs : Bytes), NamesHbd c s 3 → c.unit = 0 → s.md.mode ∉ [Mode.reset, .boot] → Rest c 8 →
    Arg.u c 0 8 % 64 = 0 →
    let scope := Bits.leAt bs 24 4
    let till := s.tm.control + (Bits.leAt bs 28 4 : Nat) * (sec256 : Int)
    (∀ ch, s.trust.challenge = some ch → s.tm.control < s.trust.challengeUntil →
      scope.testBit 1 = false ∨ s.md.mode = .configure →
      exec (.debugUnlock c (some bs)) s = .next (if Trusted.tokenOk s.trust ch bs = true then
        doneHbd c 0x0921 0 (trustSet s { s.trust with
          challenge := none
          hbdScope := s.trust.hbdScope || scope.testBit 0, fieldScope := s.trust.fieldScope || scope.testBit 1
          hbdUntil := if scope.testBit 0 then till else s.trust.hbdUntil
          fieldUntil := if scope.testBit 1 then till else s.trust.fieldUntil })
        else answerHbd c 0x0921 .refused 0x96 (trustSet s { s.trust with challenge := none }))) ∧
    (s.trust.challenge = none ∨ s.trust.challengeUntil ≤ s.tm.control → scope.testBit 1 = false →
      exec (.debugUnlock c (some bs)) s = .next (answerHbd c 0x0921 .refused 0x95 s)) ∧
    (scope.testBit 1 = true → s.md.mode ≠ .configure →
      exec (.debugUnlock c (some bs)) s = .next (answerHbd c 0x0921 .wrongMode 0 s)) ∧
    exec (.debugUnlock c none) s = .next (answerHbd c 0x0921 .busError 0 s)) ∧
  (∀ (c : Cmd) (s : State), NamesHbd c s 3 → c.unit = 0 → s.md.mode ∉ [Mode.reset, .boot] → Rest c 0 →
    (s.trust.fieldScope = false →
      exec (.debugLock c) s = .next (doneHbd c 0x0922 0 (trustSet s { s.trust with hbdScope := false, fieldScope := false }))) ∧
    (s.trust.fieldScope = true → s.md.mode = .configure →
      Runs (.debugLock c) s fun t => FieldCleared 1 (trustSet s { s.trust with hbdScope := false }) t)) ∧
  (∀ (s : State) (t : Instant), s.trust.fieldScope = false → s.trust.hbdScope = true →
    (s.trust.hbdUntil ≤ (s.tm.edge t : Int) - s.tm.steps →
      exec (.debugScopeExpiry t) s = .next (trustSet s { s.trust with hbdScope := false })) ∧
    ((s.tm.edge t : Int) - s.tm.steps < s.trust.hbdUntil → exec (.debugScopeExpiry t) s = .next s)) ∧
  (∀ (s : State) (t : Instant), s.trust.fieldScope = false → s.trust.hbdScope = false → exec (.debugScopeExpiry t) s = .next s) ∧
  (∀ (s : State) (t : Instant), s.trust.fieldScope = true → s.trust.hbdScope = true → s.trust.hbdUntil < s.trust.fieldUntil →
    s.trust.hbdUntil ≤ (s.tm.edge t : Int) - s.tm.steps →
    exec (.debugScopeExpiry t) s = .next (trustSet s { s.trust with hbdScope := false })) ∧
  (∀ (s : State) (t : Instant), s.trust.fieldScope = true → s.trust.hbdScope = false →
    s.md.mode ∈ [Mode.reset, .boot, .configure] → s.trust.fieldUntil ≤ (s.tm.edge t : Int) - s.tm.steps →
    Runs (.debugScopeExpiry t) s fun t => FieldCleared 1 s t) ∧
  (∀ (s : State) (ir : Nat), (s.trust.hbdScope = false → exec (.tapInstruction false ir) s = .next s) ∧
    (s.trust.fieldScope = false → exec (.tapInstruction true ir) s = .next s) ∧
    (s.trust.hbdScope = true → exec (.tapInstruction false ir) s = .refused .debugTapOpen) ∧
    (s.trust.fieldScope = true → exec (.tapInstruction true ir) s = .refused .debugTapOpen))

/-! The host side. -/

namespace Sys2Proof.Says

/-- `s` with the HBD replaced. -/
def hbdSet (s : State) (h : Hbd) : State := { s with hbd := h }

/-- Host memory after a 32-byte entry of a completion or stream ring and the ring's CQ_TAIL in the doorbell page (R535,
R537). -/
def afterEntry (s : State) (c bytes : Nat) : Mem :=
  let k := Tab.get s.hbd.cqTail c
  let r := Tab.get s.hbd.rings (32 + c)
  Mem.writeLe (Mem.writeLe s.hbd.mem (r.base + k % 2 ^ (r.size % 32) * 32) 32 bytes) (s.hbd.dbBase + 0x8C0 + 4 * c) 4
    ((k + 1) % 2 ^ 32)

/-- What writing one entry into ring `c` leaves: the entry, the tail, and the ring's interrupt source with THRESHOLD 1. -/
abbrev EntryWritten (s t : State) (c bytes : Nat) : Prop :=
  t.hbd.mem = afterEntry s c bytes ∧ t.hbd.cqTail = Tab.set s.hbd.cqTail c ((Tab.get s.hbd.cqTail c + 1) % 2 ^ 32) ∧
    ((Tab.get s.hbd.rings (32 + c)).threshold = 1 → t.hbd.irqSource.testBit c = true) ∧ t.deck = s.deck ∧ t.md = s.md ∧
    t.out = s.out ∧ t.mot = s.mot

/-- Whether the engine may write to host memory (R536, R550). -/
abbrev Writing (s : State) : Prop := s.hbd.sess = 1 ∧ s.hbd.pollEn = true

/-- Whether upstream messages pass: a Barrier Link is up and the HBD has not told the dies to hold them. -/
abbrev Flows (s : State) : Prop := (s.pair.linkA = true ∨ s.pair.linkB = true) ∧ s.hbd.upHeld = false

/-- Whether ring `c` is of a KIND, in use and has room (R537, R544). -/
abbrev RingTakes (s : State) (c kind : Nat) : Prop :=
  (Tab.get s.hbd.rings (32 + c)).size / 2 ^ 16 % 4 = kind ∧ (Tab.get s.hbd.rings (32 + c)).size % 32 ≠ 0 ∧
    (Tab.get s.hbd.cqTail c + 2 ^ 32 - Tab.get s.hbd.cqHead c) % 2 ^ 32 < 2 ^ ((Tab.get s.hbd.rings (32 + c)).size % 32)

/-- `s` with a host DMA channel replaced. -/
def hdmaSet (s : State) (h : Nat) (d : Hdma) : State := hbdSet s { s.hbd with hdma := Tab.set s.hbd.hdma h d }

/-- A completion by the HBD of a command. -/
def hbdCompl (o : Origin) (st : Status) (result : Nat) : Compl := { org := o, status := st, result := result, atHbd := true }

/-- `s` with the interim completion ACCEPTED of a command that the HBD carries out. -/
def acceptedHbd (c : Cmd) (op : Nat) (s : State) : State :=
  hbdSet s { s.hbd with compls := s.hbd.compls ++ [{
    org := { tag := c.tag.toNat, session := c.session.toNat, sq := c.sq.val, opcode := op }
    status := .accepted, interim := true, atHbd := true }] }

end Sys2Proof.Says

/-- COMPLETION, STREAM, COUNTER_DUMP, EVENT, FIELD_RECORDER_RESTART, RING_IRQ_DELAY, ACK: with the session open and polling
enabled the oldest completion, the entries of a stream ring and the HBD's dump entries are written at their rings' tails, and
a field record into the mirror ring behind its head word; a final completion ends its command's wait; with no session open or
polling off no completion and no stream entry is written (R300, R479, R533, R535 to R537, R542, R544, R552, R577, R585, R587,
R588, R592). -/
def Obligations.RingsAndMirrorAreWritten : Prop :=
  (∀ (s : State) (r : Fin 32), s.hbd.sess ≠ 1 ∨ s.hbd.pollEn = false →
    exec .completion s = .next s ∧ exec (.stream r) s = .next s) ∧
  (∀ (s : State) (k : Compl) (rest : List Compl) (x : Outstanding), Writing s → s.hbd.compls = k :: rest →
    (k.atHbd = true ∨ Flows s) → s.hbd.outstanding = [x] → x.org = k.org → k.dup = false → k.interim = false →
    let c := (Tab.get s.hbd.rings k.org.sq).size / 2 ^ 8 % 32
    RingTakes s c 1 →
    Runs .completion s fun t =>
      EntryWritten s t c (k.org.tag + k.org.opcode * 2 ^ 32 + k.status.code * 2 ^ 48 + k.reason * 2 ^ 56 +
        k.result % 2 ^ 128 * 2 ^ 64 + k.org.session * 2 ^ 192 + k.org.sq * 2 ^ 208 +
        (if x.period = s.hbd.period then 0 else 2) * 2 ^ 216 + Tab.get s.hbd.cqTail c % 2 ^ 32 * 2 ^ 224) ∧
      t.hbd.compls = rest ∧ t.hbd.outstanding = []) ∧
  (∀ (s : State) (r : Fin 32) (e : SEntry), Writing s → Flows s → RingTakes s r.val 2 → Tab.get s.hbd.streams r.val = [e] →
    (Runs (.stream r) s fun t =>
      EntryWritten s t r.val e.bytes ∧ t.hbd.streams = Tab.set s.hbd.streams r.val [] ∧ t.hbd.compls = s.hbd.compls) ∧
    (s.hbd.hdumps = [] → s.log.dumpRing = r.val →
      Runs .counterDump s fun t => EntryWritten s t r.val e.bytes ∧ t.hbd.streams = Tab.set s.hbd.streams r.val [])) ∧
  (∀ (s : State) (body seq : Nat), Writing s → s.pair.linkA = false → s.pair.linkB = false → s.hbd.hdumps = [(body, seq)] →
    RingTakes s (s.hbd.hdumpCfg % 32) 2 →
    Runs .counterDump s fun t =>
      EntryWritten s t (s.hbd.hdumpCfg % 32) (body % 2 ^ 224 + seq * 2 ^ 224) ∧ t.hbd.hdumps = []) ∧
  (∀ s : State, s.hbd.mirrorCfg.testBit 16 = false → exec .event s = .next s ∧ exec .fieldRecorderRestart s = .next s) ∧
  (∀ (s : State) (r : HRec), Writing s → Flows s → s.hbd.mirrorCfg.testBit 16 = true → s.hbd.mirrorCfg % 32 ≠ 0 →
    s.hbd.hRing = [] → s.hbd.restart = false → s.hbd.fieldRecs = [r] →
    Runs .event s fun t =>
      t.hbd.fieldRecs = [] ∧ t.hbd.mirFHead = r.seq ∧ t.hbd.irqSource.testBit (64 + r.code / 0x2000) = true ∧
      t.hbd.mem = Mem.writeLe (Mem.writeLe s.hbd.mem s.hbd.mirFBase 4 r.seq)
        (s.hbd.mirFBase + 64 + 32 * (r.seq % 2 ^ (s.hbd.mirrorCfg % 32))) 32
        (r.seq + r.sec * 2 ^ 32 + r.ns * 2 ^ 96 + r.code * 2 ^ 128 + r.src * 2 ^ 144 + r.p0 * 2 ^ 160 + r.p1 * 2 ^ 192 +
          (r.seq ^^^ 0x5A5A5A5A) * 2 ^ 224) ∧ t.deck = s.deck ∧ t.md = s.md ∧ t.out = s.out) ∧
  (∀ s : State, Writing s → s.hbd.mirrorCfg.testBit 16 = true → s.hbd.mirrorCfg % 32 ≠ 0 → s.hbd.restart = true →
    Runs .fieldRecorderRestart s fun t =>
      t.hbd.restart = false ∧ t.hbd.epoch = (s.hbd.epoch + 1) % 256 ∧ t.hbd.lastOld = 0 ∧
      t.hbd.mem = Mem.writeLe s.hbd.mem (s.hbd.mirFBase + 4) 4 ((s.hbd.epoch + 1) % 256)) ∧
  (∀ (s : State) (r : Fin 32) (us : Nat),
    let g := Tab.get s.hbd.rings (32 + r.val)
    (g.threshold ≠ 0 → g.delayUs ≠ 0 → g.delayUs ≤ us → Tab.get s.hbd.unsignalled r.val ≠ 0 →
      exec (.ringIrqDelay r us) s = .next (Ops.fire r.val (hbdSet s { s.hbd with
        unsignalled := Tab.set s.hbd.unsignalled r.val 0 }))) ∧
    (g.threshold = 0 ∨ g.delayUs = 0 ∨ us < g.delayUs ∨ Tab.get s.hbd.unsignalled r.val = 0 →
      exec (.ringIrqDelay r us) s = .next s)) ∧
  (∀ s : State, exec .ack s = .next (hbdSet s { s.hbd with upAcked := s.hbd.upNum }))

/-- DMA_TO_DECK, DMA_FROM_DECK, HDMA_DESCRIPTOR_FETCHED, HDMA_DATA_DONE, BULK_UP, BULK_DOWN: a command in range starts a chain on
its idle channel and is ACCEPTED; a descriptor gives the next transfer or the next descriptor's address; data for the Decks
crosses in bulk messages and is written into the Deck at their application frame; data from the Deck reaches host memory, and
the last of it completes the command (R554 to R559, R564, R571, R572). HDMA_PAUSE, HDMA_PAUSE_CLEAR, HDMA_RESUME,
HDMA_BUS_ERROR, FDMA_PAUSE, FDMA_RESUME, ABORT: a channel without data on the way pauses at once and goes on when neither
PAUSE nor a closed session holds it; the only channel with a read outstanding completes BUS_ERROR, several of them stop;
pauses and stops of field DMA channels are written; an aborted chain, and a waiting safety change, end ABORTED, and an abort
without a target answers NOTHING_TO_ABORT (R51 to R54, R555, R560, R562, R563, R565, R566). -/
def Obligations.DmaMovesPausesAndAborts : Prop :=
  (∀ (c : Cmd) (s : State), NamesHbd c s 2 → c.unit < 15 → s.md.mode ∉ [Mode.reset, .boot] → Arg.u c 17 1 < 2 → Rest c 18 →
    s.pair.linkA = true ∨ s.pair.linkB = true → s.hbd.compls.length < 61440 → Arg.u c 0 8 % 16 = 0 → Arg.u c 16 1 ≤ 31 →
    let chained := (Arg.u c 17 1).testBit 0
    (if chained then Arg.u c 12 4 = 0 else 1 ≤ Arg.u c 12 4 ∧ Arg.u c 12 4 ≤ 2 ^ 24 ∧ Arg.u c 8 4 + Arg.u c 12 4 ≤ 2 ^ 25) →
    (Tab.get s.hbd.hdma c.unit).work = none → Dma.fchBusy s (Arg.u c 16 1) = false →
    let d := Tab.get s.hbd.hdma c.unit
    let work (op : Nat) (up : Bool) : Chain :=
      { org := { tag := c.tag.toNat, session := c.session.toNat, sq := c.sq.val, opcode := op }, toDeck := up
        left := Arg.u c 12 4, deckChain := chained, deck := if chained then 0 else Arg.u c 8 4
        deckNext := if chained then Arg.u c 8 4 else 0, fch := Arg.u c 16 1 }
    let began (op : Nat) (up : Bool) : State := hdmaSet s c.unit { d with
      chain := Arg.u c 0 8, bytes := 0, descs := 0, work := some (work op up)
      st := if d.pause = true ∨ s.hbd.sess ≠ 1 then 3 else 1 }
    (chained = true ∨ Areas.hitsEnabled s (Arg.u c 8 4) (Arg.u c 12 4) = false →
      exec (.dmaToDeck c) s = .next (acceptedHbd c 0x0A10 (began 0x0A10 true))) ∧
    exec (.dmaFromDeck c) s = .next (acceptedHbd c 0x0A11 (began 0x0A11 false))) ∧
  (∀ (s : State) (h : Fin 16) (desc : BitVec 128) (w : Chain),
    let d := Tab.get s.hbd.hdma h.val
    d.work = some w → d.st = 1 → w.len = 0 → w.inFlight = 0 → w.ending = none → w.load = none → w.deckChain = false →
    Adc.mayWrite s w.fch = true → d.descs + 1 < d.limit → d.descs + 1 < 2 ^ 32 →
    let addr := desc.toNat % 2 ^ 64
    let len := desc.toNat / 2 ^ 64 % 2 ^ 32
    let fl := desc.toNat / 2 ^ 96
    let after (y : Nat) (x : Chain) : State :=
      Ops.countDie 0 2 16 1 (hdmaSet s h.val { d with descs := d.descs + 1, chain := y, work := some x })
    (fl = 0 → 1 ≤ len → len ≤ 2 ^ 24 → len < w.left →
      exec (.hdmaDescriptorFetched h desc) s = .next (after ((d.chain + 16) % 2 ^ 64)
        { w with addr := addr, len := len, last := false, left := w.left - len, lastAddr := d.chain })) ∧
    (fl = 1 → 1 ≤ len → len ≤ 2 ^ 24 → len = w.left →
      exec (.hdmaDescriptorFetched h desc) s = .next (after ((d.chain + 16) % 2 ^ 64)
        { w with addr := addr, len := len, last := true, left := 0, lastAddr := d.chain, ending := some .done })) ∧
    (fl = 2 → len = 0 → addr % 16 = 0 →
      exec (.hdmaDescriptorFetched h desc) s = .next (after addr { w with lastAddr := d.chain }))) ∧
  (∀ (s : State) (h : Fin 16) (desc : BitVec 128) (data : Bytes), (Tab.get s.hbd.hdma h.val).work = none →
    exec (.hdmaDescriptorFetched h desc) s = .next s ∧ exec (.hdmaDataDone h data) s = .next s ∧
    exec (.bulkUp h) s = .next s) ∧
  (∀ (s : State) (h : Fin 16) (data : Bytes) (w : Chain),
    let d := Tab.get s.hbd.hdma h.val
    d.work = some w → d.st = 1 → w.load = none → w.deckChain = false → Adc.mayWrite s w.fch = true → w.inFlight = 0 →
    1 ≤ w.len → w.len ≤ 4095 → w.ending = some .done →
    (w.toDeck = true → data.length = w.len → s.hbd.down = [] → w.deck < 2 ^ 25 →
      Runs (.hdmaDataDone h data) s fun t =>
        t.hbd.down = [⟨s.hbd.downNum, 2, .bulk (.deck h (BitVec.ofNat 25 w.deck) data)⟩] ∧
        (Tab.get t.hbd.hdma h.val).work =
          some { w with deck := w.deck + w.len, addr := w.addr + w.len, len := 0, inFlight := w.len } ∧
        t.deck = s.deck ∧ t.hbd.mem = s.hbd.mem) ∧
    (w.toDeck = false → w.word.2 = [] → s.pair.linkA = true ∨ s.pair.linkB = true → s.pair.active ≠ 0 → w.org.sq < 32 →
      let moved (t : State) : Prop :=
        t.hbd.mem = Mem.write s.hbd.mem w.addr (Mem.read s.deck w.deck w.len) ∧ t.deck = s.deck ∧
        t.hbd.compls = s.hbd.compls ++ [hbdCompl w.org .done
          ((d.bytes + w.len) % 2 ^ 32 + d.descs * 2 ^ 32 + w.lastAddr * 2 ^ 64)]
      Runs (.bulkUp h) s moved ∧ Runs (.hdmaDataDone h data) s moved)) ∧
  (∀ (s : State) (h : Fin 16) (off : BitVec 25) (data : Bytes), s.pair.active ≠ 0 → off.toNat + data.length ≤ 2 ^ 25 →
    ((Tab.get s.hbd.hdma h.val).work = none →
      exec (.bulkDown (.deck h off data)) s = .next { s with deck := Mem.write s.deck off.toNat data }) ∧
    (∀ w, (Tab.get s.hbd.hdma h.val).work = some w → (Tab.get s.hbd.hdma h.val).st = 1 → w.load = none → w.len = 0 →
      w.inFlight = data.length → 1 ≤ data.length → w.ending = some .done → w.org.sq < 32 →
      Runs (.bulkDown (.deck h off data)) s fun t =>
        t.deck = Mem.write s.deck off.toNat data ∧
        t.hbd.compls = s.hbd.compls ++ [hbdCompl w.org .done (((Tab.get s.hbd.hdma h.val).bytes + data.length) % 2 ^ 32 +
          (Tab.get s.hbd.hdma h.val).descs * 2 ^ 32 + w.lastAddr * 2 ^ 64)])) ∧
  (∀ (s : State) (session : BitVec 16) (tag : BitVec 32) (data : Bytes), s.pair.active ≠ 0 → s.staged = [] →
    exec (.bulkDown (.load session tag 0 data)) s =
      .next { s with staged := [(session.toNat, tag.toNat, Bits.patch [] 0 data)] }) ∧
  (∀ (s : State) (data : Bytes), s.boot.cda.st = 2 → s.boot.cda.img = [] →
    s.pair.linkA = true ∨ s.pair.linkB = true →
    exec (.bulkDown (.image .cda 0 data)) s =
      .next { s with boot := { s.boot with cda := { s.boot.cda with img := data } } }) ∧
  (∀ (s : State) (h : Fin 16) (w : Chain),
    let d := Tab.get s.hbd.hdma h.val
    d.work = some w →
    (d.st = 1 → w.toDeck = false ∨ w.len = 0 ∧ w.inFlight = 0 →
      let asked := hdmaSet s h.val { d with pause := true }
      exec (.hdmaPause h) s = .next (Ops.fire (32 + h.val) (Ops.countDie 0 2 18 1
        (hdmaSet asked h.val { d with pause := true, st := 3 })))) ∧
    (d.st = 3 → s.hbd.sess = 1 → w.ending = none →
      Runs (.hdmaPauseClear h) s fun t =>
        Tab.get t.hbd.hdma h.val = { d with pause := false, st := 1 } ∧ t.deck = s.deck ∧ t.hbd.mem = s.hbd.mem) ∧
    (d.st = 4 → s.hbd.sess = 1 → d.pause = false → w.ending = none →
      Runs (.hdmaResume h) s fun t =>
        Tab.get t.hbd.hdma h.val = { d with st := 1 } ∧ t.deck = s.deck ∧ t.hbd.mem = s.hbd.mem) ∧
    (d.st ≠ 4 → exec (.hdmaResume h) s = .next s)) ∧
  (∀ (s : State) (h : Fin 16) (w : Chain) (addr : BitVec 64) (cause : BusCause),
    let d := Tab.get s.hbd.hdma h.val
    d.work = some w → d.st = 1 → w.load = none → w.inFlight = 0 → w.org.sq < 32 → (w.len = 0 ∧ w.ending = none ∨ w.len ≠ 0 ∧ w.toDeck = true) →
    (∀ k < 16, k ≠ h.val → (Tab.get s.hbd.hdma k).work = none) → s.hbd.loadQueue = [] →
    Runs (.hdmaBusError addr (BitVec.ofNat 16 (2 ^ h.val)) cause) s fun t =>
      t.hbd.hdmaErr = addr.toNat ∧ t.hbd.irqSource.testBit 48 = true ∧
      t.hbd.hdmaErrInfo = 2 ^ h.val + (match cause with | .timeout => 1 | .unsupported => 2 | .abort => 3) * 2 ^ 16 ∧
      t.hbd.compls = s.hbd.compls ++ [hbdCompl w.org .busError (d.bytes + d.descs * 2 ^ 32 + w.lastAddr * 2 ^ 64)] ∧
      t.deck = s.deck ∧ t.hbd.mem = s.hbd.mem) ∧
  (∀ (s : State) (v : BitVec 32), s.md.mode ∉ [Mode.reset, .boot] → s.boot.ended = true →
    s.pair.linkA = true ∨ s.pair.linkB = true →
    exec (.fdmaPause v) s = .next { s with acq := { s.acq with fdmaPause := v.toNat } } ∧
    exec (.fdmaResume v) s = .next { s with acq := { s.acq with fdmaStopped := Bits.w1c s.acq.fdmaStopped v.toNat 32 } }) ∧
  (∀ (c : Cmd) (s : State), NamesHbd c s 1 → c.unit = 0 → s.md.mode ∉ [Mode.reset, .boot] → Rest c 6 →
    let target (o : Origin) : Prop := o.tag = Arg.u c 0 4 ∧
      o.session = (if Arg.u c 4 2 = 0 then c.session.toNat else Arg.u c 4 2) ∧ o.sq < 32
    (∀ (h : Fin 16) (d : Hdma) (w : Chain), s.hbd.hdma = [(h.val, d)] → d.work = some w → target w.org →
      w.load = none → w.last = false → w.ending = none → w.inFlight = 0 →
      Runs (.abort c) s fun t =>
        t.hbd.compls = s.hbd.compls ++ [hbdCompl w.org .aborted (d.bytes + d.descs * 2 ^ 32 + w.lastAddr * 2 ^ 64),
          hbdCompl { tag := c.tag.toNat, session := c.session.toNat, sq := c.sq.val, opcode := 0x0A01 } .done 0] ∧
        t.deck = s.deck ∧ t.hbd.mem = s.hbd.mem ∧ t.out = s.out) ∧
    (s.hbd.hdma = [] → s.hbd.loadQueue = [] → s.acq.cap = [] → s.hbd.down = [] → s.mot.axes = [] → s.loop.slots = [] →
      s.prog.seqs = [] → s.net.sends = [] → s.prog.tasks = [] →
      (s.saf.commit = none → exec (.abort c) s = .next (answer c 0x0A01 .nothingToAbort 0 0 false s)) ∧
      (∀ o r, s.saf.commit = some (o, r) → target o →
        Runs (.abort c) s fun t =>
          t.saf = { s.saf with commit := none } ∧
          t.hbd.compls = s.hbd.compls ++ [{ org := o, status := .aborted },
            { org := { tag := c.tag.toNat, session := c.session.toNat, sq := c.sq.val, opcode := 0x0A01 } }])))

/-- DB_POLL, DOORBELL_POLL, DOORBELL_BUS_ERROR, SUBMISSION_READ_FAIL, RING_ERR_CLEAR, SESSION_CTRL_CLOSE, HOST_SESSION_CLOSED:
polling is set up with an interval of 1 to 64 us; a poll opens the session that the page names, closes one whose page reads 0,
and reads the waiting entries of a ring, which then await their completion and cross the barrier; a failed poll stops polling
and closes the session; a failed read stops its ring; a close ends in CLOSED (R534, R538 to R541, R543, R546, R549 to R551,
R658). -/
def Obligations.DoorbellsAndSessions : Prop :=
  (∀ (s : State) (v : BitVec 32),
    (1 ≤ v.toNat % 128 → v.toNat % 128 ≤ 64 →
      exec (.dbPoll v) s = .next (hbdSet s { s.hbd with
        pollUs := v.toNat % 128, pollEn := v.toNat.testBit 8
        polled := s.hbd.polled && s.hbd.pollEn && v.toNat.testBit 8 })) ∧
    (v.toNat % 128 = 0 ∨ 64 < v.toNat % 128 → exec (.dbPoll v) s = .next (Ops.violation 0x0038 2 true 15 s))) ∧
  (∀ (s : State) (p : DoorbellPage) (us : Nat), s.hbd.pollEn = false ∨ s.hbd.sess = 2 ∨ s.hbd.polled = true ∧ us < s.hbd.pollUs →
    exec (.doorbellPoll p us) s = .next s) ∧
  (∀ (s : State) (p : DoorbellPage) (us : Nat), s.hbd.pollEn = true → s.hbd.sess = 0 →
    s.hbd.polled = false ∨ s.hbd.pollUs ≤ us →
    (p.session.toNat = 0 → Runs (.doorbellPoll p us) s fun t =>
      t.hbd.sess = 0 ∧ t.hbd.polls = (s.hbd.polls + 1) % 2 ^ 32 ∧
      t.hbd.mem = Mem.writeLe s.hbd.mem (s.hbd.dbBase + 0x804) 4 ((s.hbd.polls + 1) % 2 ^ 32) ∧ t.md = s.md ∧ t.out = s.out) ∧
    (1 ≤ p.session.toNat → p.session.toNat ≤ 65535 → s.hbd.openOk = true → s.hbd.hdma = [] → s.hbd.loadQueue = [] →
      Runs (.doorbellPoll p us) s fun t =>
        t.hbd.sess = 1 ∧ t.hbd.sessNum = p.session.toNat ∧ t.hbd.sqHead = [] ∧ t.hbd.cqTail = [] ∧ t.hbd.cqHead = [] ∧
        t.hbd.changes = (s.hbd.changes + 1) % 2 ^ 16 ∧ t.hbd.irqSource.testBit 50 = true ∧ t.md = s.md ∧ t.out = s.out)) ∧
  (∀ (s : State) (p : DoorbellPage) (us : Nat), s.hbd.pollEn = true → s.hbd.sess = 1 → s.hbd.hdma = [] → p.session.toNat = 0 →
    s.hbd.polled = false ∨ s.hbd.pollUs ≤ us →
    Runs (.doorbellPoll p us) s fun t => t.hbd.sess = 2 ∧ t.hbd.upHeld = true ∧ t.hbd.irqSource.testBit 50 = true) ∧
  (∀ (s : State) (p : DoorbellPage) (us : Nat) (q : Fin 32) (e : Entry), s.hbd.pollEn = true → s.hbd.sess = 1 →
    s.hbd.polled = false ∨ s.hbd.pollUs ≤ us →
    p.session.toNat = s.hbd.sessNum → 1 ≤ s.hbd.sessNum → s.hbd.sessNum ≤ 65535 → s.hbd.compls = [] → s.hbd.outstanding = [] →
    (Tab.get s.hbd.rings q.val).size % 32 ≠ 0 → (∀ k < 32, k ≠ q.val → (Tab.get s.hbd.rings k).size % 32 = 0) →
    s.hbd.ringErr.testBit q.val = false → Tab.get s.hbd.sqHead q.val < 2 ^ 32 - 1 →
    (p.sqTail.getD q.val 0).toNat = Tab.get s.hbd.sqHead q.val + 1 → p.entries = [(q.val, [e])] →
    e.opcode = 0x0A02#16 → Names e.cmd s 7 → e.cmd.unit = 0 → Rest e.cmd 0 → s.md.mode ∉ [Mode.reset, .boot] →
    s.pair.linkA = true ∨ s.pair.linkB = true →
    let f : Cmd := { e.cmd with sq := q, session := BitVec.ofNat 16 s.hbd.sessNum }
    Runs (.doorbellPoll p us) s fun t =>
      t.hbd.sqHead = Tab.set s.hbd.sqHead q.val (Tab.get s.hbd.sqHead q.val + 1) ∧
      t.hbd.down = s.hbd.down ++ [⟨s.hbd.downNum, 2, .command { opcode := 0x0A02#16, cmd := f }⟩] ∧
      t.hbd.outstanding = [{ org := { tag := f.tag.toNat, session := s.hbd.sessNum, sq := q.val, opcode := 0x0A02 }
                             sent := true, period := s.hbd.period }] ∧
      t.hbd.compls = [] ∧ t.md = s.md ∧ t.out = s.out ∧ t.deck = s.deck) ∧
  (∀ (s : State) (k : BusCause),
    (s.hbd.pollEn = false → exec (.doorbellBusError k) s = .next s) ∧
    (s.hbd.pollEn = true → s.hbd.sess = 1 → s.hbd.hdma = [] →
      Runs (.doorbellBusError k) s fun t =>
        t.hbd.pollEn = false ∧ t.hbd.dbErr = true ∧ t.hbd.sess = 2 ∧ t.hbd.irqSource.testBit 49 = true)) ∧
  (∀ (s : State) (q : Fin 32) (k : BusCause),
    let l := (Tab.get s.hbd.rings q.val).size % 32
    (Writing s → l ≠ 0 → s.hbd.ringErr.testBit q.val = false →
      exec (.submissionReadFail q k) s = .next (Ops.fire 57 (Ops.hRaise Event.ringError (mkSrc 0 1 q.val) q.val
        ((Tab.get s.hbd.rings q.val).base + Tab.get s.hbd.sqHead q.val % 2 ^ l * 64)
        (hbdSet s { s.hbd with ringErr := s.hbd.ringErr + 2 ^ q.val })))) ∧
    (l = 0 ∨ s.hbd.ringErr.testBit q.val = true → exec (.submissionReadFail q k) s = .next s)) ∧
  (∀ (s : State) (v : BitVec 32), s.hbd.ringErr < 2 ^ 32 → ∃ t : State, exec (.ringErrClear v) s = .next t ∧
    t = hbdSet s { s.hbd with ringErr := t.hbd.ringErr } ∧
    ∀ i, t.hbd.ringErr.testBit i = (s.hbd.ringErr.testBit i && !v.toNat.testBit i)) ∧
  (∀ (s : State) (v : BitVec 32),
    (v.toNat.testBit 2 = true → s.hbd.sess = 1 → s.hbd.hdma = [] →
      Runs (.sessionCtrlClose v) s fun t => t.hbd.sess = 2 ∧ t.hbd.upHeld = true ∧ t.hbd.irqSource.testBit 50 = true) ∧
    (v.toNat.testBit 2 = false → v.toNat.testBit 3 = true →
      exec (.sessionCtrlClose v) s = .next (hbdSet s { s.hbd with dbErr := false })) ∧
    (v.toNat.testBit 2 = false → v.toNat.testBit 3 = false → exec (.sessionCtrlClose v) s = .next s)) ∧
  (∀ s : State,
    (s.hbd.sess = 2 → s.hbd.reads = false → Runs .hostSessionClosed s fun t =>
      t.hbd.sess = 0 ∧ t.hbd.sessNum = 0 ∧ t.hbd.irqSource.testBit 50 = true ∧
      t.hbd.mem = Mem.writeLe s.hbd.mem (s.hbd.dbBase + 0x800) 4 0 ∧ t.md = s.md ∧ t.out = s.out) ∧
    (s.hbd.sess ≠ 2 ∨ s.hbd.reads = true → exec .hostSessionClosed s = .next s))

/-- LOW_HALF_READ, PAIR_WINDOW_READ, DIAG_REQUEST, DIAG_REPLY, DIAG_REPLY_TIMEOUT, SETUP_WRITE, PAIR_WRITE, COMMAND, NOP,
UNSUPPORTED_ACCESS, READY_STATUS_CLR, VIOL_INFO_CLR: a read of a low half latches the high half that the next read of it
returns, one of 8 bytes returns both; a read of the field side travels to the die that answers, which answers the value of the
last frame boundary, and back, or times out after 40 us with a violation; while 256 writes wait for the field side a write
waits, and every access behind it; a write of the field side is sent with two boundaries to go, and applied unless the mode no
longer permits it; NOP answers the frame number; an access without a register, of a wrong size or before the field side is
ready is logged (R20, R21, R127, R144, R147, R554, R567 to R569, R614 to R617, R620 to R622). -/
def Obligations.SetupAccesses : Prop :=
  (∀ s : State, s.hbd.waiting = [] →
    exec (.lowHalfRead 0x0040#16 false) s = .next (hbdSet s { s.hbd with
      readData := s.hbd.dbBase % 2 ^ 32, latch := some (0x44, s.hbd.dbBase / 2 ^ 32 % 2 ^ 32) }) ∧
    exec (.lowHalfRead 0x0040#16 true) s = .next (hbdSet s { s.hbd with readData := s.hbd.dbBase }) ∧
    (∀ v, s.hbd.latch = some (0x44, v) →
      exec (.lowHalfRead 0x0044#16 false) s = .next (hbdSet s { s.hbd with readData := v, latch := none })) ∧
    exec (.lowHalfRead 0x000C#16 false) s = .next (hbdSet s { s.hbd with readData := s.hbd.modeReg })) ∧
  (∀ (s : State) (o : BitVec 16) (v : BitVec 64) (w : Bool), s.hbd.waiting ≠ [] →
    exec (.lowHalfRead o w) s = .next (hbdSet s { s.hbd with waiting := s.hbd.waiting ++ [.read o.toNat w] }) ∧
    exec (.pairWindowRead o) s = .next (hbdSet s { s.hbd with waiting := s.hbd.waiting ++ [.read o.toNat false] }) ∧
    exec (.setupWrite o v w) s = .next (hbdSet s { s.hbd with waiting := s.hbd.waiting ++ [.write o.toNat v.toNat w] })) ∧
  (∀ (s : State) (o : BitVec 16) (v : BitVec 64) (w : Bool), s.hbd.waiting = [] → 256 ≤ s.hbd.pairPending.length →
    s.pair.linkA = true ∨ s.pair.linkB = true →
    exec (.setupWrite o v w) s = .next (hbdSet s { s.hbd with waiting := [.write o.toNat v.toNat w] })) ∧
  (∀ (s : State) (o : BitVec 16), s.hbd.waiting = [] → o.toNat ∈ [0x4040, 0x4280, 0x4304, 0x8000, 0xC004] →
    (s.boot.ended = true → s.pair.linkA = true ∨ s.pair.linkB = true →
      exec (.pairWindowRead o) s = .next (hbdSet s { s.hbd with
        diagNum := s.hbd.diagNum + 1, diag := s.hbd.diag ++ [{ num := s.hbd.diagNum, offset := o.toNat }] })) ∧
    (s.boot.ended = false →
      exec (.pairWindowRead o) s = .next (Ops.notReadyAccess o.toNat false (hbdSet s { s.hbd with readData := 0 })))) ∧
  (∀ s : State, s.hbd.waiting = [] → s.boot.ended = true →
    exec (.pairWindowRead 0x4004#16) s = .next (hbdSet s { s.hbd with readData := if s.hbd.checkBusy then 1 else 0 })) ∧
  (∀ (s : State) (n us : Nat), s.hbd.diag = [{ num := n, offset := 0x4280 }] →
    (s.pair.active = 1 → s.boot.cda.st = 3 → s.pair.linkA = true ∨ s.pair.linkB = true →
      exec (.diagRequest n) s = .next (hbdSet s { s.hbd with
        diag := [{ num := n, offset := 0x4280, reply := some (match s.pair.regs with
          | some t => Tab.get t 0x4280
          | none => s.nodeId) }] })) ∧
    (s.boot.cda.st ≠ 3 → s.pair.active = 1 → exec (.diagRequest n) s = .next s) ∧
    exec (.diagReply n) s = .next s ∧
    (40 ≤ us → exec (.diagReplyTimeout n us) s = .next (Ops.violation 0x4280 5 false 15
      (hbdSet s { s.hbd with readData := 0, diag := [] }))) ∧
    (us < 40 → exec (.diagReplyTimeout n us) s = .next s)) ∧
  (∀ (s : State) (n o v : Nat), s.hbd.diag = [{ num := n, offset := o, reply := some v }] →
    s.pair.linkA = true ∨ s.pair.linkB = true →
    exec (.diagReply n) s = .next (hbdSet s { s.hbd with readData := v, diag := [] })) ∧
  (∀ (s : State) (v : BitVec 64), s.hbd.waiting = [] → s.hbd.pairPending.length < 256 →
    (s.hbd.sess = 0 →
      exec (.setupWrite 0x0040#16 v true) s = .next (hbdSet s { s.hbd with
        dbBase := v.toNat / 4096 * 4096, openFail := none })) ∧
    (s.hbd.sess ≠ 0 → exec (.setupWrite 0x0040#16 v true) s = .next (Ops.violation 0x0040 2 true 15 s)) ∧
    exec (.setupWrite 0x000C#16 v false) s = .next s ∧
    exec (.setupWrite 0x0024#16 v false) s = .next (Ops.violation 0x0024 1 true 15 s) ∧
    exec (.setupWrite 0x0500#16 v false) s = .next (hbdSet s { s.hbd with
      route := Tab.set s.hbd.route 0 (v.toNat &&& 0xBF) }) ∧
    (s.boot.ended = true → s.pair.linkA = true ∨ s.pair.linkB = true → s.hbd.modeReg % 8 = Mode.run.code →
      exec (.setupWrite 0x4340#16 v false) s = .next (hbdSet s { s.hbd with
        pairPending := s.hbd.pairPending ++ [2], downNum := (s.hbd.downNum + 1) % 2 ^ 32
        down := s.hbd.down ++ [⟨s.hbd.downNum, 2, .pairWrite 0x4340 (v.toNat % 2 ^ 32)⟩] }))) ∧
  (∀ (s : State) (v : BitVec 32),
    (s.md.mode ∉ [Mode.reset, .boot] →
      exec (.pairWrite 0x4340#16 v) s = .next { s with acq := { s.acq with fdmaPause := v.toNat } }) ∧
    (s.md.mode ≠ .configure →
      exec (.pairWrite 0x434C#16 v) s = .next (Ops.violation 0x434C 4 true 15 s)) ∧
    exec (.pairWrite 0x4008#16 v) s = .next s) ∧
  (∀ (c : Cmd) (s : State), Names c s 7 → c.unit = 0 → s.md.mode ∉ [Mode.reset, .boot] → Rest c 0 →
    exec (.nop c) s = .next (done c 0x0A02 (s.tm.frame % 2 ^ 64) s) ∧
    (s.staged = [] → exec (.command 0x0A02#16 c none) s = .next (done c 0x0A02 (s.tm.frame % 2 ^ 64) s)) ∧
    exec (.command 0xFFFF#16 c (some [])) s = .next (answer c 0xFFFF .malformed 0 0 false s)) ∧
  (∀ (s : State) (o : BitVec 16) (w : Bool) (be : BitVec 4), s.hbd.waiting = [] → s.hbd.pairPending.length < 256 →
    (o.toNat < 0x4000 ∨ s.boot.ended = true ∧ (s.pair.linkA = true ∨ s.pair.linkB = true) →
      exec (.unsupportedAccess o w be) s = .next (Ops.violation o.toNat 1 w be.toNat s)) ∧
    (0x4000 ≤ o.toNat → s.boot.ended = false ∨ s.pair.linkA = false ∧ s.pair.linkB = false →
      exec (.unsupportedAccess o w be) s = .next (Ops.notReadyAccess o.toNat w s))) ∧
  (∀ (s : State) (v : BitVec 32),
    (v.toNat.testBit 2 = true →
      exec (.readyStatusClr v) s = .next (hbdSet s { s.hbd with lastStatus := 0, nrCount := 0 })) ∧
    (v.toNat.testBit 2 = false → exec (.readyStatusClr v) s = .next s) ∧
    (v.toNat.testBit 31 = true → exec (.violInfoClr v) s = .next (hbdSet s { s.hbd with violCount := 0 })) ∧
    (v.toNat.testBit 31 = false → exec (.violInfoClr v) s = .next s))

/-! Lintis. -/

namespace Sys2Proof.Says

/-- Engine `e` runs cycle `c` of task `t`, and the code bytes of an instruction stand at its pc (R392). -/
abbrev AtCode (s : State) (e : Fin 16) (t : Nat) (c : Cycle) (code : Bytes) : Prop :=
  Lintis.current s e.val = some (t, c) ∧ Mem.read s.deck (s.prog.base + c.pc) code.length = code

/-- As `AtCode`, the next instruction in the same granted code range (R401, R404). -/
abbrev InSequence (s : State) (e : Fin 16) (t : Nat) (c : Cycle) (code : Bytes) : Prop :=
  AtCode s e t c code ∧ ∃ r ∈ Lintis.grants s t, r.1 ≤ c.pc ∧ c.pc + code.length < r.1 + r.2

/-- An instruction leaves task `t`'s cycle as `c'` and the Deck as `deck`, and changes nothing else but the recorder's
counts and
samples. -/
def Leaves (i : Instr) (s : State) (t : Nat) (c' : Cycle) (deck : Mem) : Prop :=
  ∃ g : Recorder, exec i s = .next { s with
    log := g, deck := deck, prog := { s.prog with tasks := Tab.set s.prog.tasks t { s.task t with cyc := some c' } } }

/-- As `Leaves` for an instruction of `n` bytes and one operation that leaves a stack. -/
def Stacks (i : Instr) (s : State) (t : Nat) (c : Cycle) (n : Nat) (stack : List Nat) : Prop :=
  Leaves i s t { c with pc := c.pc + n, stack := stack, ops := c.ops + 1 } s.deck

/-- An instruction faults its task: the cycle ends, its fault record and TASK_FAULT are entered, and its action is due
(R366, R367). -/
def Faults (i : Instr) (s : State) (t : Nat) (c : Cycle) (cause access codeAddr dataAddr : Nat) : Prop :=
  ∃ (g : Recorder) (b : Bool),
    exec i s = .next { s with
      log := g
      prog := { s.prog with
        fFault := true, fBudget := b
        tasks := Tab.set s.prog.tasks t { s.task t with
          faulted := true, cyc := none, actionDue := true, maxOps := max (s.task t).maxOps (c.ops + 1)
          fault := some {
            cause := cause, access := access, codeAddr := codeAddr, dataAddr := dataAddr, cycle := c.num, frame := c.b
            engine := c.engine.getD 0 } } } } ∧
    { stamp := s.tm.frame, mid := true, code := Event.taskFault, src := mkSrc 1 4 0
      p0 := (t + cause * 2 ^ 16) % 2 ^ 32, p1 := c.num % 2 ^ 32 : Ev } ∈ g.raised

/-- The two cells of a 64-bit value, top first: the high one lies above (R390). -/
def cellsOf (v : BitVec 64) : List Nat := [v.toNat / 2 ^ 32, v.toNat % 2 ^ 32]

/-- A truth value as a cell. -/
def truth (b : Bool) : Nat := if b then 1 else 0

/-- The value of `n` bytes at an address word as a cycle reads them (R354, R372, R389). -/
def loaded (s : State) (c : Cycle) (a n : Nat) : Nat := Bits.ofLe (Lintis.readBytes s c a n)

end Sys2Proof.Says

/-- NOP, TASKNO, CYCFLAGS, CYCNO, CTIME, FRAMENO, PUSHB, PUSHH, PUSHW, DUP, DUP2, DROP, DROP2, SWAP, SWAP2, OVER, PICK, SEL, TAKE,
SIGNAL: what each leaves on the stack, a pushed byte or halfword sign-extended; TAKE ends the cycle with empty stacks and
SIGNAL notes a flag for its commit (R391, R399, R400, Table 11-3). -/
def Obligations.LintisStackInstructions : Prop :=
  (∀ (s : State) (e : Fin 16) (t : Nat) (c : Cycle), c.stack.length ≤ 254 →
    (InSequence s e t c [0x00] → Stacks (.opNop e) s t c 1 c.stack) ∧
    (InSequence s e t c [0x04] → Stacks (.opTaskno e) s t c 1 (t % 2 ^ 32 :: c.stack)) ∧
    (InSequence s e t c [0x05] → Stacks (.opCycflags e) s t c 1 (c.flags % 2 ^ 32 :: c.stack)) ∧
    (InSequence s e t c [0x06] → Stacks (.opCycno e) s t c 1 (c.num % 2 ^ 32 :: c.stack)) ∧
    (InSequence s e t c [0x07] → Stacks (.opCtime e) s t c 1 (c.ns / 2 ^ 32 % 2 ^ 32 :: c.ns % 2 ^ 32 :: c.stack)) ∧
    (InSequence s e t c [0x08] → Stacks (.opFrameno e) s t c 1 (c.b / 2 ^ 32 % 2 ^ 32 :: c.b % 2 ^ 32 :: c.stack)) ∧
    (∀ v : BitVec 8, InSequence s e t c [0x10, v] → Stacks (.opPushb e v) s t c 2 ((v.signExtend 32).toNat :: c.stack)) ∧
    (∀ v : BitVec 16, InSequence s e t c (0x11 :: Bits.toLe 2 v.toNat) →
      Stacks (.opPushh e v) s t c 3 ((v.signExtend 32).toNat :: c.stack)) ∧
    (∀ v : BitVec 32, InSequence s e t c (0x12 :: Bits.toLe 4 v.toNat) → Stacks (.opPushw e v) s t c 5 (v.toNat :: c.stack))) ∧
  (∀ (s : State) (e : Fin 16) (t : Nat) (c : Cycle) (w x y z : Nat) (r : List Nat), r.length ≤ 250 →
    (InSequence s e t c [0x13] → c.stack = x :: r → Stacks (.opDup e) s t c 1 (x :: x :: r)) ∧
    (InSequence s e t c [0x14] → c.stack = y :: x :: r → Stacks (.opDup2 e) s t c 1 (y :: x :: y :: x :: r)) ∧
    (InSequence s e t c [0x15] → c.stack = x :: r → Stacks (.opDrop e) s t c 1 r) ∧
    (InSequence s e t c [0x16] → c.stack = y :: x :: r → Stacks (.opDrop2 e) s t c 1 r) ∧
    (InSequence s e t c [0x17] → c.stack = y :: x :: r → Stacks (.opSwap e) s t c 1 (x :: y :: r)) ∧
    (InSequence s e t c [0x18] → c.stack = z :: y :: x :: w :: r → Stacks (.opSwap2 e) s t c 1 (x :: w :: z :: y :: r)) ∧
    (InSequence s e t c [0x19] → c.stack = y :: x :: r → Stacks (.opOver e) s t c 1 (x :: y :: x :: r)) ∧
    (InSequence s e t c [0x90] → c.stack = z :: y :: x :: r →
      Stacks (.opSel e) s t c 1 ((if z = 0 then y else x) :: r))) ∧
  (∀ (s : State) (e : Fin 16) (t : Nat) (c : Cycle) (b : BitVec 8) (h : b.toNat < c.stack.length), c.stack.length ≤ 255 →
    InSequence s e t c [0x1A, b] → Stacks (.opPick e b) s t c 2 (c.stack[b.toNat] :: c.stack)) ∧
  (∀ (s : State) (e : Fin 16) (t : Nat) (c : Cycle) (u : BitVec 16) (b : BitVec 8),
    InSequence s e t c (0x02 :: Bits.toLe 2 u.toNat ++ [b]) → (u.toNat, b.toNat) ∉ c.signals →
    Leaves (.opSignal e u b) s t
      { c with pc := c.pc + 4, ops := c.ops + 1, signals := c.signals ++ [(u.toNat, b.toNat)] } s.deck) ∧
  (∀ (s : State) (e : Fin 16) (t : Nat) (c : Cycle), AtCode s e t c [0x01] → c.ops + 1 ≤ (s.task t).cfg.budget →
    ∃ g : Recorder, exec (.opTake e) s = .next { s with
      log := g
      prog := { s.prog with tasks := Tab.set s.prog.tasks t { s.task t with
        maxOps := max (s.task t).maxOps (c.ops + 1)
        cyc := some { c with pc := c.pc + 1, ops := c.ops + 1, stack := [], ret := [], ended := true } } } })

/-- The 32-bit instructions IADD to SAR, LIMIT, the comparisons ICEQ to UCLE and EQZ: each pops its operands and pushes the result
of the two's-complement operation, shift counts modulo 32; IDIV and IREM truncate toward zero, and a zero divisor traps with
0x06 (R394, R397). The 64-bit instructions LADD to LSAR, the comparisons LCEQ to LCLE and LEQZ, over two-cell operands, shift
counts modulo 64 (R390, R394, R397). -/
def Obligations.LintisIntegerInstructions : Prop :=
  (∀ (s : State) (e : Fin 16) (t : Nat) (c : Cycle) (x y : BitVec 32) (r : List Nat), r.length ≤ 250 →
    c.stack = y.toNat :: x.toNat :: r →
    let gives (op : Byte) (i : Instr) (v : BitVec 32) : Prop := InSequence s e t c [op] → Stacks i s t c 1 (v.toNat :: r)
    let tells (op : Byte) (i : Instr) (v : Bool) : Prop := InSequence s e t c [op] → Stacks i s t c 1 (truth v :: r)
    gives 0x30 (.opIadd e) (x + y) ∧ gives 0x31 (.opIsub e) (x - y) ∧ gives 0x32 (.opImul e) (x * y) ∧
    (y ≠ 0 → gives 0x33 (.opIdiv e) (x.sdiv y) ∧ gives 0x34 (.opIrem e) (x.srem y) ∧ gives 0x36 (.opUdiv e) (x / y) ∧
      gives 0x37 (.opUrem e) (x % y)) ∧
    (y = 0 → (AtCode s e t c [0x33] → Faults (.opIdiv e) s t c 0x06 0 c.pc 0) ∧
      (AtCode s e t c [0x34] → Faults (.opIrem e) s t c 0x06 0 c.pc 0) ∧
      (AtCode s e t c [0x36] → Faults (.opUdiv e) s t c 0x06 0 c.pc 0) ∧
      (AtCode s e t c [0x37] → Faults (.opUrem e) s t c 0x06 0 c.pc 0)) ∧
    gives 0x38 (.opAnd e) (x &&& y) ∧ gives 0x39 (.opOr e) (x ||| y) ∧ gives 0x3A (.opXor e) (x ^^^ y) ∧
    gives 0x3C (.opShl e) (x <<< (y.toNat % 32)) ∧ gives 0x3D (.opShr e) (x >>> (y.toNat % 32)) ∧
    gives 0x3E (.opSar e) (x.sshiftRight (y.toNat % 32)) ∧
    tells 0x60 (.opIceq e) (x == y) ∧ tells 0x61 (.opIclt e) (x.slt y) ∧ tells 0x62 (.opIcle e) (x.sle y) ∧
    tells 0x63 (.opUclt e) (x.ult y) ∧ tells 0x64 (.opUcle e) (x.ule y)) ∧
  (∀ (s : State) (e : Fin 16) (t : Nat) (c : Cycle) (x : BitVec 32) (r : List Nat), r.length ≤ 250 → c.stack = x.toNat :: r →
    (InSequence s e t c [0x35] → Stacks (.opIneg e) s t c 1 ((-x).toNat :: r)) ∧
    (InSequence s e t c [0x3B] → Stacks (.opNot e) s t c 1 ((~~~x).toNat :: r)) ∧
    (InSequence s e t c [0x6E] → Stacks (.opEqz e) s t c 1 (truth (x == 0) :: r))) ∧
  (∀ (s : State) (e : Fin 16) (t : Nat) (c : Cycle) (x lo hi : BitVec 32) (r : List Nat), r.length ≤ 250 →
    c.stack = hi.toNat :: lo.toNat :: x.toNat :: r →
    let m := if x.slt lo then lo else x
    (InSequence s e t c [0x91] → Stacks (.opLimit e) s t c 1 ((if hi.slt m then hi else m).toNat :: r)) ∧
    (InSequence s e t c [0x92] → lo.sle x = true → x.sle hi = true → Stacks (.opBound e) s t c 1 (x.toNat :: r)) ∧
    (AtCode s e t c [0x92] → lo.sle x = false ∨ x.sle hi = false → Faults (.opBound e) s t c 0x07 0 c.pc 0)) ∧
  (∀ (s : State) (e : Fin 16) (t : Nat) (c : Cycle) (x y : BitVec 64) (r : List Nat), r.length ≤ 250 →
    c.stack = cellsOf y ++ cellsOf x ++ r →
    let gives (op : Byte) (i : Instr) (v : BitVec 64) : Prop := InSequence s e t c [op] → Stacks i s t c 1 (cellsOf v ++ r)
    let tells (op : Byte) (i : Instr) (v : Bool) : Prop := InSequence s e t c [op] → Stacks i s t c 1 (truth v :: r)
    gives 0x40 (.opLadd e) (x + y) ∧ gives 0x41 (.opLsub e) (x - y) ∧ gives 0x42 (.opLmul e) (x * y) ∧
    (y ≠ 0 → gives 0x43 (.opLdiv e) (x.sdiv y) ∧ gives 0x44 (.opLrem e) (x.srem y)) ∧
    (y = 0 → (AtCode s e t c [0x43] → Faults (.opLdiv e) s t c 0x06 0 c.pc 0) ∧
      (AtCode s e t c [0x44] → Faults (.opLrem e) s t c 0x06 0 c.pc 0)) ∧
    gives 0x46 (.opLand e) (x &&& y) ∧ gives 0x47 (.opLor e) (x ||| y) ∧ gives 0x48 (.opLxor e) (x ^^^ y) ∧
    tells 0x65 (.opLceq e) (x == y) ∧ tells 0x66 (.opLclt e) (x.slt y) ∧ tells 0x67 (.opLcle e) (x.sle y)) ∧
  (∀ (s : State) (e : Fin 16) (t : Nat) (c : Cycle) (x : BitVec 64) (n : Nat) (r : List Nat), r.length ≤ 250 →
    c.stack = n :: (cellsOf x ++ r) →
    (InSequence s e t c [0x49] → Stacks (.opLshl e) s t c 1 (cellsOf (x <<< (n % 64)) ++ r)) ∧
    (InSequence s e t c [0x4A] → Stacks (.opLshr e) s t c 1 (cellsOf (x >>> (n % 64)) ++ r)) ∧
    (InSequence s e t c [0x4B] → Stacks (.opLsar e) s t c 1 (cellsOf (x.sshiftRight (n % 64)) ++ r))) ∧
  (∀ (s : State) (e : Fin 16) (t : Nat) (c : Cycle) (x : BitVec 64) (r : List Nat), r.length ≤ 250 →
    c.stack = cellsOf x ++ r →
    (InSequence s e t c [0x45] → Stacks (.opLneg e) s t c 1 (cellsOf (-x) ++ r)) ∧
    (InSequence s e t c [0x6F] → Stacks (.opLeqz e) s t c 1 (truth (x == 0) :: r)))

/-- The float instructions FADD to DRINT and FCEQ to DCLE: each pops its operands and pushes the one rounding of the exact result;
a comparison with a NaN is false (R395, R397). The conversions I2L to D2F: integers are extended or truncated as bits, an
integer becomes the nearest float, a float is truncated toward zero and saturated, a NaN gives 0 (R396). -/
def Obligations.LintisFloatsAndConversions : Prop :=
  (∀ (s : State) (e : Fin 16) (t : Nat) (c : Cycle) (x y : BitVec 32) (r : List Nat), r.length ≤ 250 →
    c.stack = y.toNat :: x.toNat :: r →
    let gives (op : Byte) (i : Instr) (v : Nat) : Prop := InSequence s e t c [op] → Stacks i s t c 1 (v % 2 ^ 32 :: r)
    gives 0x50 (.opFadd e) (f32.add x.toNat y.toNat) ∧ gives 0x51 (.opFsub e) (f32.sub x.toNat y.toNat) ∧
    gives 0x52 (.opFmul e) (f32.mul x.toNat y.toNat) ∧ gives 0x53 (.opFdiv e) (f32.div x.toNat y.toNat) ∧
    gives 0x68 (.opFceq e) (truth (f32.eq x.toNat y.toNat)) ∧ gives 0x69 (.opFclt e) (truth (f32.lt x.toNat y.toNat)) ∧
    gives 0x6A (.opFcle e) (truth (f32.le x.toNat y.toNat))) ∧
  (∀ (s : State) (e : Fin 16) (t : Nat) (c : Cycle) (x : BitVec 32) (r : List Nat), r.length ≤ 250 → c.stack = x.toNat :: r →
    let gives (op : Byte) (i : Instr) (v : Nat) : Prop := InSequence s e t c [op] → Stacks i s t c 1 (v % 2 ^ 32 :: r)
    gives 0x54 (.opFneg e) (x ^^^ 0x80000000#32).toNat ∧ gives 0x55 (.opFabs e) (x &&& 0x7FFFFFFF#32).toNat ∧
    gives 0x56 (.opFsqrt e) (f32.sqrt x.toNat) ∧ gives 0x57 (.opFrint e) (f32.rint x.toNat)) ∧
  (∀ (s : State) (e : Fin 16) (t : Nat) (c : Cycle) (x y : BitVec 64) (r : List Nat), r.length ≤ 250 →
    c.stack = cellsOf y ++ cellsOf x ++ r →
    let gives (op : Byte) (i : Instr) (v : Nat) : Prop :=
      InSequence s e t c [op] → Stacks i s t c 1 (cellsOf (BitVec.ofNat 64 v) ++ r)
    let tells (op : Byte) (i : Instr) (v : Bool) : Prop := InSequence s e t c [op] → Stacks i s t c 1 (truth v :: r)
    gives 0x58 (.opDadd e) (f64.add x.toNat y.toNat) ∧ gives 0x59 (.opDsub e) (f64.sub x.toNat y.toNat) ∧
    gives 0x5A (.opDmul e) (f64.mul x.toNat y.toNat) ∧ gives 0x5B (.opDdiv e) (f64.div x.toNat y.toNat) ∧
    tells 0x6B (.opDceq e) (f64.eq x.toNat y.toNat) ∧ tells 0x6C (.opDclt e) (f64.lt x.toNat y.toNat) ∧
    tells 0x6D (.opDcle e) (f64.le x.toNat y.toNat)) ∧
  (∀ (s : State) (e : Fin 16) (t : Nat) (c : Cycle) (x : BitVec 64) (r : List Nat), r.length ≤ 250 →
    c.stack = cellsOf x ++ r →
    let gives (op : Byte) (i : Instr) (v : Nat) : Prop :=
      InSequence s e t c [op] → Stacks i s t c 1 (cellsOf (BitVec.ofNat 64 v) ++ r)
    gives 0x5C (.opDneg e) (x ^^^ 0x8000000000000000#64).toNat ∧ gives 0x5D (.opDabs e) (x &&& 0x7FFFFFFFFFFFFFFF#64).toNat ∧
    gives 0x5E (.opDsqrt e) (f64.sqrt x.toNat) ∧ gives 0x5F (.opDrint e) (f64.rint x.toNat)) ∧
  (f32.add 0x3F800000 0x40000000 = 0x40400000 ∧ f32.add 0x3F800000 0x33800000 = 0x3F800000 ∧
    f32.mul 0x7F7FFFFF 0x40000000 = 0x7F800000 ∧ f32.div 0x3F800000 0x40400000 = 0x3EAAAAAB ∧ f32.sqrt 0xBF800000 = 0x7FC00000 ∧
    f32.rint 0x40200000 = 0x40000000 ∧ f64.add 0x3FF0000000000000 0x4000000000000000 = 0x4008000000000000 ∧
    f32.lt 0x7FC00000 0x3F800000 = false ∧ f32.eq 0x00000000 0x80000000 = true) ∧
  (∀ (s : State) (e : Fin 16) (t : Nat) (c : Cycle) (x : BitVec 32) (r : List Nat), r.length ≤ 250 → c.stack = x.toNat :: r →
    let one (op : Byte) (i : Instr) (v : Nat) : Prop := InSequence s e t c [op] → Stacks i s t c 1 (v % 2 ^ 32 :: r)
    let two (op : Byte) (i : Instr) (v : BitVec 64) : Prop := InSequence s e t c [op] → Stacks i s t c 1 (cellsOf v ++ r)
    two 0x80 (.opI2l e) (x.signExtend 64) ∧ two 0x81 (.opU2l e) (x.zeroExtend 64) ∧
    one 0x83 (.opI2f e) (f32.ofInt x.toInt) ∧ one 0x84 (.opU2f e) (f32.ofInt x.toNat) ∧
    two 0x86 (.opI2d e) (BitVec.ofNat 64 (f64.ofInt x.toInt)) ∧ two 0x87 (.opU2d e) (BitVec.ofNat 64 (f64.ofInt x.toNat)) ∧
    one 0x89 (.opF2i e) (BitVec.ofInt 32 (max (-(2 ^ 31)) (min (2 ^ 31 - 1) (f32.trunc x.toNat (2 ^ 64))))).toNat ∧
    two 0x8A (.opF2l e) (BitVec.ofInt 64 (max (-(2 ^ 63)) (min (2 ^ 63 - 1) (f32.trunc x.toNat (2 ^ 64))))) ∧
    two 0x8E (.opF2d e) (BitVec.ofNat 64 (Fmt.conv f32 f64 x.toNat))) ∧
  (∀ (s : State) (e : Fin 16) (t : Nat) (c : Cycle) (x : BitVec 64) (r : List Nat), r.length ≤ 250 →
    c.stack = cellsOf x ++ r →
    let one (op : Byte) (i : Instr) (v : Nat) : Prop := InSequence s e t c [op] → Stacks i s t c 1 (v % 2 ^ 32 :: r)
    let two (op : Byte) (i : Instr) (v : BitVec 64) : Prop := InSequence s e t c [op] → Stacks i s t c 1 (cellsOf v ++ r)
    one 0x82 (.opL2i e) x.toNat ∧ one 0x85 (.opL2f e) (f32.ofInt x.toInt) ∧
    two 0x88 (.opL2d e) (BitVec.ofNat 64 (f64.ofInt x.toInt)) ∧
    one 0x8B (.opD2i e) (BitVec.ofInt 32 (max (-(2 ^ 31)) (min (2 ^ 31 - 1) (f64.trunc x.toNat (2 ^ 64))))).toNat ∧
    one 0x8C (.opD2u e) (BitVec.ofInt 32 (max 0 (min (2 ^ 32 - 1) (f64.trunc x.toNat (2 ^ 64))))).toNat ∧
    two 0x8D (.opD2l e) (BitVec.ofInt 64 (max (-(2 ^ 63)) (min (2 ^ 63 - 1) (f64.trunc x.toNat (2 ^ 64))))) ∧
    one 0x8F (.opD2f e) (Fmt.conv f64 f32 x.toNat)) ∧
  (f32.trunc 0x40600000 (2 ^ 64) = 3 ∧ f32.trunc 0xC0600000 (2 ^ 64) = -3 ∧ f32.trunc 0x7FC00000 (2 ^ 64) = 0 ∧
    f32.ofInt 16777217 = 0x4B800000 ∧ f64.ofInt (-1) = 0xBFF0000000000000 ∧ Fmt.conv f64 f32 0x3FF0000000000000 = 0x3F800000)

/-- The loads LD32 to LDI16, LDX32, LDX64, LDXU8 and LDBIT: with a read grant and an aligned offset they push the bytes at the
address, a narrow one zero- or sign-extended; without the grant they fault with 0x80 and the address, without the alignment
they trap with 0x05. A byte of the data segment reads as the Deck holds it, one of the shared segment as the cycle wrote it,
and a forced one as forced (R354, R372, R388, R389, R404, Table 11-4). The stores ST32 to ST16, STX32, STX64, STX8, STBIT,
MOVE and FILL: with a write grant and an aligned offset the bytes at the address change and no other; those of the data
segment at once in the Deck, those of the shared segment and of the output image in the cycle until its commit; without the
grant they fault with 0x80, access 1 and the address (R388, R389, R402, R404, R405). -/
def Obligations.LintisLoadsAndStores : Prop :=
  (∀ (s : State) (e : Fin 16) (t : Nat) (c : Cycle) (a : BitVec 32), c.stack.length ≤ 254 →
    let code (op : Byte) : Bytes := op :: Bits.toLe 4 a.toNat
    let v (n : Nat) : Nat := loaded s c a.toNat n
    (Lintis.granted s t false a.toNat 4 = true → a.toNat % 4 = 0 → InSequence s e t c (code 0x20) →
      Stacks (.opLd32 e a) s t c 5 (v 4 :: c.stack)) ∧
    (Lintis.granted s t false a.toNat 8 = true → a.toNat % 4 = 0 → InSequence s e t c (code 0x21) →
      Stacks (.opLd64 e a) s t c 5 (v 8 / 2 ^ 32 :: v 8 % 2 ^ 32 :: c.stack)) ∧
    (Lintis.granted s t false a.toNat 1 = true → InSequence s e t c (code 0x22) →
      Stacks (.opLdu8 e a) s t c 5 (v 1 :: c.stack)) ∧
    (Lintis.granted s t false a.toNat 1 = true → InSequence s e t c (code 0x23) →
      Stacks (.opLdi8 e a) s t c 5 (((BitVec.ofNat 8 (v 1)).signExtend 32).toNat :: c.stack)) ∧
    (Lintis.granted s t false a.toNat 2 = true → a.toNat % 2 = 0 → InSequence s e t c (code 0x24) →
      Stacks (.opLdu16 e a) s t c 5 (v 2 :: c.stack)) ∧
    (Lintis.granted s t false a.toNat 2 = true → a.toNat % 2 = 0 → InSequence s e t c (code 0x25) →
      Stacks (.opLdi16 e a) s t c 5 (((BitVec.ofNat 16 (v 2)).signExtend 32).toNat :: c.stack)) ∧
    (∀ b : BitVec 8, Lintis.granted s t false a.toNat 1 = true → InSequence s e t c (code 0x95 ++ [b]) →
      Stacks (.opLdbit e a b) s t c 6 (v 1 / 2 ^ b.toNat % 2 :: c.stack)) ∧
    (Lintis.granted s t false a.toNat 4 = false → AtCode s e t c (code 0x20) →
      Faults (.opLd32 e a) s t c 0x80 0 c.pc a.toNat) ∧
    (Lintis.granted s t false a.toNat 2 = true → a.toNat % 2 = 1 → AtCode s e t c (code 0x24) →
      Faults (.opLdu16 e a) s t c 0x05 0 c.pc 0)) ∧
  (∀ (s : State) (e : Fin 16) (t : Nat) (c : Cycle) (a : Nat) (r : List Nat), c.stack = a :: r → r.length ≤ 250 →
    (Lintis.granted s t false a 4 = true → a % 4 = 0 → InSequence s e t c [0x2A] →
      Stacks (.opLdx32 e) s t c 1 (loaded s c a 4 :: r)) ∧
    (Lintis.granted s t false a 8 = true → a % 4 = 0 → InSequence s e t c [0x2B] →
      Stacks (.opLdx64 e) s t c 1 (loaded s c a 8 / 2 ^ 32 :: loaded s c a 8 % 2 ^ 32 :: r)) ∧
    (Lintis.granted s t false a 1 = true → InSequence s e t c [0x2C] → Stacks (.opLdxu8 e) s t c 1 (loaded s c a 1 :: r))) ∧
  (∀ (s : State) (c : Cycle) (off n : Nat), off + n ≤ 2 ^ 28 → s.prog.forces = [] → s.prog.ending = [] →
    loaded s c (2 * 2 ^ 28 + off) n = Mem.readLe s.deck (Prog.addr s 2 off) n) ∧
  (∀ (s : State) (c : Cycle) (off v : Nat), off < 2 ^ 28 → v < 256 → s.prog.forces = [] → s.prog.ending = [] →
    Tab.get c.shared off = 256 + v → loaded s c (3 * 2 ^ 28 + off) 1 = v) ∧
  (∀ (s : State) (c : Cycle) (a : Nat) (f : Force), s.prog.forces = [(0, f)] → f.active = true → f.kind = 2 → f.typ = 0 →
    f.addr = a → loaded s c a 4 = f.value % 2 ^ 32) ∧
  (∀ (s : State) (e : Fin 16) (t : Nat) (c : Cycle) (a : BitVec 32) (x : Nat) (r : List Nat), c.stack = x :: r →
    let code (op : Byte) : Bytes := op :: Bits.toLe 4 a.toNat
    let off := a.toNat % 2 ^ 28
    let next (n : Nat) (st : List Nat) : Cycle := { c with pc := c.pc + n, stack := st, ops := c.ops + 1 }
    (Lintis.granted s t true a.toNat 4 = true → a.toNat % 4 = 0 → a.toNat / 2 ^ 28 = 2 → Prog.bufferWords c.shared ≤ 1024 →
      InSequence s e t c (code 0x26) →
      Leaves (.opSt32 e a) s t (next 5 r) (Mem.write s.deck (Prog.addr s 2 off) (Bits.toLe 4 x))) ∧
    (∀ y r', r = y :: r' → Lintis.granted s t true a.toNat 8 = true → a.toNat % 4 = 0 → a.toNat / 2 ^ 28 = 2 →
      Prog.bufferWords c.shared ≤ 1024 → InSequence s e t c (code 0x27) →
      Leaves (.opSt64 e a) s t (next 5 r')
        (Mem.write s.deck (Prog.addr s 2 off) (Bits.toLe 8 (x % 2 ^ 32 * 2 ^ 32 + y % 2 ^ 32)))) ∧
    (Lintis.granted s t true a.toNat 1 = true → a.toNat / 2 ^ 28 = 2 → Prog.bufferWords c.shared ≤ 1024 →
      InSequence s e t c (code 0x28) →
      Leaves (.opSt8 e a) s t (next 5 r) (Mem.write s.deck (Prog.addr s 2 off) [BitVec.ofNat 8 x])) ∧
    (Lintis.granted s t true a.toNat 2 = true → a.toNat % 2 = 0 → a.toNat / 2 ^ 28 = 2 → Prog.bufferWords c.shared ≤ 1024 →
      InSequence s e t c (code 0x29) →
      Leaves (.opSt16 e a) s t (next 5 r) (Mem.write s.deck (Prog.addr s 2 off) (Bits.toLe 2 x))) ∧
    (Lintis.granted s t true a.toNat 1 = true → a.toNat / 2 ^ 28 = 3 → InSequence s e t c (code 0x28) →
      let own := Tab.set c.shared off (256 + x % 256)
      Prog.bufferWords own ≤ 1024 → Leaves (.opSt8 e a) s t { next 5 r with shared := own } s.deck) ∧
    (Lintis.granted s t true a.toNat 1 = true → a.toNat / 2 ^ 28 = 4 → Prog.bufferWords c.shared ≤ 1024 →
      InSequence s e t c (code 0x28) →
      Leaves (.opSt8 e a) s t { next 5 r with out := Tab.set c.out off (256 + x % 256) } s.deck) ∧
    (∀ b : BitVec 8, b.toNat < 8 → Lintis.granted s t true a.toNat 1 = true → a.toNat / 2 ^ 28 = 2 →
      Prog.bufferWords c.shared ≤ 1024 → InSequence s e t c (code 0x96 ++ [b]) →
      let old := Tab.get s.deck (Prog.addr s 2 off)
      Leaves (.opStbit e a b) s t (next 6 r) (Mem.write s.deck (Prog.addr s 2 off)
        [if x % 2 = 1 then old ||| 1#8 <<< b.toNat else old &&& ~~~(1#8 <<< b.toNat)])) ∧
    (Lintis.granted s t true a.toNat 4 = false → AtCode s e t c (code 0x26) →
      Faults (.opSt32 e a) s t c 0x80 1 c.pc a.toNat)) ∧
  (∀ (s : State) (e : Fin 16) (t : Nat) (c : Cycle) (a x : Nat) (r : List Nat), c.stack = a :: x :: r → a / 2 ^ 28 = 2 →
    Prog.bufferWords c.shared ≤ 1024 →
    let next (st : List Nat) : Cycle := { c with pc := c.pc + 1, stack := st, ops := c.ops + 1 }
    (Lintis.granted s t true a 4 = true → a % 4 = 0 → InSequence s e t c [0x2D] →
      Leaves (.opStx32 e) s t (next r) (Mem.write s.deck (Prog.addr s 2 (a % 2 ^ 28)) (Bits.toLe 4 x))) ∧
    (∀ y r', r = y :: r' → Lintis.granted s t true a 8 = true → a % 4 = 0 → InSequence s e t c [0x2E] →
      Leaves (.opStx64 e) s t (next r')
        (Mem.write s.deck (Prog.addr s 2 (a % 2 ^ 28)) (Bits.toLe 8 (x % 2 ^ 32 * 2 ^ 32 + y % 2 ^ 32)))) ∧
    (Lintis.granted s t true a 1 = true → InSequence s e t c [0x2F] →
      Leaves (.opStx8 e) s t (next r) (Mem.write s.deck (Prog.addr s 2 (a % 2 ^ 28)) [BitVec.ofNat 8 x]))) ∧
  (∀ (s : State) (e : Fin 16) (t : Nat) (c : Cycle) (u dst x : Nat) (r : List Nat), c.stack = u :: dst :: x :: r →
    dst / 2 ^ 28 = 2 → u ≤ 65536 → Prog.bufferWords c.shared ≤ 1024 → Lintis.granted s t true dst u = true →
    let next : Cycle := { c with pc := c.pc + 1, stack := r, ops := c.ops + 1 + (u + 31) / 32 }
    (InSequence s e t c [0x94] →
      Leaves (.opFill e) s t next
        (Mem.write s.deck (Prog.addr s 2 (dst % 2 ^ 28)) (List.replicate u (BitVec.ofNat 8 x)))) ∧
    (Lintis.granted s t false x u = true → InSequence s e t c [0x93] →
      Leaves (.opMove e) s t next (Mem.write s.deck (Prog.addr s 2 (dst % 2 ^ 28)) (Lintis.readBytes s c x u))))

/-- JMP, JMPL, BZ, BNZ, CALL, RET, CALLX, JTAB, TRAP: a branch distance counts from the next instruction; a call keeps the return
offset, the 33rd nested one traps with 0x03, a return without one with 0x04 and an indirect call of no function with 0x08; a
target outside the task's code faults with 0x80, access 2; TRAP ends the cycle with its own code; an operand missing traps
with 0x02 and a 257th cell with 0x01 (R393, R401, R404, Table 11-4). -/
def Obligations.LintisControlFlow : Prop :=
  (∀ (s : State) (e : Fin 16) (t : Nat) (c : Cycle) (j : BitVec 16),
    let dst := ((c.pc : Int) + 3 + j.toInt).toNat
    let next (pc : Nat) (st : List Nat) : Cycle := { c with pc := pc, stack := st, ops := c.ops + 1 }
    let code (op : Byte) : Bytes := op :: Bits.toLe 2 j.toNat
    (AtCode s e t c (code 0x70) → Lintis.lands s t c.pc (c.pc + 3) dst = true →
      Leaves (.opJmp e j) s t (next dst c.stack) s.deck) ∧
    (∀ x r, c.stack = x :: r → Lintis.lands s t c.pc (c.pc + 3) dst = true → Lintis.lands s t c.pc (c.pc + 3) (c.pc + 3) = true →
      (AtCode s e t c (code 0x72) → Leaves (.opBz e j) s t (next (if x = 0 then dst else c.pc + 3) r) s.deck) ∧
      (AtCode s e t c (code 0x73) → Leaves (.opBnz e j) s t (next (if x = 0 then c.pc + 3 else dst) r) s.deck))) ∧
  (∀ (s : State) (e : Fin 16) (t : Nat) (c : Cycle) (k : BitVec 32),
    let code (op : Byte) : Bytes := op :: Bits.toLe 4 k.toNat
    (AtCode s e t c (code 0x71) → Lintis.lands s t c.pc (c.pc + 5) k.toNat = true →
      Leaves (.opJmpl e k) s t { c with pc := k.toNat, ops := c.ops + 1 } s.deck) ∧
    (AtCode s e t c (code 0x71) → Lintis.lands s t c.pc (c.pc + 5) k.toNat = false →
      Faults (.opJmpl e k) s t c 0x80 2 k.toNat k.toNat) ∧
    (AtCode s e t c (code 0x74) → c.ret.length < 32 → Lintis.lands s t c.pc (c.pc + 5) k.toNat = true →
      Leaves (.opCall e k) s t { c with pc := k.toNat, ret := (c.pc + 5) :: c.ret, ops := c.ops + 1 } s.deck) ∧
    (AtCode s e t c (code 0x74) → 32 ≤ c.ret.length → Faults (.opCall e k) s t c 0x03 0 c.pc 0) ∧
    (∀ n r, c.stack = n :: r → AtCode s e t c (code 0x77) →
      let count := Lintis.constWord s k.toNat
      let dst := Lintis.constWord s (k.toNat + (if n < count ∧ n < 2 ^ 31 then 8 + 4 * n else 4))
      Lintis.lands s t c.pc (c.pc + 5) dst = true →
      Leaves (.opJtab e k) s t { c with pc := dst, stack := r, ops := c.ops + 1 } s.deck)) ∧
  (∀ (s : State) (e : Fin 16) (t : Nat) (c : Cycle),
    (∀ k r, c.ret = k :: r → AtCode s e t c [0x75] → Lintis.lands s t c.pc (c.pc + 1) k = true →
      Leaves (.opRet e) s t { c with pc := k, ret := r, ops := c.ops + 1 } s.deck) ∧
    (c.ret = [] → AtCode s e t c [0x75] → Faults (.opRet e) s t c 0x04 0 c.pc 0) ∧
    (∀ k r, c.stack = k :: r → AtCode s e t c [0x76] →
      (Lintis.mayRun s t k = true → c.ret.length < 32 → k ∈ s.prog.image.funcs → Lintis.lands s t c.pc (c.pc + 1) k = true →
        Leaves (.opCallx e) s t { c with pc := k, ret := (c.pc + 1) :: c.ret, stack := r, ops := c.ops + 1 } s.deck) ∧
      (Lintis.mayRun s t k = false → Faults (.opCallx e) s t c 0x80 2 c.pc k) ∧
      (Lintis.mayRun s t k = true → c.ret.length < 32 → k ∉ s.prog.image.funcs → Faults (.opCallx e) s t c 0x08 0 c.pc 0)) ∧
    (∀ b : BitVec 8, AtCode s e t c [0x03, b] → Faults (.opTrap e b) s t c b.toNat 0 c.pc 0) ∧
    (c.stack = [] → AtCode s e t c [0x15] → Faults (.opDrop e) s t c 0x02 0 c.pc 0) ∧
    (c.stack.length = 256 → AtCode s e t c [0x04] → Faults (.opTaskno e) s t c 0x01 0 c.pc 0))
end

