-- ==== Sys2Proof/Laws/Commands.lean ====
section
/-!
SUPPORT. What the tests of R12 and the completion forms do, said once for all commands.
-/

namespace Sys2Proof.Laws
open Machine Says

/-- A command that answers a next state runs when that state has the property. -/
theorem runs_next {i : Instr} {s t : State} (h : exec i s = .next t) {P : State → Prop} : Runs i s P ↔ P t := by
  refine ⟨fun ⟨u, hu, hp⟩ => ?_, fun hp => ⟨t, h, hp⟩⟩
  rw [h] at hu
  cases hu
  exact hp

/-- The PAIR flag alone is bit 0. -/
theorem isPair_of_names {c : Cmd} {s : State} {r : Nat} (h : Names c s r) : c.isPair = true := by
  obtain ⟨h1, -⟩ := h
  simp [Cmd.isPair, h1]

/-- A header that `Names` describes passes R6. -/
theorem headerOk_of_names {c : Cmd} {s : State} {r : Nat} (h : Names c s r) : c.headerOk = true := by
  obtain ⟨h1, h2, h3, -⟩ := h
  simp [Cmd.headerOk, h1, h2, h3]

/-- A Locator that `Names` describes names the region's element that the unit test accepts. -/
theorem namesPair_of_names {c : Cmd} {s : State} {r : Nat} (h : Names c s r) (ok : Nat → Bool) :
    c.namesPair s.nodeId r ok = ok c.unit := by
  obtain ⟨-, -, -, h1, h2, h3, h4, h5⟩ := h
  simp [Cmd.namesPair, Cmd.unit, h1, h2, h3, h4, h5]

/-- A pair command that passes every test of R12 is carried out. -/
theorem pre_pass {c : Cmd} {s : State} {r : Nat} (h : Names c s r) {ok : Nat → Bool} (hu : ok c.unit = true)
    {fmt read : Bool} (hf : fmt = true) (hb : s.md.mode.afterBoot = true) {m : Mode → Bool} (hm : m s.md.mode = true)
    (rep : Reply) : Ops.pre c (c.namesPair s.nodeId r ok) fmt read m s rep = rep := by
  simp [Ops.pre, headerOk_of_names h, namesPair_of_names h, hu, hf, hb, hm, isPair_of_names h]

/-- `pre_pass` for the commands of the submission rings. -/
theorem pairCmd_pass {c : Cmd} {s : State} {r : Nat} (h : Names c s r) {op : Nat} {ok : Nat → Bool} (hu : ok c.unit = true)
    {fmt read : Bool} (hf : fmt = true) (hb : s.md.mode.afterBoot = true) {m : Mode → Bool} (hm : m s.md.mode = true)
    (rep : Reply) : Cmds.pairCmd op r ok fmt read m c s rep = Cmds.fin op c s rep := by
  rw [Cmds.pairCmd, pre_pass h hu hf hb hm]

/-- Argument bytes that `Rest` calls zero are zero to the model. -/
theorem zeroFrom_of_rest {c : Cmd} {off : Nat} (h : Rest c off) : Arg.zeroFrom c off = true := by
  simpa [Arg.zeroFrom, Rest, Nat.shiftRight_eq_div_pow] using h

/-- A final completion joins those on their way. -/
theorem complete_eq (c : Cmd) (op : Nat) (st : Status) (reason result : Nat) (s : State) :
    Ops.complete (c.origin op) st reason result s = answer c op st reason result false s := by
  have : ¬ 32 ≤ c.sq.val := by omega
  simp [Ops.complete, Ops.pushCompl, Cmd.origin, this, answer]

/-- The completion DONE of a command. -/
theorem fin_done (op : Nat) (c : Cmd) (s t : State) (result : Nat) :
    Cmds.fin op c s (.done t result) = done c op result t := by
  simp [Cmds.fin, Ops.finish, complete_eq, done]

/-- A configuration change of a subsystem whose enable bit is 0. -/
theorem fin_config {sub : Nat} {s : State} (h : s.enabled sub = false) (op : Nat) (c : Cmd) (t : State) :
    Cmds.fin op c s (.config sub t) = stored c op t := by
  simp [Cmds.fin, Ops.finish, h, complete_eq, stored, done, answer, State.draw]

/-- The interim completion ACCEPTED, while a completion ring has room for it. -/
theorem fin_accepted {t : State} (h : t.hbd.compls.length < 61440) (op : Nat) (c : Cmd) (s : State) :
    Cmds.fin op c s (.accepted t) = accepted c op t := by
  have h1 : ¬ 32 ≤ c.sq.val := by omega
  have h2 : ∀ p : Compl → Bool, ¬ 61440 ≤ (t.hbd.compls.filter p).length := fun p => by
    have := List.length_filter_le p t.hbd.compls
    omega
  simp [Cmds.fin, Ops.finish, Ops.interim, Ops.pushCompl, Cmd.origin, h1, h2, accepted, answer]

/-- A reply that carries its own completions. -/
theorem fin_quiet (op : Nat) (c : Cmd) (s t : State) : Cmds.fin op c s (.quiet t) = t := rfl

/-- A command of the HBD that passes every test of R12. -/
theorem hbdCmd_pass {c : Cmd} {s : State} {r : Nat} (h : NamesHbd c s r) {op : Nat} {ok : Nat → Bool} (hu : ok c.unit = true)
    {fmt : Bool} (hf : fmt = true) (hb : s.md.mode.afterBoot = true) {m : Mode → Bool} (hm : m s.md.mode = true)
    (rep : Reply) : Cmds.hbdCmd op r ok fmt m c s rep = Ops.finishHbd (c.origin op) s rep := by
  obtain ⟨h1, h2, h3, h4, h5, h6, h7, h8⟩ := h
  have hp : c.isPair = false := by simp [Cmd.isPair, h1]
  have hh : c.headerOk = true := by simp [Cmd.headerOk, h1, h2, h3]
  have hn : c.namesDie s.nodeId 0 r ok = true := by
    simpa [Cmd.namesDie, Cmd.unit, h4, h5, h6, h7, h8, hp] using hu
  simp [Cmds.hbdCmd, Ops.hbdPre, hh, hn, hf, hb, hm]

/-- The completion DONE of a command of the HBD. -/
theorem finishHbd_done (op : Nat) (c : Cmd) (s t : State) (result : Nat) :
    Ops.finishHbd (c.origin op) s (.done t result) = doneHbd c op result t := by
  have : ¬ 32 ≤ c.sq.val := by omega
  simp [Ops.finishHbd, Ops.completeHbd, Ops.pushCompl, Cmd.origin, this, doneHbd]

/-- An event raised at the present boundary. -/
theorem raise_eq (code src p0 p1 : Nat) (s : State) : Ops.raise code src p0 p1 s = recorded false code src p0 p1 s := rfl

/-- An event raised between two boundaries. -/
theorem raiseMid_eq (code src p0 p1 : Nat) (s : State) : Ops.raiseMid code src p0 p1 s = recorded true code src p0 p1 s := rfl

end Sys2Proof.Laws
end

