-- ==== Sys2Proof/Laws/Exec.lean ====
section
/-!
SUPPORT. What `exec` answers for each command, as the meaning gives it: one lemma per row of the opcode table.
-/

namespace Sys2Proof.Laws
open Machine Lintis

@[simp] theorem exec_fieldSupplyValid (s : State) : exec (.fieldSupplyValid) s = .next (Boots.fieldSupplyValid s) := rfl

@[simp] theorem exec_fieldSupplyLost (s : State) : exec (.fieldSupplyLost) s = .next (Boots.fieldSupplyLost s) := rfl

@[simp] theorem exec_hostSupplyValid (s : State) : exec (.hostSupplyValid) s = .next (Boots.hostSupplyValid s) := rfl

@[simp] theorem exec_hostSupplyLost (s : State) : exec (.hostSupplyLost) s = .next (Boots.hostSupplyLost s) := rfl

@[simp] theorem exec_perst (s : State) : exec (.perst) s = .next (Boots.perst s) := rfl

@[simp] theorem exec_functionLevelReset (s : State) : exec (.functionLevelReset) s = .next (Boots.functionLevelReset s) := rfl

@[simp] theorem exec_latticeLock (s : State) : exec (.latticeLock) s = .next (Boots.latticeLock s) := rfl

@[simp] theorem exec_refLost (t : Instant) (s : State) : exec (.refLost t) s = .next (refLost t s) := rfl

@[simp] theorem exec_refRestored (devPpb : Int) (t : Instant) (s : State) :
    exec (.refRestored devPpb t) s = .next (refRestored devPpb t s) := rfl

@[simp] theorem exec_holdoverExpired (t : Instant) (s : State) :
    exec (.holdoverExpired t) s = .next (holdoverExpired t s) := rfl

@[simp] theorem exec_romSelfTestEnd (die : FieldDie) (pass : Bool) (s : State) :
    exec (.romSelfTestEnd die pass) s = .next (Boots.romSelfTestEnd die pass s) := rfl

@[simp] theorem exec_hbdReady (flash : List FlashEntry) (s : State) :
    exec (.hbdReady flash) s = .next (Boots.hbdReady flash s) := rfl

@[simp] theorem exec_imageVerified (die : Die) (ctl : Image) (fid : Image) (s : State) :
    exec (.imageVerified die ctl fid) s = .next (Boots.imageVerified die ctl fid s) := rfl

@[simp] theorem exec_bootEnd (s : State) : exec (.bootEnd) s = .next (Boots.bootEnd s) := rfl

@[simp] theorem exec_fieldReset (s : State) : exec (.fieldReset) s = .next (Boots.fieldReset s) := rfl

@[simp] theorem exec_frameBoundary (inp : FieldInputs) (s : State) :
    exec (.frameBoundary inp) s = .next (Frame.boundary inp s) := rfl

@[simp] theorem exec_deadline (a b : DieLocal) (s : State) : exec (.deadline a b) s = .next (Frame.deadline a b s) := rfl

@[simp] theorem exec_frameDigestExchange (a b : List (BitVec 64)) (fidDiffers : Bool) (s : State) :
    exec (.frameDigestExchange a b fidDiffers) s = .next (Pair.digestExchange a b fidDiffers s) := rfl

@[simp] theorem exec_replayResult (a b : Replay) (s : State) :
    exec (.replayResult a b) s = .next (Pair.replayResult a b s) := rfl

@[simp] theorem exec_dieFault (die : Die) (checker : Checker) (region : Fin 8) (extent : Extent) (unit : Fin 1024) (late :
      Bool) (s : State) :
    exec (.dieFault die checker region extent unit late) s = .next (Pair.dieFault (Pair.dieOf die) checker region.val extent
      unit.val late s) := rfl

@[simp] theorem exec_eccCorrected (die : Die) (s : State) :
    exec (.eccCorrected die) s = .next (Pair.eccCorrected (Pair.dieOf die) s) := rfl

@[simp] theorem exec_fidFault (region : Fin 6) (extent : Extent) (unit : Fin 128) (s : State) :
    exec (.fidFault region extent unit) s = .next (Out.faultOff (Pair.fidFault region.val extent unit.val s)) := rfl

@[simp] theorem exec_fidRegionReturn (region : Fin 6) (s : State) :
    exec (.fidRegionReturn region) s = .next (Pair.fidRegionReturn region.val s) := rfl

@[simp] theorem exec_resyncPassEnd (dirty : Nat) (s : State) :
    exec (.resyncPassEnd dirty) s = .next (Pair.passEnd dirty s) := rfl

@[simp] theorem exec_pairRestored (s : State) : exec (.pairRestored) s = .next (Pair.restored s) := rfl

@[simp] theorem exec_resyncRetry (cause : RetryCause) (s : State) :
    exec (.resyncRetry cause) s = .next (Pair.resyncRetry cause s) := rfl

@[simp] theorem exec_healthReport (m : HealthMeas) (s : State) :
    exec (.healthReport m) s = .next (Pair.healthReport m s) := rfl

@[simp] theorem exec_heartbeat (link : Die) (s : State) : exec (.heartbeat link) s = .next (Pair.heartbeat link s) := rfl

@[simp] theorem exec_barrierLinkDown (link : Die) (lost : Bool) (s : State) :
    exec (.barrierLinkDown link lost) s = .next (Pair.linkDown link lost s) := rfl

@[simp] theorem exec_barrierLinkRetrain (link : Die) (s : State) :
    exec (.barrierLinkRetrain link) s = .next (Pair.linkRetrain link s) := rfl

@[simp] theorem exec_barrierLinkUp (link : Die) (s : State) :
    exec (.barrierLinkUp link) s = .next (Pair.linkBack link s) := rfl

@[simp] theorem exec_girderDown (s : State) : exec (.girderDown) s = .next (Pair.girderDown s) := rfl

@[simp] theorem exec_girderRetrain (ok : Bool) (s : State) :
    exec (.girderRetrain ok) s = .next (Pair.girderRetrain ok s) := rfl

@[simp] theorem exec_linkControl (msg : LinkCtl) (s : State) :
    exec (.linkControl msg) s = .next (Boots.linkControl msg s) := rfl

@[simp] theorem exec_pairWrite (offset : BitVec 16) (data : BitVec 32) (s : State) :
    exec (.pairWrite offset data) s = .next (Setup.applyWrite offset.toNat data.toNat s) := rfl

@[simp] theorem exec_command (opcode : BitVec 16) (c : Cmd) (load : Option (List (BitVec 8))) (s : State) :
    exec (.command opcode c load) s = .next (Cmds.command opcode.toNat c load s) := rfl

@[simp] theorem exec_completion (s : State) : exec (.completion) s = .next (completion s) := rfl

@[simp] theorem exec_stream (ring : Fin 32) (s : State) : exec (.stream ring) s = .next (stream ring.val s) := rfl

@[simp] theorem exec_event (s : State) : exec (.event) s = .next (event s) := rfl

@[simp] theorem exec_fieldRecorderRestart (s : State) : exec (.fieldRecorderRestart) s = .next (fieldRecorderRestart s) := rfl

@[simp] theorem exec_counterDump (s : State) : exec (.counterDump) s = .next (RecOps.counterDump s) := rfl

@[simp] theorem exec_dumpCapture (s : State) : exec (.dumpCapture) s = .next (RecOps.capture s) := rfl

@[simp] theorem exec_time (s : State) : exec (.time) s = .next (Setup.time s) := rfl

@[simp] theorem exec_ack (s : State) : exec (.ack) s = .next (ack s) := rfl

@[simp] theorem exec_boot (msg : BootMsg) (s : State) : exec (.boot msg) s = .next (Boots.bootMsg msg s) := rfl

@[simp] theorem exec_bulkDown (b : BulkDown) (s : State) : exec (.bulkDown b) s = .next (Dma.bulkDown b s) := rfl

@[simp] theorem exec_bulkUp (h : Fin 16) (s : State) : exec (.bulkUp h) s = .next (Dma.bulkUp h.val s) := rfl

@[simp] theorem exec_diagRequest (req : Nat) (s : State) : exec (.diagRequest req) s = .next (Regs.diagRequest req s) := rfl

@[simp] theorem exec_diagReply (req : Nat) (s : State) : exec (.diagReply req) s = .next (Regs.diagReply req s) := rfl

@[simp] theorem exec_diagReplyTimeout (req us : Nat) (s : State) :
    exec (.diagReplyTimeout req us) s = .next (Regs.diagTimeout req us s) := rfl

@[simp] theorem exec_modeForce (value : BitVec 32) (s : State) :
    exec (.modeForce value) s = .next (Modes.force value.toNat s) := rfl

@[simp] theorem exec_modeForceReset (value : BitVec 32) (s : State) :
    exec (.modeForceReset value) s = .next (Modes.forceTo 0 value.toNat s) := rfl

@[simp] theorem exec_modeForceConfigure (value : BitVec 32) (s : State) :
    exec (.modeForceConfigure value) s = .next (Modes.forceTo 2 value.toNat s) := rfl

@[simp] theorem exec_degradedExpired (s : State) : exec (.degradedExpired) s = .next (Modes.degradedExpired s) := rfl

@[simp] theorem exec_subsysEnable (value : BitVec 32) (s : State) :
    exec (.subsysEnable value) s = .next (Setup.direct 0x4000 value.toNat s) := rfl

@[simp] theorem exec_redundancyCfg (value : BitVec 32) (s : State) :
    exec (.redundancyCfg value) s = .next (Setup.direct 0x42C0 value.toNat s) := rfl

@[simp] theorem exec_checkedSetupWrite (offset : BitVec 16) (value : BitVec 32) (s : State) :
    exec (.checkedSetupWrite offset value) s = .next (Setup.checkedWrite offset.toNat value.toNat s) := rfl

@[simp] theorem exec_consistencyCheckEnd (m : CheckMeas) (s : State) :
    exec (.consistencyCheckEnd m) s = .next (Checks.checkEnd m s) := rfl

@[simp] theorem exec_slackClear (value : BitVec 32) (s : State) :
    exec (.slackClear value) s = .next (Setup.direct 0x4064 value.toNat s) := rfl

@[simp] theorem exec_governorInterval (s : State) : exec (.governorInterval) s = .next (governorInterval s) := rfl

@[simp] theorem exec_readVoutPoll (mv : Nat) (t : Instant) (s : State) :
    exec (.readVoutPoll mv t) s = .next (readVoutPoll mv t s) := rfl

@[simp] theorem exec_voutSettleTimeout (t : Instant) (s : State) :
    exec (.voutSettleTimeout t) s = .next (voutSettleTimeout t s) := rfl

@[simp] theorem exec_govRegAlert (status : BitVec 16) (s : State) :
    exec (.govRegAlert status) s = .next (govRegAlert status.toNat s) := rfl

@[simp] theorem exec_timeSet (c : Cmd) (s : State) : exec (.timeSet c) s = .next (Cmds.timeSet c s) := rfl

@[simp] theorem exec_txtsRead (c : Cmd) (s : State) : exec (.txtsRead c) s = .next (Cmds.txtsRead c s) := rfl

@[simp] theorem exec_timeStep (theta : Int) (s : State) : exec (.timeStep theta) s = .next (TimeCmd.timeStep theta s) := rfl

@[simp] theorem exec_ppsInEdge (rising : Bool) (t : Instant) (s : State) :
    exec (.ppsInEdge rising t) s = .next (TimeCmd.ppsInEdge rising t s) := rfl

@[simp] theorem exec_ppsLost (t : Instant) (s : State) : exec (.ppsLost t) s = .next (ppsLost t s) := rfl

@[simp] theorem exec_ppsOut (s : State) : exec (.ppsOut) s = .next (ppsOut s) := rfl

@[simp] theorem exec_ppsOutWidthEnd (t : Instant) (s : State) : exec (.ppsOutWidthEnd t) s = .next (ppsOutWidthEnd t s) := rfl

@[simp] theorem exec_modeRequest (c : Cmd) (s : State) : exec (.modeRequest c) s = .next (Cmds.modeRequest c s) := rfl

@[simp] theorem exec_axisLimits (c : Cmd) (s : State) : exec (.axisLimits c) s = .next (Cmds.axisLimits c s) := rfl

@[simp] theorem exec_axisStops (c : Cmd) (s : State) : exec (.axisStops c) s = .next (Cmds.axisStops c s) := rfl

@[simp] theorem exec_axisIo (c : Cmd) (s : State) : exec (.axisIo c) s = .next (Cmds.axisIo c s) := rfl

@[simp] theorem exec_move (c : Cmd) (s : State) : exec (.move c) s = .next (Cmds.move c s) := rfl

@[simp] theorem exec_stop (c : Cmd) (s : State) : exec (.stop c) s = .next (Cmds.stop c s) := rfl

@[simp] theorem exec_override (c : Cmd) (s : State) : exec (.override c) s = .next (Cmds.override c s) := rfl

@[simp] theorem exec_follow (c : Cmd) (s : State) : exec (.follow c) s = .next (Cmds.follow c s) := rfl

@[simp] theorem exec_jog (c : Cmd) (s : State) : exec (.jog c) s = .next (Cmds.jog c s) := rfl

@[simp] theorem exec_home (c : Cmd) (s : State) : exec (.home c) s = .next (Cmds.home c s) := rfl

@[simp] theorem exec_axisStatus (c : Cmd) (s : State) : exec (.axisStatus c) s = .next (Cmds.axisStatus c s) := rfl

@[simp] theorem exec_encoderStatus (c : Cmd) (s : State) : exec (.encoderStatus c) s = .next (Cmds.encoderStatus c s) := rfl

@[simp] theorem exec_servoTick (s : State) : exec (.servoTick) s = .next (Servo.servoTick s) := rfl

@[simp] theorem exec_followMasterLost (axis : Fin 64) (s : State) :
    exec (.followMasterLost axis) s = .next (Servo.followMasterLost axis.val s) := rfl

@[simp] theorem exec_axisFeFault (axis : Fin 64) (s : State) :
    exec (.axisFeFault axis) s = .next (Servo.axisFeFault axis.val s) := rfl

@[simp] theorem exec_homeChatterWindowEnd (axis : Fin 64) (s : State) :
    exec (.homeChatterWindowEnd axis) s = .next (Home.chatterWindowEnd axis.val s) := rfl

@[simp] theorem exec_encoderEdge (axis : Fin 64) (a b : Bool) (heldA heldB : Nat) (s : State) :
    exec (.encoderEdge axis a b heldA heldB) s = .next (AxisIo.encoderEdge axis.val a b heldA heldB s) := rfl

@[simp] theorem exec_indexEdge (axis : Fin 64) (level : Bool) (held : Nat) (t : Instant) (s : State) :
    exec (.indexEdge axis level held t) s = .next (AxisIo.indexEdge axis.val level held t s) := rfl

@[simp] theorem exec_switchEdge (axis : Fin 64) (sw : Switch) (level : Bool) (t : Instant) (s : State) :
    exec (.switchEdge axis sw level t) s = .next (AxisIo.switchEdge axis.val sw level t s) := rfl

@[simp] theorem exec_switchEdgeQualified (axis : Fin 64) (sw : Switch) (t : Instant) (s : State) :
    exec (.switchEdgeQualified axis sw t) s = .next (AxisIo.switchEdgeQualified axis.val sw t s) := rfl

@[simp] theorem exec_trigInEdge (n : Fin 8) (level : Bool) (t : Instant) (s : State) :
    exec (.trigInEdge n level t) s = .next (Out.trigInEdge n.val level t s) := rfl

@[simp] theorem exec_loopSlot (c : Cmd) (s : State) : exec (.loopSlot c) s = .next (Cmds.loopSlot c s) := rfl

@[simp] theorem exec_loopStage (c : Cmd) (s : State) : exec (.loopStage c) s = .next (Cmds.loopStage c s) := rfl

@[simp] theorem exec_loopTable (c : Cmd) (s : State) : exec (.loopTable c) s = .next (Cmds.loopTable c s) := rfl

@[simp] theorem exec_loopSetpoint (c : Cmd) (s : State) : exec (.loopSetpoint c) s = .next (Cmds.loopSetpoint c s) := rfl

@[simp] theorem exec_loopMode (c : Cmd) (s : State) : exec (.loopMode c) s = .next (Cmds.loopMode c s) := rfl

@[simp] theorem exec_loopSet (c : Cmd) (s : State) : exec (.loopSet c) s = .next (Cmds.loopSet c s) := rfl

@[simp] theorem exec_loopPreset (c : Cmd) (s : State) : exec (.loopPreset c) s = .next (Cmds.loopPreset c s) := rfl

@[simp] theorem exec_loopOscClear (c : Cmd) (s : State) : exec (.loopOscClear c) s = .next (Cmds.loopOscClear c s) := rfl

@[simp] theorem exec_loopStatus (c : Cmd) (s : State) : exec (.loopStatus c) s = .next (Cmds.loopStatus c s) := rfl

@[simp] theorem exec_loopSlotBoundary (u : Fin 832) (s : State) :
    exec (.loopSlotBoundary u) s = .next (Loop.slotBoundary u.val s) := rfl

@[simp] theorem exec_loopInputStale (u : Fin 832) (s : State) :
    exec (.loopInputStale u) s = .next (Loop.inputStale u.val s) := rfl

@[simp] theorem exec_adcConverter (c : Cmd) (s : State) : exec (.adcConverter c) s = .next (Cmds.adcConverter c s) := rfl

@[simp] theorem exec_adcSequence (c : Cmd) (s : State) : exec (.adcSequence c) s = .next (Cmds.adcSequence c s) := rfl

@[simp] theorem exec_adcDma (c : Cmd) (s : State) : exec (.adcDma c) s = .next (Cmds.adcDma c s) := rfl

@[simp] theorem exec_adcStatus (c : Cmd) (s : State) : exec (.adcStatus c) s = .next (Cmds.adcStatus c s) := rfl

@[simp] theorem exec_adcRegularTrigger (conv : Fin 32) (t : Instant) (s : State) :
    exec (.adcRegularTrigger conv t) s = .next (Adc.regularTrigger conv.val t s) := rfl

@[simp] theorem exec_adcInjectedTrigger (conv : Fin 32) (t : Instant) (s : State) :
    exec (.adcInjectedTrigger conv t) s = .next (Adc.injectedTrigger conv.val t s) := rfl

@[simp] theorem exec_converterFree (conv : Fin 32) (t : Instant) (s : State) :
    exec (.converterFree conv t) s = .next (Adc.converterFree conv.val t s) := rfl

@[simp] theorem exec_adcSlotEnd (conv : Fin 32) (a b : AnalogIn) (t : Instant) (s : State) :
    exec (.adcSlotEnd conv a b t) s = .next (Adc.slotEnd conv.val (Adc.codeOf a) (Adc.codeOf b) t s) := rfl

@[simp] theorem exec_adcTestEnd (conv : Fin 32) (t : Instant) (s : State) :
    exec (.adcTestEnd conv t) s = .next (Pair.converterTestEnd conv.val t s) := rfl

@[simp] theorem exec_acqTapAssign (c : Cmd) (s : State) : exec (.acqTapAssign c) s = .next (Cmds.acqTapAssign c s) := rfl

@[simp] theorem exec_acqReduce (c : Cmd) (s : State) : exec (.acqReduce c) s = .next (Cmds.acqReduce c s) := rfl

@[simp] theorem exec_captureCfg (c : Cmd) (s : State) : exec (.captureCfg c) s = .next (Cmds.captureCfg c s) := rfl

@[simp] theorem exec_captureTrigger (c : Cmd) (s : State) :
    exec (.captureTrigger c) s = .next (Cmds.captureTrigger c s) := rfl

@[simp] theorem exec_captureArm (c : Cmd) (s : State) : exec (.captureArm c) s = .next (Cmds.captureArm c s) := rfl

@[simp] theorem exec_captureStop (c : Cmd) (s : State) : exec (.captureStop c) s = .next (Cmds.captureStop c s) := rfl

@[simp] theorem exec_captureSample (eng : Fin 64) (s : State) :
    exec (.captureSample eng) s = .next (AcqOps.captureSample eng.val s) := rfl

@[simp] theorem exec_reductionIntervalEnd (tap : Fin 4096) (s : State) :
    exec (.reductionIntervalEnd tap) s = .next (AcqOps.intervalEnd tap.val s) := rfl

@[simp] theorem exec_seqCfg (c : Cmd) (s : State) : exec (.seqCfg c) s = .next (Cmds.seqCfg c s) := rfl

@[simp] theorem exec_seqLoad (c : Cmd) (load : Option (List (BitVec 8))) (s : State) :
    exec (.seqLoad c load) s = .next (Cmds.seqLoad c load s) := rfl

@[simp] theorem exec_seqStart (c : Cmd) (s : State) : exec (.seqStart c) s = .next (Cmds.seqStart c s) := rfl

@[simp] theorem exec_seqResume (c : Cmd) (s : State) : exec (.seqResume c) s = .next (Cmds.seqResume c s) := rfl

@[simp] theorem exec_seqStatus (c : Cmd) (s : State) : exec (.seqStatus c) s = .next (Cmds.seqStatus c s) := rfl

@[simp] theorem exec_stepPrepared (q : Fin 16) (t : Instant) (s : State) :
    exec (.stepPrepared q t) s = .next (Seq.stepPrepared q.val t s) := rfl

@[simp] theorem exec_keystoneCommit (q : Fin 16) (s : State) :
    exec (.keystoneCommit q) s = .next (Seq.keystoneCommit q.val s) := rfl

@[simp] theorem exec_stepEnd (q : Fin 16) (s : State) : exec (.stepEnd q) s = .next (Seq.stepEnd q.val s) := rfl

@[simp] theorem exec_seqTimeout (q : Fin 16) (s : State) : exec (.seqTimeout q) s = .next (Seq.seqTimeout q.val s) := rfl

@[simp] theorem exec_progCfg (c : Cmd) (s : State) : exec (.progCfg c) s = .next (Cmds.progCfg c s) := rfl

@[simp] theorem exec_progLoad (c : Cmd) (load : Option (List (BitVec 8))) (s : State) :
    exec (.progLoad c load) s = .next (Cmds.progLoad c load s) := rfl

@[simp] theorem exec_taskCfg (c : Cmd) (s : State) : exec (.taskCfg c) s = .next (Cmds.taskCfg c s) := rfl

@[simp] theorem exec_progImage (c : Cmd) (s : State) : exec (.progImage c) s = .next (Cmds.progImage c s) := rfl

@[simp] theorem exec_progMap (c : Cmd) (s : State) : exec (.progMap c) s = .next (Cmds.progMap c s) := rfl

@[simp] theorem exec_progChange (c : Cmd) (s : State) : exec (.progChange c) s = .next (Cmds.progChange c s) := rfl

@[simp] theorem exec_forceSet (c : Cmd) (s : State) : exec (.forceSet c) s = .next (Cmds.forceSet c s) := rfl

@[simp] theorem exec_forceClear (c : Cmd) (s : State) : exec (.forceClear c) s = .next (Cmds.forceClear c s) := rfl

@[simp] theorem exec_taskControl (c : Cmd) (s : State) : exec (.taskControl c) s = .next (Cmds.taskControl c s) := rfl

@[simp] theorem exec_taskFlags (c : Cmd) (s : State) : exec (.taskFlags c) s = .next (Cmds.taskFlags c s) := rfl

@[simp] theorem exec_taskStatus (c : Cmd) (s : State) : exec (.taskStatus c) s = .next (Cmds.taskStatus c s) := rfl

@[simp] theorem exec_taskFaultRead (c : Cmd) (s : State) : exec (.taskFaultRead c) s = .next (Cmds.taskFaultRead c s) := rfl

@[simp] theorem exec_forceRead (c : Cmd) (s : State) : exec (.forceRead c) s = .next (Cmds.forceRead c s) := rfl

@[simp] theorem exec_dispatch (s : State) : exec (.dispatch) s = .next (Prog.dispatch s) := rfl

@[simp] theorem exec_opNop (e : Fin 16) (s : State) :
    exec (.opNop e) s = .next (Lintis.run e (enc 0x00 0 0) (pureOp 0 fun _ => []) s) := rfl

@[simp] theorem exec_opTake (e : Fin 16) (s : State) : exec (.opTake e) s = .next (Lintis.run e (enc 0x01 0 0) take s) := rfl

@[simp] theorem exec_opSignal (e : Fin 16) (t : BitVec 16) (b : BitVec 8) (s : State) :
    exec (.opSignal e t b) s = .next (Lintis.run e (enc 0x02 3 (t.toNat + b.toNat * 65536)) (signal t.toNat b.toNat) s) := rfl

@[simp] theorem exec_opTrap (e : Fin 16) (b : BitVec 8) (s : State) :
    exec (.opTrap e b) s = .next (Lintis.run e (enc 0x03 1 b.toNat) (fun _ _ _ => .trap b.toNat 0 0) s) := rfl

@[simp] theorem exec_opTaskno (e : Fin 16) (s : State) :
    exec (.opTaskno e) s = .next (Lintis.run e (enc 0x04 0 0) (fun s t c => give t s t c) s) := rfl

@[simp] theorem exec_opCycflags (e : Fin 16) (s : State) :
    exec (.opCycflags e) s = .next (Lintis.run e (enc 0x05 0 0) (fun s t c => give c.flags s t c) s) := rfl

@[simp] theorem exec_opCycno (e : Fin 16) (s : State) :
    exec (.opCycno e) s = .next (Lintis.run e (enc 0x06 0 0) (fun s t c => give c.num s t c) s) := rfl

@[simp] theorem exec_opCtime (e : Fin 16) (s : State) :
    exec (.opCtime e) s = .next (Lintis.run e (enc 0x07 0 0) (fun s t c => give2 c.ns s t c) s) := rfl

@[simp] theorem exec_opFrameno (e : Fin 16) (s : State) :
    exec (.opFrameno e) s = .next (Lintis.run e (enc 0x08 0 0) (fun s t c => give2 c.b s t c) s) := rfl

@[simp] theorem exec_opPushb (e : Fin 16) (v : BitVec 8) (s : State) :
    exec (.opPushb e v) s = .next (Lintis.run e (enc 0x10 1 v.toNat) (give (sx 8 v.toNat)) s) := rfl

@[simp] theorem exec_opPushh (e : Fin 16) (v : BitVec 16) (s : State) :
    exec (.opPushh e v) s = .next (Lintis.run e (enc 0x11 2 v.toNat) (give (sx 16 v.toNat)) s) := rfl

@[simp] theorem exec_opPushw (e : Fin 16) (v : BitVec 32) (s : State) :
    exec (.opPushw e v) s = .next (Lintis.run e (enc 0x12 4 v.toNat) (give v.toNat) s) := rfl

@[simp] theorem exec_opDup (e : Fin 16) (s : State) :
    exec (.opDup e) s = .next (Lintis.run e (enc 0x13 0 0) (pureOp 1 fun l => [l.getD 0 0, l.getD 0 0]) s) := rfl

@[simp] theorem exec_opDup2 (e : Fin 16) (s : State) :
    exec (.opDup2 e) s = .next (Lintis.run e (enc 0x14 0 0) (pureOp 2 fun l => l ++ l) s) := rfl

@[simp] theorem exec_opDrop (e : Fin 16) (s : State) :
    exec (.opDrop e) s = .next (Lintis.run e (enc 0x15 0 0) (pureOp 1 fun _ => []) s) := rfl

@[simp] theorem exec_opDrop2 (e : Fin 16) (s : State) :
    exec (.opDrop2 e) s = .next (Lintis.run e (enc 0x16 0 0) (pureOp 2 fun _ => []) s) := rfl

@[simp] theorem exec_opSwap (e : Fin 16) (s : State) :
    exec (.opSwap e) s = .next (Lintis.run e (enc 0x17 0 0) (pureOp 2 fun l => [l.getD 1 0, l.getD 0 0]) s) := rfl

@[simp] theorem exec_opSwap2 (e : Fin 16) (s : State) :
    exec (.opSwap2 e) s = .next (Lintis.run e (enc 0x18 0 0) (pureOp 4 fun l => l.drop 2 ++ l.take 2) s) := rfl

@[simp] theorem exec_opOver (e : Fin 16) (s : State) :
    exec (.opOver e) s = .next (Lintis.run e (enc 0x19 0 0) (pureOp 2 fun l => l.getD 1 0 :: l) s) := rfl

@[simp] theorem exec_opPick (e : Fin 16) (b : BitVec 8) (s : State) :
    exec (.opPick e b) s = .next (Lintis.run e (enc 0x1A 1 b.toNat) (pureOp (b.toNat + 1) fun l => l.getD b.toNat 0 :: l) s)
      := rfl

@[simp] theorem exec_opLd32 (e : Fin 16) (a : BitVec 32) (s : State) :
    exec (.opLd32 e a) s = .next (Lintis.run e (enc 0x20 4 a.toNat) (load 4 (fun v => [v]) a.toNat) s) := rfl

@[simp] theorem exec_opLd64 (e : Fin 16) (a : BitVec 32) (s : State) :
    exec (.opLd64 e a) s = .next (Lintis.run e (enc 0x21 4 a.toNat) (load 8 cells a.toNat) s) := rfl

@[simp] theorem exec_opLdu8 (e : Fin 16) (a : BitVec 32) (s : State) :
    exec (.opLdu8 e a) s = .next (Lintis.run e (enc 0x22 4 a.toNat) (load 1 (fun v => [v]) a.toNat) s) := rfl

@[simp] theorem exec_opLdi8 (e : Fin 16) (a : BitVec 32) (s : State) :
    exec (.opLdi8 e a) s = .next (Lintis.run e (enc 0x23 4 a.toNat) (load 1 (fun v => [sx 8 v]) a.toNat) s) := rfl

@[simp] theorem exec_opLdu16 (e : Fin 16) (a : BitVec 32) (s : State) :
    exec (.opLdu16 e a) s = .next (Lintis.run e (enc 0x24 4 a.toNat) (load 2 (fun v => [v]) a.toNat) s) := rfl

@[simp] theorem exec_opLdi16 (e : Fin 16) (a : BitVec 32) (s : State) :
    exec (.opLdi16 e a) s = .next (Lintis.run e (enc 0x25 4 a.toNat) (load 2 (fun v => [sx 16 v]) a.toNat) s) := rfl

@[simp] theorem exec_opSt32 (e : Fin 16) (a : BitVec 32) (s : State) :
    exec (.opSt32 e a) s = .next (Lintis.run e (enc 0x26 4 a.toNat) (save 4 1 a.toNat) s) := rfl

@[simp] theorem exec_opSt64 (e : Fin 16) (a : BitVec 32) (s : State) :
    exec (.opSt64 e a) s = .next (Lintis.run e (enc 0x27 4 a.toNat) (save 8 2 a.toNat) s) := rfl

@[simp] theorem exec_opSt8 (e : Fin 16) (a : BitVec 32) (s : State) :
    exec (.opSt8 e a) s = .next (Lintis.run e (enc 0x28 4 a.toNat) (save 1 1 a.toNat) s) := rfl

@[simp] theorem exec_opSt16 (e : Fin 16) (a : BitVec 32) (s : State) :
    exec (.opSt16 e a) s = .next (Lintis.run e (enc 0x29 4 a.toNat) (save 2 1 a.toNat) s) := rfl

@[simp] theorem exec_opLdx32 (e : Fin 16) (s : State) :
    exec (.opLdx32 e) s = .next (Lintis.run e (enc 0x2A 0 0) (loadX 4 fun v => [v]) s) := rfl

@[simp] theorem exec_opLdx64 (e : Fin 16) (s : State) :
    exec (.opLdx64 e) s = .next (Lintis.run e (enc 0x2B 0 0) (loadX 8 cells) s) := rfl

@[simp] theorem exec_opLdxu8 (e : Fin 16) (s : State) :
    exec (.opLdxu8 e) s = .next (Lintis.run e (enc 0x2C 0 0) (loadX 1 fun v => [v]) s) := rfl

@[simp] theorem exec_opStx32 (e : Fin 16) (s : State) :
    exec (.opStx32 e) s = .next (Lintis.run e (enc 0x2D 0 0) (saveX 4 1) s) := rfl

@[simp] theorem exec_opStx64 (e : Fin 16) (s : State) :
    exec (.opStx64 e) s = .next (Lintis.run e (enc 0x2E 0 0) (saveX 8 2) s) := rfl

@[simp] theorem exec_opStx8 (e : Fin 16) (s : State) :
    exec (.opStx8 e) s = .next (Lintis.run e (enc 0x2F 0 0) (saveX 1 1) s) := rfl

@[simp] theorem exec_opIadd (e : Fin 16) (s : State) :
    exec (.opIadd e) s = .next (Lintis.run e (enc 0x30 0 0) (bin fun x y => x + y) s) := rfl

@[simp] theorem exec_opIsub (e : Fin 16) (s : State) :
    exec (.opIsub e) s = .next (Lintis.run e (enc 0x31 0 0) (bin fun x y => w32 (i32 x - i32 y)) s) := rfl

@[simp] theorem exec_opImul (e : Fin 16) (s : State) :
    exec (.opImul e) s = .next (Lintis.run e (enc 0x32 0 0) (bin fun x y => x * y) s) := rfl

@[simp] theorem exec_opIdiv (e : Fin 16) (s : State) :
    exec (.opIdiv e) s = .next (Lintis.run e (enc 0x33 0 0) (binT fun x y => byNonzero y (w32 ((i32 x).tdiv (i32 y)))) s) :=
      rfl

@[simp] theorem exec_opIrem (e : Fin 16) (s : State) :
    exec (.opIrem e) s = .next (Lintis.run e (enc 0x34 0 0) (binT fun x y => byNonzero y (w32 ((i32 x).tmod (i32 y)))) s) :=
      rfl

@[simp] theorem exec_opIneg (e : Fin 16) (s : State) :
    exec (.opIneg e) s = .next (Lintis.run e (enc 0x35 0 0) (un fun x => w32 (-(i32 x))) s) := rfl

@[simp] theorem exec_opUdiv (e : Fin 16) (s : State) :
    exec (.opUdiv e) s = .next (Lintis.run e (enc 0x36 0 0) (binT fun x y => byNonzero y (x / y)) s) := rfl

@[simp] theorem exec_opUrem (e : Fin 16) (s : State) :
    exec (.opUrem e) s = .next (Lintis.run e (enc 0x37 0 0) (binT fun x y => byNonzero y (x % y)) s) := rfl

@[simp] theorem exec_opAnd (e : Fin 16) (s : State) :
    exec (.opAnd e) s = .next (Lintis.run e (enc 0x38 0 0) (bin fun x y => x &&& y) s) := rfl

@[simp] theorem exec_opOr (e : Fin 16) (s : State) :
    exec (.opOr e) s = .next (Lintis.run e (enc 0x39 0 0) (bin fun x y => x ||| y) s) := rfl

@[simp] theorem exec_opXor (e : Fin 16) (s : State) :
    exec (.opXor e) s = .next (Lintis.run e (enc 0x3A 0 0) (bin fun x y => x ^^^ y) s) := rfl

@[simp] theorem exec_opNot (e : Fin 16) (s : State) :
    exec (.opNot e) s = .next (Lintis.run e (enc 0x3B 0 0) (un fun x => x ^^^ 0xFFFFFFFF) s) := rfl

@[simp] theorem exec_opShl (e : Fin 16) (s : State) :
    exec (.opShl e) s = .next (Lintis.run e (enc 0x3C 0 0) (bin fun x i => x <<< (i % 32)) s) := rfl

@[simp] theorem exec_opShr (e : Fin 16) (s : State) :
    exec (.opShr e) s = .next (Lintis.run e (enc 0x3D 0 0) (bin fun x i => x >>> (i % 32)) s) := rfl

@[simp] theorem exec_opSar (e : Fin 16) (s : State) :
    exec (.opSar e) s = .next (Lintis.run e (enc 0x3E 0 0) (bin fun x i => w32 (i32 x / 2 ^ (i % 32))) s) := rfl

@[simp] theorem exec_opLadd (e : Fin 16) (s : State) :
    exec (.opLadd e) s = .next (Lintis.run e (enc 0x40 0 0) (bin2 fun x y => x + y) s) := rfl

@[simp] theorem exec_opLsub (e : Fin 16) (s : State) :
    exec (.opLsub e) s = .next (Lintis.run e (enc 0x41 0 0) (bin2 fun x y => w64 (i64 x - i64 y)) s) := rfl

@[simp] theorem exec_opLmul (e : Fin 16) (s : State) :
    exec (.opLmul e) s = .next (Lintis.run e (enc 0x42 0 0) (bin2 fun x y => x * y) s) := rfl

@[simp] theorem exec_opLdiv (e : Fin 16) (s : State) :
    exec (.opLdiv e) s = .next (Lintis.run e (enc 0x43 0 0) (bin2T fun x y => byNonzero y (w64 ((i64 x).tdiv (i64 y)))) s) :=
      rfl

@[simp] theorem exec_opLrem (e : Fin 16) (s : State) :
    exec (.opLrem e) s = .next (Lintis.run e (enc 0x44 0 0) (bin2T fun x y => byNonzero y (w64 ((i64 x).tmod (i64 y)))) s) :=
      rfl

@[simp] theorem exec_opLneg (e : Fin 16) (s : State) :
    exec (.opLneg e) s = .next (Lintis.run e (enc 0x45 0 0) (un2 fun x => w64 (-(i64 x))) s) := rfl

@[simp] theorem exec_opLand (e : Fin 16) (s : State) :
    exec (.opLand e) s = .next (Lintis.run e (enc 0x46 0 0) (bin2 fun x y => x &&& y) s) := rfl

@[simp] theorem exec_opLor (e : Fin 16) (s : State) :
    exec (.opLor e) s = .next (Lintis.run e (enc 0x47 0 0) (bin2 fun x y => x ||| y) s) := rfl

@[simp] theorem exec_opLxor (e : Fin 16) (s : State) :
    exec (.opLxor e) s = .next (Lintis.run e (enc 0x48 0 0) (bin2 fun x y => x ^^^ y) s) := rfl

@[simp] theorem exec_opLshl (e : Fin 16) (s : State) :
    exec (.opLshl e) s = .next (Lintis.run e (enc 0x49 0 0) (shift2 fun x i => x <<< i) s) := rfl

@[simp] theorem exec_opLshr (e : Fin 16) (s : State) :
    exec (.opLshr e) s = .next (Lintis.run e (enc 0x4A 0 0) (shift2 fun x i => x >>> i) s) := rfl

@[simp] theorem exec_opLsar (e : Fin 16) (s : State) :
    exec (.opLsar e) s = .next (Lintis.run e (enc 0x4B 0 0) (shift2 fun x i => w64 (i64 x / 2 ^ i)) s) := rfl

@[simp] theorem exec_opFadd (e : Fin 16) (s : State) :
    exec (.opFadd e) s = .next (Lintis.run e (enc 0x50 0 0) (bin f32.add) s) := rfl

@[simp] theorem exec_opFsub (e : Fin 16) (s : State) :
    exec (.opFsub e) s = .next (Lintis.run e (enc 0x51 0 0) (bin f32.sub) s) := rfl

@[simp] theorem exec_opFmul (e : Fin 16) (s : State) :
    exec (.opFmul e) s = .next (Lintis.run e (enc 0x52 0 0) (bin f32.mul) s) := rfl

@[simp] theorem exec_opFdiv (e : Fin 16) (s : State) :
    exec (.opFdiv e) s = .next (Lintis.run e (enc 0x53 0 0) (bin f32.div) s) := rfl

@[simp] theorem exec_opFneg (e : Fin 16) (s : State) :
    exec (.opFneg e) s = .next (Lintis.run e (enc 0x54 0 0) (un f32.neg) s) := rfl

@[simp] theorem exec_opFabs (e : Fin 16) (s : State) :
    exec (.opFabs e) s = .next (Lintis.run e (enc 0x55 0 0) (un f32.abs) s) := rfl

@[simp] theorem exec_opFsqrt (e : Fin 16) (s : State) :
    exec (.opFsqrt e) s = .next (Lintis.run e (enc 0x56 0 0) (un f32.sqrt) s) := rfl

@[simp] theorem exec_opFrint (e : Fin 16) (s : State) :
    exec (.opFrint e) s = .next (Lintis.run e (enc 0x57 0 0) (un f32.rint) s) := rfl

@[simp] theorem exec_opDadd (e : Fin 16) (s : State) :
    exec (.opDadd e) s = .next (Lintis.run e (enc 0x58 0 0) (bin2 f64.add) s) := rfl

@[simp] theorem exec_opDsub (e : Fin 16) (s : State) :
    exec (.opDsub e) s = .next (Lintis.run e (enc 0x59 0 0) (bin2 f64.sub) s) := rfl

@[simp] theorem exec_opDmul (e : Fin 16) (s : State) :
    exec (.opDmul e) s = .next (Lintis.run e (enc 0x5A 0 0) (bin2 f64.mul) s) := rfl

@[simp] theorem exec_opDdiv (e : Fin 16) (s : State) :
    exec (.opDdiv e) s = .next (Lintis.run e (enc 0x5B 0 0) (bin2 f64.div) s) := rfl

@[simp] theorem exec_opDneg (e : Fin 16) (s : State) :
    exec (.opDneg e) s = .next (Lintis.run e (enc 0x5C 0 0) (un2 f64.neg) s) := rfl

@[simp] theorem exec_opDabs (e : Fin 16) (s : State) :
    exec (.opDabs e) s = .next (Lintis.run e (enc 0x5D 0 0) (un2 f64.abs) s) := rfl

@[simp] theorem exec_opDsqrt (e : Fin 16) (s : State) :
    exec (.opDsqrt e) s = .next (Lintis.run e (enc 0x5E 0 0) (un2 f64.sqrt) s) := rfl

@[simp] theorem exec_opDrint (e : Fin 16) (s : State) :
    exec (.opDrint e) s = .next (Lintis.run e (enc 0x5F 0 0) (un2 f64.rint) s) := rfl

@[simp] theorem exec_opIceq (e : Fin 16) (s : State) :
    exec (.opIceq e) s = .next (Lintis.run e (enc 0x60 0 0) (cmp fun x y => decide (x = y)) s) := rfl

@[simp] theorem exec_opIclt (e : Fin 16) (s : State) :
    exec (.opIclt e) s = .next (Lintis.run e (enc 0x61 0 0) (cmp fun x y => decide (i32 x < i32 y)) s) := rfl

@[simp] theorem exec_opIcle (e : Fin 16) (s : State) :
    exec (.opIcle e) s = .next (Lintis.run e (enc 0x62 0 0) (cmp fun x y => decide (i32 x ≤ i32 y)) s) := rfl

@[simp] theorem exec_opUclt (e : Fin 16) (s : State) :
    exec (.opUclt e) s = .next (Lintis.run e (enc 0x63 0 0) (cmp fun x y => decide (x < y)) s) := rfl

@[simp] theorem exec_opUcle (e : Fin 16) (s : State) :
    exec (.opUcle e) s = .next (Lintis.run e (enc 0x64 0 0) (cmp fun x y => decide (x ≤ y)) s) := rfl

@[simp] theorem exec_opLceq (e : Fin 16) (s : State) :
    exec (.opLceq e) s = .next (Lintis.run e (enc 0x65 0 0) (cmp2 fun x y => decide (x = y)) s) := rfl

@[simp] theorem exec_opLclt (e : Fin 16) (s : State) :
    exec (.opLclt e) s = .next (Lintis.run e (enc 0x66 0 0) (cmp2 fun x y => decide (i64 x < i64 y)) s) := rfl

@[simp] theorem exec_opLcle (e : Fin 16) (s : State) :
    exec (.opLcle e) s = .next (Lintis.run e (enc 0x67 0 0) (cmp2 fun x y => decide (i64 x ≤ i64 y)) s) := rfl

@[simp] theorem exec_opFceq (e : Fin 16) (s : State) :
    exec (.opFceq e) s = .next (Lintis.run e (enc 0x68 0 0) (cmp f32.eq) s) := rfl

@[simp] theorem exec_opFclt (e : Fin 16) (s : State) :
    exec (.opFclt e) s = .next (Lintis.run e (enc 0x69 0 0) (cmp f32.lt) s) := rfl

@[simp] theorem exec_opFcle (e : Fin 16) (s : State) :
    exec (.opFcle e) s = .next (Lintis.run e (enc 0x6A 0 0) (cmp f32.le) s) := rfl

@[simp] theorem exec_opDceq (e : Fin 16) (s : State) :
    exec (.opDceq e) s = .next (Lintis.run e (enc 0x6B 0 0) (cmp2 f64.eq) s) := rfl

@[simp] theorem exec_opDclt (e : Fin 16) (s : State) :
    exec (.opDclt e) s = .next (Lintis.run e (enc 0x6C 0 0) (cmp2 f64.lt) s) := rfl

@[simp] theorem exec_opDcle (e : Fin 16) (s : State) :
    exec (.opDcle e) s = .next (Lintis.run e (enc 0x6D 0 0) (cmp2 f64.le) s) := rfl

@[simp] theorem exec_opEqz (e : Fin 16) (s : State) :
    exec (.opEqz e) s = .next (Lintis.run e (enc 0x6E 0 0) (un fun x => Bits.b2n (decide (x = 0))) s) := rfl

@[simp] theorem exec_opLeqz (e : Fin 16) (s : State) :
    exec (.opLeqz e) s = .next (Lintis.run e (enc 0x6F 0 0) (narrow fun x => Bits.b2n (decide (x = 0))) s) := rfl

@[simp] theorem exec_opJmp (e : Fin 16) (j : BitVec 16) (s : State) :
    exec (.opJmp e j) s = .next (Lintis.run e (enc 0x70 2 j.toNat) (fun s t c => jump (branchTo c j.toNat) s t c) s) := rfl

@[simp] theorem exec_opJmpl (e : Fin 16) (k : BitVec 32) (s : State) :
    exec (.opJmpl e k) s = .next (Lintis.run e (enc 0x71 4 k.toNat) (jump k.toNat) s) := rfl

@[simp] theorem exec_opBz (e : Fin 16) (j : BitVec 16) (s : State) :
    exec (.opBz e j) s = .next (Lintis.run e (enc 0x72 2 j.toNat) (branch true j.toNat) s) := rfl

@[simp] theorem exec_opBnz (e : Fin 16) (j : BitVec 16) (s : State) :
    exec (.opBnz e j) s = .next (Lintis.run e (enc 0x73 2 j.toNat) (branch false j.toNat) s) := rfl

@[simp] theorem exec_opCall (e : Fin 16) (k : BitVec 32) (s : State) :
    exec (.opCall e k) s = .next (Lintis.run e (enc 0x74 4 k.toNat) (call k.toNat) s) := rfl

@[simp] theorem exec_opRet (e : Fin 16) (s : State) : exec (.opRet e) s = .next (Lintis.run e (enc 0x75 0 0) ret s) := rfl

@[simp] theorem exec_opCallx (e : Fin 16) (s : State) :
    exec (.opCallx e) s = .next (Lintis.run e (enc 0x76 0 0) callX s) := rfl

@[simp] theorem exec_opJtab (e : Fin 16) (w : BitVec 32) (s : State) :
    exec (.opJtab e w) s = .next (Lintis.run e (enc 0x77 4 w.toNat) (jumpTable w.toNat) s) := rfl

@[simp] theorem exec_opI2l (e : Fin 16) (s : State) :
    exec (.opI2l e) s = .next (Lintis.run e (enc 0x80 0 0) (widen fun x => w64 (i32 x)) s) := rfl

@[simp] theorem exec_opU2l (e : Fin 16) (s : State) :
    exec (.opU2l e) s = .next (Lintis.run e (enc 0x81 0 0) (widen fun x => x) s) := rfl

@[simp] theorem exec_opL2i (e : Fin 16) (s : State) :
    exec (.opL2i e) s = .next (Lintis.run e (enc 0x82 0 0) (narrow fun x => x) s) := rfl

@[simp] theorem exec_opI2f (e : Fin 16) (s : State) :
    exec (.opI2f e) s = .next (Lintis.run e (enc 0x83 0 0) (un fun x => f32.ofInt (i32 x)) s) := rfl

@[simp] theorem exec_opU2f (e : Fin 16) (s : State) :
    exec (.opU2f e) s = .next (Lintis.run e (enc 0x84 0 0) (un fun x => f32.ofInt x) s) := rfl

@[simp] theorem exec_opL2f (e : Fin 16) (s : State) :
    exec (.opL2f e) s = .next (Lintis.run e (enc 0x85 0 0) (narrow fun x => f32.ofInt (i64 x)) s) := rfl

@[simp] theorem exec_opI2d (e : Fin 16) (s : State) :
    exec (.opI2d e) s = .next (Lintis.run e (enc 0x86 0 0) (widen fun x => f64.ofInt (i32 x)) s) := rfl

@[simp] theorem exec_opU2d (e : Fin 16) (s : State) :
    exec (.opU2d e) s = .next (Lintis.run e (enc 0x87 0 0) (widen fun x => f64.ofInt x) s) := rfl

@[simp] theorem exec_opL2d (e : Fin 16) (s : State) :
    exec (.opL2d e) s = .next (Lintis.run e (enc 0x88 0 0) (un2 fun x => f64.ofInt (i64 x)) s) := rfl

@[simp] theorem exec_opF2i (e : Fin 16) (s : State) :
    exec (.opF2i e) s = .next (Lintis.run e (enc 0x89 0 0) (un fun x => w32 (toInt f32 (-(2 ^ 31)) (2 ^ 31 - 1) x)) s) := rfl

@[simp] theorem exec_opF2l (e : Fin 16) (s : State) :
    exec (.opF2l e) s = .next (Lintis.run e (enc 0x8A 0 0) (widen fun x => w64 (toInt f32 (-(2 ^ 63)) (2 ^ 63 - 1) x)) s) :=
      rfl

@[simp] theorem exec_opD2i (e : Fin 16) (s : State) :
    exec (.opD2i e) s = .next (Lintis.run e (enc 0x8B 0 0) (narrow fun x => w32 (toInt f64 (-(2 ^ 31)) (2 ^ 31 - 1) x)) s) :=
      rfl

@[simp] theorem exec_opD2u (e : Fin 16) (s : State) :
    exec (.opD2u e) s = .next (Lintis.run e (enc 0x8C 0 0) (narrow fun x => w32 (toInt f64 0 (2 ^ 32 - 1) x)) s) := rfl

@[simp] theorem exec_opD2l (e : Fin 16) (s : State) :
    exec (.opD2l e) s = .next (Lintis.run e (enc 0x8D 0 0) (un2 fun x => w64 (toInt f64 (-(2 ^ 63)) (2 ^ 63 - 1) x)) s) := rfl

@[simp] theorem exec_opF2d (e : Fin 16) (s : State) :
    exec (.opF2d e) s = .next (Lintis.run e (enc 0x8E 0 0) (widen fun x => Fmt.conv f32 f64 x) s) := rfl

@[simp] theorem exec_opD2f (e : Fin 16) (s : State) :
    exec (.opD2f e) s = .next (Lintis.run e (enc 0x8F 0 0) (narrow fun x => Fmt.conv f64 f32 x) s) := rfl

@[simp] theorem exec_opSel (e : Fin 16) (s : State) :
    exec (.opSel e) s = .next (Lintis.run e (enc 0x90 0 0) (pureOp 3 fun l => [if l.getD 0 0 ≠ 0 then l.getD 2 0 else l.getD
      1 0]) s) := rfl

@[simp] theorem exec_opLimit (e : Fin 16) (s : State) :
    exec (.opLimit e) s = .next (Lintis.run e (enc 0x91 0 0) (pureOp 3 fun l => [w32 (min (max (i32 (l.getD 2 0)) (i32
      (l.getD 1 0))) (i32 (l.getD 0 0)))]) s) := rfl

@[simp] theorem exec_opBound (e : Fin 16) (s : State) :
    exec (.opBound e) s = .next (Lintis.run e (enc 0x92 0 0) (stackOp 3 fun l => if i32 (l.getD 1 0) ≤ i32 (l.getD 2 0) ∧ i32
      (l.getD 2 0) ≤ i32 (l.getD 0 0) then .ok [l.getD 2 0] else .error 0x07) s) := rfl

@[simp] theorem exec_opMove (e : Fin 16) (s : State) : exec (.opMove e) s = .next (Lintis.run e (enc 0x93 0 0) move s) := rfl

@[simp] theorem exec_opFill (e : Fin 16) (s : State) : exec (.opFill e) s = .next (Lintis.run e (enc 0x94 0 0) fill s) := rfl

@[simp] theorem exec_opLdbit (e : Fin 16) (a : BitVec 32) (b : BitVec 8) (s : State) :
    exec (.opLdbit e a b) s = .next (Lintis.run e (enc 0x95 5 (a.toNat + b.toNat * 2 ^ 32)) (load 1 (fun v => [(v >>>
      b.toNat) % 2]) a.toNat) s) := rfl

@[simp] theorem exec_opStbit (e : Fin 16) (a : BitVec 32) (b : BitVec 8) (s : State) :
    exec (.opStbit e a b) s = .next (Lintis.run e (enc 0x96 5 (a.toNat + b.toNat * 2 ^ 32)) (setBitAt a.toNat b.toNat) s) :=
      rfl

@[simp] theorem exec_netSystem (c : Cmd) (s : State) : exec (.netSystem c) s = .next (Cmds.netSystem c s) := rfl

@[simp] theorem exec_netNodes (c : Cmd) (s : State) : exec (.netNodes c) s = .next (Cmds.netNodes c s) := rfl

@[simp] theorem exec_netSlots (c : Cmd) (s : State) : exec (.netSlots c) s = .next (Cmds.netSlots c s) := rfl

@[simp] theorem exec_netPubs (c : Cmd) (s : State) : exec (.netPubs c) s = .next (Cmds.netPubs c s) := rfl

@[simp] theorem exec_netLocal (c : Cmd) (s : State) : exec (.netLocal c) s = .next (Cmds.netLocal c s) := rfl

@[simp] theorem exec_netSend (c : Cmd) (load : Option (List (BitVec 8))) (s : State) :
    exec (.netSend c load) s = .next (Cmds.netSend c load s) := rfl

@[simp] theorem exec_netPortStatus (c : Cmd) (s : State) : exec (.netPortStatus c) s = .next (Cmds.netPortStatus c s) := rfl

@[simp] theorem exec_netNodeMap (c : Cmd) (s : State) : exec (.netNodeMap c) s = .next (Cmds.netNodeMap c s) := rfl

@[simp] theorem exec_networkCycle (s : State) : exec (.networkCycle) s = .next (Net.networkCycle s) := rfl

@[simp] theorem exec_staticSlotSend (slot : Fin 1024) (s : State) :
    exec (.staticSlotSend slot) s = .next (Net.staticSlotSend slot.val s) := rfl

@[simp] theorem exec_dynamicFrameSend (mini : Fin 4096) (chB : Bool) (s : State) :
    exec (.dynamicFrameSend mini chB) s = .next (Net.dynamicFrameSend mini.val chB s) := rfl

@[simp] theorem exec_benandFrameRx (chB : Bool) (rx : RxFrame) (s : State) :
    exec (.benandFrameRx chB rx) s = .next (Net.frameRx chB rx s) := rfl

@[simp] theorem exec_pierStartDelimiter (pierB : Bool) (port : Fin 9) (hdr : List (BitVec 8)) (t : Instant) (s : State) :
    exec (.pierStartDelimiter pierB port hdr t) s = .next (Pier.startDelimiter pierB port.val hdr t s) := rfl

@[simp] theorem exec_slotEndCut (pierB : Bool) (port : Fin 9) (t : Instant) (s : State) :
    exec (.slotEndCut pierB port t) s = .next (Pier.slotEndCut pierB port.val t s) := rfl

@[simp] theorem exec_probeReq (pierB : Bool) (port : Fin 8) (t : Instant) (s : State) :
    exec (.probeReq pierB port t) s = .next (Pier.probeReq pierB port.val t s) := rfl

@[simp] theorem exec_probeReqRx (pierB : Bool) (port : Fin 8) (source : BitVec 16) (t : Instant) (s : State) :
    exec (.probeReqRx pierB port source t) s = .next (Pier.probeReqRx pierB port.val source.toNat t s) := rfl

@[simp] theorem exec_probeRsp (pierB : Bool) (port : Fin 8) (source : BitVec 16) (turn : BitVec 32) (t : Instant) (s : State)
      :
    exec (.probeRsp pierB port source turn t) s = .next (Pier.probeRsp pierB port.val source.toNat turn.toNat t s) := rfl

@[simp] theorem exec_netPortDown (pierB : Bool) (port : Fin 8) (cause : PortDown) (s : State) :
    exec (.netPortDown pierB port cause) s = .next (Pier.portDown pierB port.val cause s) := rfl

@[simp] theorem exec_coldstartOffer (s : State) : exec (.coldstartOffer) s = .next (Net.coldstartOffer s) := rfl

@[simp] theorem exec_netColdstartFail (s : State) : exec (.netColdstartFail) s = .next (Net.coldstartFail s) := rfl

@[simp] theorem exec_coldstartLockRelease (pierB : Bool) (t : Instant) (s : State) :
    exec (.coldstartLockRelease pierB t) s = .next (Pier.lockRelease pierB t s) := rfl

@[simp] theorem exec_pairSwap (c : Cmd) (s : State) : exec (.pairSwap c) s = .next (Cmds.pairSwap c s) := rfl

@[simp] theorem exec_dieRetry (c : Cmd) (s : State) : exec (.dieRetry c) s = .next (Cmds.dieRetry c s) := rfl

@[simp] theorem exec_diagInject (die : Die) (value : BitVec 32) (s : State) :
    exec (.diagInject die value) s = .next (Setup.injectAt (Pair.dieOf die) value.toNat s) := rfl

@[simp] theorem exec_valveCfg (c : Cmd) (s : State) : exec (.valveCfg c) s = .next (Cmds.valveCfg c s) := rfl

@[simp] theorem exec_pwmCfg (c : Cmd) (s : State) : exec (.pwmCfg c) s = .next (Cmds.pwmCfg c s) := rfl

@[simp] theorem exec_safetyUnlock (c : Cmd) (s : State) : exec (.safetyUnlock c) s = .next (Cmds.safetyUnlock c s) := rfl

@[simp] theorem exec_unlockLockoutEnd (s : State) : exec (.unlockLockoutEnd) s = .next (Safe.unlockLockoutEnd s) := rfl

@[simp] theorem exec_safetyCommit (c : Cmd) (s : State) : exec (.safetyCommit c) s = .next (Cmds.safetyCommit c s) := rfl

@[simp] theorem exec_safetyCancel (c : Cmd) (s : State) : exec (.safetyCancel c) s = .next (Cmds.safetyCancel c s) := rfl

@[simp] theorem exec_safetyPassword (c : Cmd) (s : State) :
    exec (.safetyPassword c) s = .next (Cmds.safetyPassword c s) := rfl

@[simp] theorem exec_safetySessionTimeout (s : State) : exec (.safetySessionTimeout) s = .next (Safe.sessionTimeout s) := rfl

@[simp] theorem exec_safetyAck (c : Cmd) (s : State) : exec (.safetyAck c) s = .next (Cmds.safetyAck c s) := rfl

@[simp] theorem exec_safeSelect (c : Cmd) (s : State) : exec (.safeSelect c) s = .next (Cmds.safeSelect c s) := rfl

@[simp] theorem exec_safetyGlobal (c : Cmd) (s : State) : exec (.safetyGlobal c) s = .next (Cmds.safetyGlobal c s) := rfl

@[simp] theorem exec_safetyInput (c : Cmd) (s : State) : exec (.safetyInput c) s = .next (Cmds.safetyInput c s) := rfl

@[simp] theorem exec_safetyOutput (c : Cmd) (s : State) : exec (.safetyOutput c) s = .next (Cmds.safetyOutput c s) := rfl

@[simp] theorem exec_safetyAxis (c : Cmd) (s : State) : exec (.safetyAxis c) s = .next (Cmds.safetyAxis c s) := rfl

@[simp] theorem exec_safetySlp (c : Cmd) (s : State) : exec (.safetySlp c) s = .next (Cmds.safetySlp c s) := rfl

@[simp] theorem exec_safetyAxisStatus (c : Cmd) (s : State) :
    exec (.safetyAxisStatus c) s = .next (Cmds.safetyAxisStatus c s) := rfl

@[simp] theorem exec_safetyLogRead (c : Cmd) (s : State) : exec (.safetyLogRead c) s = .next (Cmds.safetyLogRead c s) := rfl

@[simp] theorem exec_safetyInputAccept (k : Fin 16) (ball2 : Bool) (level : Bool) (held : Nat) (t : Instant) (s : State) :
    exec (.safetyInputAccept k ball2 level held t) s = .next (Safe.inputAccept k.val ball2 level held t s) := rfl

@[simp] theorem exec_safetyDiscrepancy (k : Fin 16) (t : Instant) (s : State) :
    exec (.safetyDiscrepancy k t) s = .next (Safe.discrepancy k.val t s) := rfl

@[simp] theorem exec_safetyVerdictExchange (xcomp : BitVec 32) (s : State) :
    exec (.safetyVerdictExchange xcomp) s = .next (Safe.verdictExchange xcomp.toNat s) := rfl

@[simp] theorem exec_ss1Standstill (k : Fin 8) (s : State) :
    exec (.ss1Standstill k) s = .next (Safe.ss1Standstill k.val s) := rfl

@[simp] theorem exec_ss1Timeout (k : Fin 8) (s : State) : exec (.ss1Timeout k) s = .next (Safe.ss1Timeout k.val s) := rfl

@[simp] theorem exec_safetyEdmFault (i : Fin 16) (t : Instant) (s : State) :
    exec (.safetyEdmFault i t) s = .next (Safe.edmFault i.val t s) := rfl

@[simp] theorem exec_safetyChannelRestored (ch : Die) (s : State) :
    exec (.safetyChannelRestored ch) s = .next (Safe.channelRestored (Pair.dieOf ch) s) := rfl

@[simp] theorem exec_outputTestStart (o : TestedOut) (t : Instant) (s : State) :
    exec (.outputTestStart o t) s = .next (Out.testStart o t s) := rfl

@[simp] theorem exec_outputTestEnd (o : TestedOut) (pulseRead afterRead : Bool) (t : Instant) (s : State) :
    exec (.outputTestEnd o pulseRead afterRead t) s = .next (Out.testEnd o pulseRead afterRead t s) := rfl

@[simp] theorem exec_outputReadback (o : TestedOut) (t : Instant) (s : State) :
    exec (.outputReadback o t) s = .next (Out.readback o t s) := rfl

@[simp] theorem exec_outputUntested (o : TestedOut) (t : Instant) (s : State) :
    exec (.outputUntested o t) s = .next (Out.untested o t s) := rfl

@[simp] theorem exec_valveFaultClear (hi : Bool) (value : BitVec 32) (s : State) :
    exec (.valveFaultClear hi value) s = .next (Setup.direct (if hi then 0x4314 else 0x4310) value.toNat s) := rfl

@[simp] theorem exec_pwmPeriodStart (n : Fin 32) (t : Instant) (s : State) :
    exec (.pwmPeriodStart n t) s = .next (Out.periodStart n.val t s) := rfl

@[simp] theorem exec_pwmHighEnd (n : Fin 32) (t : Instant) (s : State) :
    exec (.pwmHighEnd n t) s = .next (Out.highEnd n.val t s) := rfl

@[simp] theorem exec_trustSvnCommit (c : Cmd) (s : State) :
    exec (.trustSvnCommit c) s = .next (Cmds.trustSvnCommit c s) := rfl

@[simp] theorem exec_trustProvision (c : Cmd) (load : Option (List (BitVec 8))) (s : State) :
    exec (.trustProvision c load) s = .next (Cmds.trustProvision c load s) := rfl

@[simp] theorem exec_attest (c : Cmd) (s : State) : exec (.attest c) s = .next (Cmds.attest c s) := rfl

@[simp] theorem exec_identityCert (c : Cmd) (s : State) : exec (.identityCert c) s = .next (Cmds.identityCert c s) := rfl

@[simp] theorem exec_debugChallenge (c : Cmd) (s : State) :
    exec (.debugChallenge c) s = .next (Cmds.debugChallenge c s) := rfl

@[simp] theorem exec_debugChallengeExpiry (t : Instant) (s : State) :
    exec (.debugChallengeExpiry t) s = .next (Trusted.challengeExpiry t s) := rfl

@[simp] theorem exec_debugUnlock (c : Cmd) (load : Option (List (BitVec 8))) (s : State) :
    exec (.debugUnlock c load) s = .next (Cmds.debugUnlock c load s) := rfl

@[simp] theorem exec_debugLock (c : Cmd) (s : State) : exec (.debugLock c) s = .next (Cmds.debugLock c s) := rfl

@[simp] theorem exec_debugScopeExpiry (t : Instant) (s : State) :
    exec (.debugScopeExpiry t) s = .next (Debug.scopeExpiry t s) := rfl

@[simp] theorem exec_abort (c : Cmd) (s : State) : exec (.abort c) s = .next (Cmds.abort c s) := rfl

@[simp] theorem exec_nop (c : Cmd) (s : State) : exec (.nop c) s = .next (Cmds.nop c s) := rfl

@[simp] theorem exec_dmaToDeck (c : Cmd) (s : State) : exec (.dmaToDeck c) s = .next (Cmds.dmaToDeck c s) := rfl

@[simp] theorem exec_dmaFromDeck (c : Cmd) (s : State) : exec (.dmaFromDeck c) s = .next (Cmds.dmaFromDeck c s) := rfl

@[simp] theorem exec_hdmaDescriptorFetched (h : Fin 16) (desc : BitVec 128) (s : State) :
    exec (.hdmaDescriptorFetched h desc) s = .next (Dma.descriptorFetched h.val desc s) := rfl

@[simp] theorem exec_hdmaDataDone (h : Fin 16) (data : List (BitVec 8)) (s : State) :
    exec (.hdmaDataDone h data) s = .next (Dma.dataDone h.val data s) := rfl

@[simp] theorem exec_hdmaBusError (addr : BitVec 64) (outstanding : BitVec 16) (cause : BusCause) (s : State) :
    exec (.hdmaBusError addr outstanding cause) s = .next (Dma.busError addr.toNat outstanding.toNat cause s) := rfl

@[simp] theorem exec_hdmaPause (h : Fin 16) (s : State) : exec (.hdmaPause h) s = .next (Dma.pause h.val s) := rfl

@[simp] theorem exec_hdmaPauseClear (h : Fin 16) (s : State) :
    exec (.hdmaPauseClear h) s = .next (Dma.pauseClear h.val s) := rfl

@[simp] theorem exec_hdmaResume (h : Fin 16) (s : State) : exec (.hdmaResume h) s = .next (Dma.resume h.val s) := rfl

@[simp] theorem exec_fdmaPause (value : BitVec 32) (s : State) :
    exec (.fdmaPause value) s = .next (Setup.direct 0x4340 value.toNat s) := rfl

@[simp] theorem exec_fdmaResume (value : BitVec 32) (s : State) :
    exec (.fdmaResume value) s = .next (Setup.direct 0x4348 value.toNat s) := rfl

@[simp] theorem exec_counterSelect (c : Cmd) (s : State) : exec (.counterSelect c) s = .next (Cmds.counterSelect c s) := rfl

@[simp] theorem exec_counterDumpCfg (c : Cmd) (s : State) :
    exec (.counterDumpCfg c) s = .next (Cmds.counterDumpCfg c s) := rfl

@[simp] theorem exec_preciseCfg (c : Cmd) (s : State) : exec (.preciseCfg c) s = .next (Cmds.preciseCfg c s) := rfl

@[simp] theorem exec_dbPoll (value : BitVec 32) (s : State) : exec (.dbPoll value) s = .next (dbPoll value.toNat s) := rfl

@[simp] theorem exec_doorbellPoll (page : DoorbellPage) (us : Nat) (s : State) :
    exec (.doorbellPoll page us) s = .next (Doorbell.poll page us s) := rfl

@[simp] theorem exec_doorbellBusError (_cause : BusCause) (s : State) :
    exec (.doorbellBusError _cause) s = .next (doorbellBusError s) := rfl

@[simp] theorem exec_submissionReadFail (ring : Fin 32) (_cause : BusCause) (s : State) :
    exec (.submissionReadFail ring _cause) s = .next (submissionReadFail ring.val s) := rfl

@[simp] theorem exec_ringErrClear (value : BitVec 32) (s : State) :
    exec (.ringErrClear value) s = .next (ringErrClear value.toNat s) := rfl

@[simp] theorem exec_sessionCtrlClose (value : BitVec 32) (s : State) :
    exec (.sessionCtrlClose value) s = .next (sessionCtrlClose value.toNat s) := rfl

@[simp] theorem exec_hostSessionClosed (s : State) : exec (.hostSessionClosed) s = .next (hostSessionClosed s) := rfl

@[simp] theorem exec_ringIrqDelay (ring : Fin 32) (us : Nat) (s : State) :
    exec (.ringIrqDelay ring us) s = .next (ringIrqDelay ring.val us s) := rfl

@[simp] theorem exec_readyStatusClr (value : BitVec 32) (s : State) :
    exec (.readyStatusClr value) s = .next (readyStatusClr value.toNat s) := rfl

@[simp] theorem exec_violInfoClr (value : BitVec 32) (s : State) :
    exec (.violInfoClr value) s = .next (violInfoClr value.toNat s) := rfl

@[simp] theorem exec_lowHalfRead (offset : BitVec 16) (wide : Bool) (s : State) :
    exec (.lowHalfRead offset wide) s = .next (Setup.lowHalfRead offset.toNat wide s) := rfl

@[simp] theorem exec_pairWindowRead (offset : BitVec 16) (s : State) :
    exec (.pairWindowRead offset) s = .next (Setup.pairWindowRead offset.toNat s) := rfl

@[simp] theorem exec_setupWrite (offset : BitVec 16) (value : BitVec 64) (wide : Bool) (s : State) :
    exec (.setupWrite offset value wide) s = .next (Setup.setupWrite offset.toNat value.toNat wide s) := rfl

@[simp] theorem exec_unsupportedAccess (offset : BitVec 16) (write : Bool) (be : BitVec 4) (s : State) :
    exec (.unsupportedAccess offset write be) s = .next (Setup.unsupportedAccess offset.toNat write be.toNat s) := rfl

@[simp] theorem exec_accumulatorStrobe (t : Instant) (s : State) :
    exec (.accumulatorStrobe t) s = .next (AxisIo.accumulatorStrobe t s) := rfl

@[simp] theorem exec_hbdFault (region : Fin 6) (extent : Extent) (unit : Fin 128) (s : State) :
    exec (.hbdFault region extent unit) s = .next (Setup.hbdFault region.val extent unit.val s) := rfl

@[simp] theorem exec_pmbusNack (t : Instant) (s : State) : exec (.pmbusNack t) s = .next (pmbusNack t s) := rfl

@[simp] theorem exec_perstRelease (s : State) : exec (.perstRelease) s = .next (Boots.perstRelease s) := rfl

@[simp] theorem exec_tapInstruction (fieldTap : Bool) (_ir : Nat) (s : State) :
    exec (.tapInstruction fieldTap _ir) s = Debug.tapInstruction fieldTap s := rfl

end Sys2Proof.Laws
end

