-- ==== Sys2Proof/Laws/Tab.lean ====
section
/-!
SUPPORT. Laws of the tables: what a read gives after a write, and that every operation keeps the canonical form.
-/

namespace Sys2Proof.Machine

section
variable {α : Type} [Inhabited α]

@[simp] theorem Tab.get_nil (k : Nat) : Tab.get ([] : Tab α) k = default := rfl

omit [Inhabited α] in
theorem Tab.above_trans {j k : Nat} {t : Tab α} (h : j < k) (ht : Tab.above k t = true) : Tab.above j t = true := by
  cases t with
  | nil => rfl
  | cons q t => simp [Tab.above] at *; omega

/-- A number below every entry holds the reset content. -/
theorem Tab.get_of_above {k i : Nat} (hi : i ≤ k) {t : Tab α} (ht : Tab.above k t = true) : Tab.get t i = default := by
  cases t with
  | nil => rfl
  | cons q t =>
    simp [Tab.above] at ht
    simp only [Tab.get]
    split
    · omega
    · simp; omega

@[simp] theorem Tab.get_put_self (t : Tab α) (k : Nat) (v : α) : Tab.get (Tab.put t k v) k = v := by
  induction t with
  | nil => simp [Tab.put, Tab.get]
  | cons q t ih =>
    simp only [Tab.put]
    split
    · simp only [Tab.get]; split
      · omega
      · split
        · omega
        · exact ih
    · split <;> simp [Tab.get]

theorem Tab.get_put_ne {k i : Nat} (h : i ≠ k) (t : Tab α) (v : α) : Tab.get (Tab.put t k v) i = Tab.get t i := by
  have hk : ¬ k = i := fun e => h e.symm
  induction t with
  | nil => simp [Tab.put, Tab.get, hk]
  | cons q t ih =>
    simp only [Tab.put]
    split
    · simp only [Tab.get, ih]
    · split
      · next e => simp [Tab.get, hk, e]
      · simp only [Tab.get, hk, if_false]
        split
        · split
          · omega
          · split
            · rfl
            · omega
        · rfl

omit [Inhabited α] in
theorem Tab.above_put {j k : Nat} (h : j < k) {t : Tab α} (v : α) (ht : Tab.above j t = true) :
    Tab.above j (Tab.put t k v) = true := by
  cases t with
  | nil => simp [Tab.put, Tab.above, h]
  | cons q t =>
    simp only [Tab.put]
    split
    · exact ht
    · split <;> simp [Tab.above, h]

end

section
variable {α : Type} [Inhabited α] [DecidableEq α]

theorem Tab.wf_cons {j : Nat} {a : α} {t : Tab α} :
    Tab.wf ((j, a) :: t) = true ↔ a ≠ default ∧ Tab.above j t = true ∧ Tab.wf t = true := by
  simp [Tab.wf, and_assoc]

theorem Tab.above_erase {j : Nat} (k : Nat) {t : Tab α} (hw : Tab.wf t = true) (ht : Tab.above j t = true) :
    Tab.above j (Tab.erase t k) = true := by
  cases t with
  | nil => rfl
  | cons q t =>
    obtain ⟨i, a⟩ := q
    have hw := Tab.wf_cons.1 hw
    have hj : j < i := by simpa [Tab.above] using ht
    simp only [Tab.erase]
    split
    · exact ht
    · split
      · exact Tab.above_trans hj hw.2.1
      · exact ht

theorem Tab.wf_put {t : Tab α} (k : Nat) {v : α} (hv : v ≠ default) (hw : Tab.wf t = true) :
    Tab.wf (Tab.put t k v) = true := by
  induction t with
  | nil => simp [Tab.put, Tab.wf, Tab.above, hv]
  | cons q t ih =>
    obtain ⟨i, a⟩ := q
    have h := Tab.wf_cons.1 hw
    simp only [Tab.put]
    split
    · next hi => exact Tab.wf_cons.2 ⟨h.1, Tab.above_put hi v h.2.1, ih h.2.2⟩
    · split
      · next e => subst e; exact Tab.wf_cons.2 ⟨hv, h.2.1, h.2.2⟩
      · next h1 h2 => exact Tab.wf_cons.2 ⟨hv, by simp [Tab.above]; omega, hw⟩

theorem Tab.wf_erase {t : Tab α} (k : Nat) (hw : Tab.wf t = true) : Tab.wf (Tab.erase t k) = true := by
  induction t with
  | nil => rfl
  | cons q t ih =>
    obtain ⟨i, a⟩ := q
    have h := Tab.wf_cons.1 hw
    simp only [Tab.erase]
    split
    · exact Tab.wf_cons.2 ⟨h.1, Tab.above_erase k h.2.2 h.2.1, ih h.2.2⟩
    · split
      · exact h.2.2
      · exact hw

/-- A write keeps the canonical form. -/
theorem Tab.wf_set {t : Tab α} (k : Nat) (v : α) (hw : Tab.wf t = true) : Tab.wf (Tab.set t k v) = true := by
  unfold Tab.set
  split
  · exact Tab.wf_erase k hw
  · next hv => exact Tab.wf_put k hv hw

theorem Tab.wf_modify {t : Tab α} (k : Nat) (f : α → α) (hw : Tab.wf t = true) : Tab.wf (Tab.modify t k f) = true :=
  Tab.wf_set k _ hw

theorem Tab.wf_modifyAll (ks : List Nat) (f : Nat → α → α) {t : Tab α} (hw : Tab.wf t = true) :
    Tab.wf (Tab.modifyAll t ks f) = true := by
  unfold Tab.modifyAll
  induction ks generalizing t with
  | nil => exact hw
  | cons k ks ih => exact ih (Tab.wf_modify k (f k) hw)

theorem Tab.above_filterMap {j : Nat} (f : Nat × α → Option (Nat × α)) (hf : ∀ q r, f q = some r → r.1 = q.1) {t : Tab α}
    (hw : Tab.wf t = true) (ht : Tab.above j t = true) : Tab.above j (t.filterMap f) = true := by
  induction t generalizing j with
  | nil => rfl
  | cons q t ih =>
    obtain ⟨i, a⟩ := q
    have h := Tab.wf_cons.1 hw
    have hj : j < i := by simpa [Tab.above] using ht
    simp only [List.filterMap_cons]
    split
    · exact Tab.above_trans hj (ih h.2.2 h.2.1)
    · next r hr => have := hf _ _ hr; simp [Tab.above, this, hj]

theorem Tab.wf_mapVals (f : Nat → α → α) {t : Tab α} (hw : Tab.wf t = true) : Tab.wf (Tab.mapVals t f) = true := by
  unfold Tab.mapVals
  induction t with
  | nil => rfl
  | cons q t ih =>
    obtain ⟨i, a⟩ := q
    have h := Tab.wf_cons.1 hw
    simp only [List.filterMap_cons]
    split
    · exact ih h.2.2
    · next r hr =>
      split at hr
      · cases hr
      · next hne =>
        cases hr
        refine Tab.wf_cons.2 ⟨hne, Tab.above_filterMap _ ?_ h.2.2 h.2.1, ih h.2.2⟩
        intro p r hp
        split at hp
        · cases hp
        · cases hp; rfl

theorem Tab.wf_filter (p : Nat × α → Bool) {t : Tab α} (hw : Tab.wf t = true) : Tab.wf (t.filter p) = true := by
  induction t with
  | nil => rfl
  | cons q t ih =>
    obtain ⟨i, a⟩ := q
    have h := Tab.wf_cons.1 hw
    simp only [List.filter_cons]
    split
    · refine Tab.wf_cons.2 ⟨h.1, ?_, ih h.2.2⟩
      have hf : Tab.above i (t.filterMap (Option.guard p)) = true :=
        Tab.above_filterMap _ (by intro q r hr; rw [(Option.guard_eq_some_iff.1 hr).1]) h.2.2 h.2.1
      rwa [List.filterMap_eq_filter] at hf
    · exact ih h.2.2

theorem Tab.get_erase_self {t : Tab α} (k : Nat) (hw : Tab.wf t = true) : Tab.get (Tab.erase t k) k = default := by
  induction t with
  | nil => rfl
  | cons q t ih =>
    obtain ⟨i, a⟩ := q
    have h := Tab.wf_cons.1 hw
    simp only [Tab.erase]
    split
    · simp only [Tab.get]; split
      · omega
      · split
        · rfl
        · exact ih h.2.2
    · split
      · next e => exact Tab.get_of_above (by omega) h.2.1
      · simp only [Tab.get]; split
        · omega
        · split
          · rfl
          · omega

theorem Tab.get_erase_ne {k i : Nat} (hi : i ≠ k) {t : Tab α} (hw : Tab.wf t = true) :
    Tab.get (Tab.erase t k) i = Tab.get t i := by
  induction t with
  | nil => rfl
  | cons q t ih =>
    obtain ⟨j, a⟩ := q
    have h := Tab.wf_cons.1 hw
    simp only [Tab.erase]
    split
    · simp only [Tab.get, ih h.2.2]
    · split
      · next e =>
        simp only [Tab.get]
        split
        · omega
        · split
          · exact Tab.get_of_above (by omega) h.2.1
          · rfl
      · rfl

/-- A read of what was written gives it. -/
theorem Tab.get_set_self {t : Tab α} (k : Nat) (v : α) (hw : Tab.wf t = true) : Tab.get (Tab.set t k v) k = v := by
  unfold Tab.set
  split
  · next h => rw [h]; exact Tab.get_erase_self k hw
  · exact Tab.get_put_self t k v

/-- A write leaves every other number alone. -/
theorem Tab.get_set_ne {k i : Nat} (hi : i ≠ k) {t : Tab α} (v : α) (hw : Tab.wf t = true) :
    Tab.get (Tab.set t k v) i = Tab.get t i := by
  unfold Tab.set
  split
  · exact Tab.get_erase_ne hi hw
  · exact Tab.get_put_ne hi t v

theorem Tab.get_set {t : Tab α} (k i : Nat) (v : α) (hw : Tab.wf t = true) :
    Tab.get (Tab.set t k v) i = if i = k then v else Tab.get t i := by
  split
  · next h => rw [h]; exact Tab.get_set_self k v hw
  · next h => exact Tab.get_set_ne h v hw

/-- A content other than the reset one reads back from any table, canonical or not. -/
theorem Tab.get_set_of_ne_default (t : Tab α) (k : Nat) {v : α} (hv : v ≠ default) : Tab.get (Tab.set t k v) k = v := by
  simp [Tab.set, hv]

/-- Tables in canonical form that read alike are equal. -/
theorem Tab.ext {t u : Tab α} (ht : Tab.wf t = true) (hu : Tab.wf u = true) (h : ∀ k, Tab.get t k = Tab.get u k) : t = u := by
  induction t generalizing u with
  | nil =>
    cases u with
    | nil => rfl
    | cons q u =>
      obtain ⟨j, b⟩ := q
      have hb := (Tab.wf_cons.1 hu).1
      have := h j
      simp [Tab.get] at this
      exact absurd this.symm hb
  | cons p t ih =>
    obtain ⟨i, a⟩ := p
    have h1 := Tab.wf_cons.1 ht
    cases u with
    | nil =>
      have := h i
      simp [Tab.get] at this
      exact absurd this h1.1
    | cons q u =>
      obtain ⟨j, b⟩ := q
      have h2 := Tab.wf_cons.1 hu
      have hi := h i
      have hj := h j
      simp only [Tab.get, if_true] at hi hj
      have e : i = j := by
        rcases Nat.lt_trichotomy i j with hl | he | hl
        · have hne : ¬ j = i := by omega
          simp only [hne, if_false, hl, if_true] at hi
          exact absurd hi h1.1
        · exact he
        · have hne : ¬ i = j := by omega
          simp only [hne, if_false, hl, if_true] at hj
          exact absurd hj.symm h2.1
      subst e
      simp only [if_true] at hi
      subst hi
      congr 1
      refine ih h1.2.2 h2.2.2 fun k => ?_
      have hk := h k
      simp only [Tab.get] at hk
      by_cases hki : k ≤ i
      · rw [Tab.get_of_above hki h1.2.1, Tab.get_of_above hki h2.2.1]
      · have n1 : ¬ i = k := by omega
        have n2 : ¬ k < i := by omega
        simpa [n1, n2] using hk

end

/-! Byte memories. -/

theorem Mem.wf_write (m : Mem) (a : Nat) (bs : Bytes) (hw : Tab.wf m = true) : Tab.wf (Mem.write m a bs) = true := by
  induction bs generalizing m a with
  | nil => exact hw
  | cons b bs ih => exact ih _ _ (Tab.wf_set a b hw)

theorem Mem.wf_writeLe (m : Mem) (a n v : Nat) (hw : Tab.wf m = true) : Tab.wf (Mem.writeLe m a n v) = true := by
  induction n generalizing m a v with
  | zero => exact hw
  | succ n ih => exact ih _ _ _ (Tab.wf_set a _ hw)

theorem Mem.wf_clear (m : Mem) (a n : Nat) (hw : Tab.wf m = true) : Tab.wf (Mem.clear m a n) = true := Tab.wf_filter _ hw

/-- A store leaves every byte outside it alone. -/
theorem Mem.get_write_out (m : Mem) (a : Nat) (bs : Bytes) {k : Nat} (hk : k < a ∨ a + bs.length ≤ k) (hw : Tab.wf m = true) :
    Tab.get (Mem.write m a bs) k = Tab.get m k := by
  induction bs generalizing m a with
  | nil => rfl
  | cons b bs ih =>
    have hl : (b :: bs).length = bs.length + 1 := rfl
    rw [Mem.write, ih _ _ (by omega) (Tab.wf_set a b hw)]
    exact Tab.get_set_ne (by omega) b hw

/-- A byte that was stored reads back. -/
theorem Mem.get_write_in (m : Mem) (a : Nat) (bs : Bytes) (i : Nat) (hi : i < bs.length) (hw : Tab.wf m = true) :
    Tab.get (Mem.write m a bs) (a + i) = bs[i] := by
  induction bs generalizing m a i with
  | nil => exact absurd hi (by simp)
  | cons b bs ih =>
    cases i with
    | zero =>
      rw [Mem.write, Mem.get_write_out _ _ _ (by omega) (Tab.wf_set a b hw)]
      simpa using Tab.get_set_self a b hw
    | succ i =>
      have := ih (Tab.set m a b) (a + 1) i (by simpa using hi) (Tab.wf_set a b hw)
      rw [Mem.write, show a + (i + 1) = a + 1 + i by omega, this]
      rfl

/-- What was stored reads back. -/
theorem Mem.read_write_self (m : Mem) (a : Nat) (bs : Bytes) (hw : Tab.wf m = true) :
    Mem.read (Mem.write m a bs) a bs.length = bs := by
  induction bs generalizing m a with
  | nil => rfl
  | cons b bs ih =>
    have h0 := Mem.get_write_in m a (b :: bs) 0 (by simp) hw
    have h1 := ih (Tab.set m a b) (a + 1) (Tab.wf_set a b hw)
    simp only [List.length_cons, Mem.read]
    rw [show Tab.get (Mem.write m a (b :: bs)) a = b by simpa using h0]
    exact congrArg _ h1

theorem Mem.get_writeLe_out (m : Mem) (a n v : Nat) {k : Nat} (hk : k < a ∨ a + n ≤ k) (hw : Tab.wf m = true) :
    Tab.get (Mem.writeLe m a n v) k = Tab.get m k := by
  induction n generalizing m a v with
  | zero => rfl
  | succ n ih =>
    rw [Mem.writeLe, ih _ _ _ (by omega) (Tab.wf_set a _ hw)]
    exact Tab.get_set_ne (by omega) _ hw

/-- A little-endian store reads back modulo its width. -/
theorem Mem.readLe_writeLe_self (m : Mem) (a n v : Nat) (hw : Tab.wf m = true) :
    Mem.readLe (Mem.writeLe m a n v) a n = v % 2 ^ (8 * n) := by
  induction n generalizing m a v with
  | zero => simp [Mem.readLe, Nat.mod_one]
  | succ n ih =>
    have h0 : Tab.get (Mem.writeLe (Tab.set m a (BitVec.ofNat 8 v)) (a + 1) n (v / 256)) a = BitVec.ofNat 8 v := by
      rw [Mem.get_writeLe_out _ _ _ _ (by omega) (Tab.wf_set a _ hw)]
      exact Tab.get_set_self a _ hw
    simp only [Mem.readLe, Mem.writeLe, h0, ih (Tab.set m a (BitVec.ofNat 8 v)) (a + 1) (v / 256) (Tab.wf_set a _ hw)]
    have hp : 2 ^ (8 * (n + 1)) = 256 * 2 ^ (8 * n) := by rw [show 8 * (n + 1) = 8 * n + 8 by omega, Nat.pow_add]; omega
    rw [hp, Nat.mod_mul, BitVec.toNat_ofNat]

end Sys2Proof.Machine
end

