-- ==== Sys2Proof/Laws/State.lean ====
section
/-!
SUPPORT. Laws of the named updates of State: for each update the parts of the state that it leaves alone, and what is
read back.
-/

namespace Sys2Proof.Machine

@[simp] theorem State.setAxis_pending (s : State) (a : Nat) (x : Axis) : (s.setAxis a x).pending = s.pending := rfl
@[simp] theorem State.setAxis_free (s : State) (a : Nat) (x : Axis) : (s.setAxis a x).free = s.free := rfl
@[simp] theorem State.setAxis_pwr (s : State) (a : Nat) (x : Axis) : (s.setAxis a x).pwr = s.pwr := rfl
@[simp] theorem State.setAxis_tm (s : State) (a : Nat) (x : Axis) : (s.setAxis a x).tm = s.tm := rfl
@[simp] theorem State.setAxis_md (s : State) (a : Nat) (x : Axis) : (s.setAxis a x).md = s.md := rfl
@[simp] theorem State.setAxis_boot (s : State) (a : Nat) (x : Axis) : (s.setAxis a x).boot = s.boot := rfl
@[simp] theorem State.setAxis_chk (s : State) (a : Nat) (x : Axis) : (s.setAxis a x).chk = s.chk := rfl
@[simp] theorem State.setAxis_pair (s : State) (a : Nat) (x : Axis) : (s.setAxis a x).pair = s.pair := rfl
@[simp] theorem State.setAxis_log (s : State) (a : Nat) (x : Axis) : (s.setAxis a x).log = s.log := rfl
@[simp] theorem State.setAxis_hbd (s : State) (a : Nat) (x : Axis) : (s.setAxis a x).hbd = s.hbd := rfl
@[simp] theorem State.setAxis_trust (s : State) (a : Nat) (x : Axis) : (s.setAxis a x).trust = s.trust := rfl
@[simp] theorem State.setAxis_nodeId (s : State) (a : Nat) (x : Axis) : (s.setAxis a x).nodeId = s.nodeId := rfl
@[simp] theorem State.setAxis_loop (s : State) (a : Nat) (x : Axis) : (s.setAxis a x).loop = s.loop := rfl
@[simp] theorem State.setAxis_acq (s : State) (a : Nat) (x : Axis) : (s.setAxis a x).acq = s.acq := rfl
@[simp] theorem State.setAxis_out (s : State) (a : Nat) (x : Axis) : (s.setAxis a x).out = s.out := rfl
@[simp] theorem State.setAxis_saf (s : State) (a : Nat) (x : Axis) : (s.setAxis a x).saf = s.saf := rfl
@[simp] theorem State.setAxis_prog (s : State) (a : Nat) (x : Axis) : (s.setAxis a x).prog = s.prog := rfl
@[simp] theorem State.setAxis_net (s : State) (a : Nat) (x : Axis) : (s.setAxis a x).net = s.net := rfl
@[simp] theorem State.setAxis_staged (s : State) (a : Nat) (x : Axis) : (s.setAxis a x).staged = s.staged := rfl
@[simp] theorem State.setAxis_deck (s : State) (a : Nat) (x : Axis) : (s.setAxis a x).deck = s.deck := rfl
@[simp] theorem State.setAxis_rep (s : State) (a : Nat) (x : Axis) : (s.setAxis a x).rep = s.rep := rfl
@[simp] theorem State.setChan_pending (s : State) (a : Nat) (x : Channel) : (s.setChan a x).pending = s.pending := rfl
@[simp] theorem State.setChan_free (s : State) (a : Nat) (x : Channel) : (s.setChan a x).free = s.free := rfl
@[simp] theorem State.setChan_pwr (s : State) (a : Nat) (x : Channel) : (s.setChan a x).pwr = s.pwr := rfl
@[simp] theorem State.setChan_tm (s : State) (a : Nat) (x : Channel) : (s.setChan a x).tm = s.tm := rfl
@[simp] theorem State.setChan_md (s : State) (a : Nat) (x : Channel) : (s.setChan a x).md = s.md := rfl
@[simp] theorem State.setChan_boot (s : State) (a : Nat) (x : Channel) : (s.setChan a x).boot = s.boot := rfl
@[simp] theorem State.setChan_chk (s : State) (a : Nat) (x : Channel) : (s.setChan a x).chk = s.chk := rfl
@[simp] theorem State.setChan_pair (s : State) (a : Nat) (x : Channel) : (s.setChan a x).pair = s.pair := rfl
@[simp] theorem State.setChan_log (s : State) (a : Nat) (x : Channel) : (s.setChan a x).log = s.log := rfl
@[simp] theorem State.setChan_hbd (s : State) (a : Nat) (x : Channel) : (s.setChan a x).hbd = s.hbd := rfl
@[simp] theorem State.setChan_trust (s : State) (a : Nat) (x : Channel) : (s.setChan a x).trust = s.trust := rfl
@[simp] theorem State.setChan_nodeId (s : State) (a : Nat) (x : Channel) : (s.setChan a x).nodeId = s.nodeId := rfl
@[simp] theorem State.setChan_loop (s : State) (a : Nat) (x : Channel) : (s.setChan a x).loop = s.loop := rfl
@[simp] theorem State.setChan_acq (s : State) (a : Nat) (x : Channel) : (s.setChan a x).acq = s.acq := rfl
@[simp] theorem State.setChan_out (s : State) (a : Nat) (x : Channel) : (s.setChan a x).out = s.out := rfl
@[simp] theorem State.setChan_saf (s : State) (a : Nat) (x : Channel) : (s.setChan a x).saf = s.saf := rfl
@[simp] theorem State.setChan_prog (s : State) (a : Nat) (x : Channel) : (s.setChan a x).prog = s.prog := rfl
@[simp] theorem State.setChan_net (s : State) (a : Nat) (x : Channel) : (s.setChan a x).net = s.net := rfl
@[simp] theorem State.setChan_staged (s : State) (a : Nat) (x : Channel) : (s.setChan a x).staged = s.staged := rfl
@[simp] theorem State.setChan_deck (s : State) (a : Nat) (x : Channel) : (s.setChan a x).deck = s.deck := rfl
@[simp] theorem State.setChan_rep (s : State) (a : Nat) (x : Channel) : (s.setChan a x).rep = s.rep := rfl
@[simp] theorem State.setSlot_pending (s : State) (u : Nat) (x : Slot) : (s.setSlot u x).pending = s.pending := rfl
@[simp] theorem State.setSlot_free (s : State) (u : Nat) (x : Slot) : (s.setSlot u x).free = s.free := rfl
@[simp] theorem State.setSlot_pwr (s : State) (u : Nat) (x : Slot) : (s.setSlot u x).pwr = s.pwr := rfl
@[simp] theorem State.setSlot_tm (s : State) (u : Nat) (x : Slot) : (s.setSlot u x).tm = s.tm := rfl
@[simp] theorem State.setSlot_md (s : State) (u : Nat) (x : Slot) : (s.setSlot u x).md = s.md := rfl
@[simp] theorem State.setSlot_boot (s : State) (u : Nat) (x : Slot) : (s.setSlot u x).boot = s.boot := rfl
@[simp] theorem State.setSlot_chk (s : State) (u : Nat) (x : Slot) : (s.setSlot u x).chk = s.chk := rfl
@[simp] theorem State.setSlot_pair (s : State) (u : Nat) (x : Slot) : (s.setSlot u x).pair = s.pair := rfl
@[simp] theorem State.setSlot_log (s : State) (u : Nat) (x : Slot) : (s.setSlot u x).log = s.log := rfl
@[simp] theorem State.setSlot_hbd (s : State) (u : Nat) (x : Slot) : (s.setSlot u x).hbd = s.hbd := rfl
@[simp] theorem State.setSlot_trust (s : State) (u : Nat) (x : Slot) : (s.setSlot u x).trust = s.trust := rfl
@[simp] theorem State.setSlot_nodeId (s : State) (u : Nat) (x : Slot) : (s.setSlot u x).nodeId = s.nodeId := rfl
@[simp] theorem State.setSlot_mot (s : State) (u : Nat) (x : Slot) : (s.setSlot u x).mot = s.mot := rfl
@[simp] theorem State.setSlot_acq (s : State) (u : Nat) (x : Slot) : (s.setSlot u x).acq = s.acq := rfl
@[simp] theorem State.setSlot_out (s : State) (u : Nat) (x : Slot) : (s.setSlot u x).out = s.out := rfl
@[simp] theorem State.setSlot_saf (s : State) (u : Nat) (x : Slot) : (s.setSlot u x).saf = s.saf := rfl
@[simp] theorem State.setSlot_prog (s : State) (u : Nat) (x : Slot) : (s.setSlot u x).prog = s.prog := rfl
@[simp] theorem State.setSlot_net (s : State) (u : Nat) (x : Slot) : (s.setSlot u x).net = s.net := rfl
@[simp] theorem State.setSlot_staged (s : State) (u : Nat) (x : Slot) : (s.setSlot u x).staged = s.staged := rfl
@[simp] theorem State.setSlot_deck (s : State) (u : Nat) (x : Slot) : (s.setSlot u x).deck = s.deck := rfl
@[simp] theorem State.setSlot_rep (s : State) (u : Nat) (x : Slot) : (s.setSlot u x).rep = s.rep := rfl
@[simp] theorem State.setConv_pending (s : State) (c : Nat) (x : Converter) : (s.setConv c x).pending = s.pending := rfl
@[simp] theorem State.setConv_free (s : State) (c : Nat) (x : Converter) : (s.setConv c x).free = s.free := rfl
@[simp] theorem State.setConv_pwr (s : State) (c : Nat) (x : Converter) : (s.setConv c x).pwr = s.pwr := rfl
@[simp] theorem State.setConv_tm (s : State) (c : Nat) (x : Converter) : (s.setConv c x).tm = s.tm := rfl
@[simp] theorem State.setConv_md (s : State) (c : Nat) (x : Converter) : (s.setConv c x).md = s.md := rfl
@[simp] theorem State.setConv_boot (s : State) (c : Nat) (x : Converter) : (s.setConv c x).boot = s.boot := rfl
@[simp] theorem State.setConv_chk (s : State) (c : Nat) (x : Converter) : (s.setConv c x).chk = s.chk := rfl
@[simp] theorem State.setConv_pair (s : State) (c : Nat) (x : Converter) : (s.setConv c x).pair = s.pair := rfl
@[simp] theorem State.setConv_log (s : State) (c : Nat) (x : Converter) : (s.setConv c x).log = s.log := rfl
@[simp] theorem State.setConv_hbd (s : State) (c : Nat) (x : Converter) : (s.setConv c x).hbd = s.hbd := rfl
@[simp] theorem State.setConv_trust (s : State) (c : Nat) (x : Converter) : (s.setConv c x).trust = s.trust := rfl
@[simp] theorem State.setConv_nodeId (s : State) (c : Nat) (x : Converter) : (s.setConv c x).nodeId = s.nodeId := rfl
@[simp] theorem State.setConv_mot (s : State) (c : Nat) (x : Converter) : (s.setConv c x).mot = s.mot := rfl
@[simp] theorem State.setConv_loop (s : State) (c : Nat) (x : Converter) : (s.setConv c x).loop = s.loop := rfl
@[simp] theorem State.setConv_out (s : State) (c : Nat) (x : Converter) : (s.setConv c x).out = s.out := rfl
@[simp] theorem State.setConv_saf (s : State) (c : Nat) (x : Converter) : (s.setConv c x).saf = s.saf := rfl
@[simp] theorem State.setConv_prog (s : State) (c : Nat) (x : Converter) : (s.setConv c x).prog = s.prog := rfl
@[simp] theorem State.setConv_net (s : State) (c : Nat) (x : Converter) : (s.setConv c x).net = s.net := rfl
@[simp] theorem State.setConv_staged (s : State) (c : Nat) (x : Converter) : (s.setConv c x).staged = s.staged := rfl
@[simp] theorem State.setConv_deck (s : State) (c : Nat) (x : Converter) : (s.setConv c x).deck = s.deck := rfl
@[simp] theorem State.setConv_rep (s : State) (c : Nat) (x : Converter) : (s.setConv c x).rep = s.rep := rfl
@[simp] theorem State.setTask_pending (s : State) (t : Nat) (x : Task) : (s.setTask t x).pending = s.pending := rfl
@[simp] theorem State.setTask_free (s : State) (t : Nat) (x : Task) : (s.setTask t x).free = s.free := rfl
@[simp] theorem State.setTask_pwr (s : State) (t : Nat) (x : Task) : (s.setTask t x).pwr = s.pwr := rfl
@[simp] theorem State.setTask_tm (s : State) (t : Nat) (x : Task) : (s.setTask t x).tm = s.tm := rfl
@[simp] theorem State.setTask_md (s : State) (t : Nat) (x : Task) : (s.setTask t x).md = s.md := rfl
@[simp] theorem State.setTask_boot (s : State) (t : Nat) (x : Task) : (s.setTask t x).boot = s.boot := rfl
@[simp] theorem State.setTask_chk (s : State) (t : Nat) (x : Task) : (s.setTask t x).chk = s.chk := rfl
@[simp] theorem State.setTask_pair (s : State) (t : Nat) (x : Task) : (s.setTask t x).pair = s.pair := rfl
@[simp] theorem State.setTask_log (s : State) (t : Nat) (x : Task) : (s.setTask t x).log = s.log := rfl
@[simp] theorem State.setTask_hbd (s : State) (t : Nat) (x : Task) : (s.setTask t x).hbd = s.hbd := rfl
@[simp] theorem State.setTask_trust (s : State) (t : Nat) (x : Task) : (s.setTask t x).trust = s.trust := rfl
@[simp] theorem State.setTask_nodeId (s : State) (t : Nat) (x : Task) : (s.setTask t x).nodeId = s.nodeId := rfl
@[simp] theorem State.setTask_mot (s : State) (t : Nat) (x : Task) : (s.setTask t x).mot = s.mot := rfl
@[simp] theorem State.setTask_loop (s : State) (t : Nat) (x : Task) : (s.setTask t x).loop = s.loop := rfl
@[simp] theorem State.setTask_acq (s : State) (t : Nat) (x : Task) : (s.setTask t x).acq = s.acq := rfl
@[simp] theorem State.setTask_out (s : State) (t : Nat) (x : Task) : (s.setTask t x).out = s.out := rfl
@[simp] theorem State.setTask_saf (s : State) (t : Nat) (x : Task) : (s.setTask t x).saf = s.saf := rfl
@[simp] theorem State.setTask_net (s : State) (t : Nat) (x : Task) : (s.setTask t x).net = s.net := rfl
@[simp] theorem State.setTask_staged (s : State) (t : Nat) (x : Task) : (s.setTask t x).staged = s.staged := rfl
@[simp] theorem State.setTask_deck (s : State) (t : Nat) (x : Task) : (s.setTask t x).deck = s.deck := rfl
@[simp] theorem State.setTask_rep (s : State) (t : Nat) (x : Task) : (s.setTask t x).rep = s.rep := rfl
@[simp] theorem State.setStation_pending (s : State) (k : Nat) (x : Station) : (s.setStation k x).pending = s.pending := rfl
@[simp] theorem State.setStation_free (s : State) (k : Nat) (x : Station) : (s.setStation k x).free = s.free := rfl
@[simp] theorem State.setStation_pwr (s : State) (k : Nat) (x : Station) : (s.setStation k x).pwr = s.pwr := rfl
@[simp] theorem State.setStation_tm (s : State) (k : Nat) (x : Station) : (s.setStation k x).tm = s.tm := rfl
@[simp] theorem State.setStation_md (s : State) (k : Nat) (x : Station) : (s.setStation k x).md = s.md := rfl
@[simp] theorem State.setStation_boot (s : State) (k : Nat) (x : Station) : (s.setStation k x).boot = s.boot := rfl
@[simp] theorem State.setStation_chk (s : State) (k : Nat) (x : Station) : (s.setStation k x).chk = s.chk := rfl
@[simp] theorem State.setStation_pair (s : State) (k : Nat) (x : Station) : (s.setStation k x).pair = s.pair := rfl
@[simp] theorem State.setStation_log (s : State) (k : Nat) (x : Station) : (s.setStation k x).log = s.log := rfl
@[simp] theorem State.setStation_hbd (s : State) (k : Nat) (x : Station) : (s.setStation k x).hbd = s.hbd := rfl
@[simp] theorem State.setStation_trust (s : State) (k : Nat) (x : Station) : (s.setStation k x).trust = s.trust := rfl
@[simp] theorem State.setStation_nodeId (s : State) (k : Nat) (x : Station) : (s.setStation k x).nodeId = s.nodeId := rfl
@[simp] theorem State.setStation_mot (s : State) (k : Nat) (x : Station) : (s.setStation k x).mot = s.mot := rfl
@[simp] theorem State.setStation_loop (s : State) (k : Nat) (x : Station) : (s.setStation k x).loop = s.loop := rfl
@[simp] theorem State.setStation_acq (s : State) (k : Nat) (x : Station) : (s.setStation k x).acq = s.acq := rfl
@[simp] theorem State.setStation_out (s : State) (k : Nat) (x : Station) : (s.setStation k x).out = s.out := rfl
@[simp] theorem State.setStation_saf (s : State) (k : Nat) (x : Station) : (s.setStation k x).saf = s.saf := rfl
@[simp] theorem State.setStation_net (s : State) (k : Nat) (x : Station) : (s.setStation k x).net = s.net := rfl
@[simp] theorem State.setStation_staged (s : State) (k : Nat) (x : Station) : (s.setStation k x).staged = s.staged := rfl
@[simp] theorem State.setStation_deck (s : State) (k : Nat) (x : Station) : (s.setStation k x).deck = s.deck := rfl
@[simp] theorem State.setStation_rep (s : State) (k : Nat) (x : Station) : (s.setStation k x).rep = s.rep := rfl
@[simp] theorem State.setSeqr_pending (s : State) (q : Nat) (x : Sequencer) : (s.setSeqr q x).pending = s.pending := rfl
@[simp] theorem State.setSeqr_free (s : State) (q : Nat) (x : Sequencer) : (s.setSeqr q x).free = s.free := rfl
@[simp] theorem State.setSeqr_pwr (s : State) (q : Nat) (x : Sequencer) : (s.setSeqr q x).pwr = s.pwr := rfl
@[simp] theorem State.setSeqr_tm (s : State) (q : Nat) (x : Sequencer) : (s.setSeqr q x).tm = s.tm := rfl
@[simp] theorem State.setSeqr_md (s : State) (q : Nat) (x : Sequencer) : (s.setSeqr q x).md = s.md := rfl
@[simp] theorem State.setSeqr_boot (s : State) (q : Nat) (x : Sequencer) : (s.setSeqr q x).boot = s.boot := rfl
@[simp] theorem State.setSeqr_chk (s : State) (q : Nat) (x : Sequencer) : (s.setSeqr q x).chk = s.chk := rfl
@[simp] theorem State.setSeqr_pair (s : State) (q : Nat) (x : Sequencer) : (s.setSeqr q x).pair = s.pair := rfl
@[simp] theorem State.setSeqr_log (s : State) (q : Nat) (x : Sequencer) : (s.setSeqr q x).log = s.log := rfl
@[simp] theorem State.setSeqr_hbd (s : State) (q : Nat) (x : Sequencer) : (s.setSeqr q x).hbd = s.hbd := rfl
@[simp] theorem State.setSeqr_trust (s : State) (q : Nat) (x : Sequencer) : (s.setSeqr q x).trust = s.trust := rfl
@[simp] theorem State.setSeqr_nodeId (s : State) (q : Nat) (x : Sequencer) : (s.setSeqr q x).nodeId = s.nodeId := rfl
@[simp] theorem State.setSeqr_mot (s : State) (q : Nat) (x : Sequencer) : (s.setSeqr q x).mot = s.mot := rfl
@[simp] theorem State.setSeqr_loop (s : State) (q : Nat) (x : Sequencer) : (s.setSeqr q x).loop = s.loop := rfl
@[simp] theorem State.setSeqr_acq (s : State) (q : Nat) (x : Sequencer) : (s.setSeqr q x).acq = s.acq := rfl
@[simp] theorem State.setSeqr_out (s : State) (q : Nat) (x : Sequencer) : (s.setSeqr q x).out = s.out := rfl
@[simp] theorem State.setSeqr_saf (s : State) (q : Nat) (x : Sequencer) : (s.setSeqr q x).saf = s.saf := rfl
@[simp] theorem State.setSeqr_net (s : State) (q : Nat) (x : Sequencer) : (s.setSeqr q x).net = s.net := rfl
@[simp] theorem State.setSeqr_staged (s : State) (q : Nat) (x : Sequencer) : (s.setSeqr q x).staged = s.staged := rfl
@[simp] theorem State.setSeqr_deck (s : State) (q : Nat) (x : Sequencer) : (s.setSeqr q x).deck = s.deck := rfl
@[simp] theorem State.setSeqr_rep (s : State) (q : Nat) (x : Sequencer) : (s.setSeqr q x).rep = s.rep := rfl
@[simp] theorem State.setValve_pending (s : State) (v : Nat) (x : Valve) : (s.setValve v x).pending = s.pending := rfl
@[simp] theorem State.setValve_free (s : State) (v : Nat) (x : Valve) : (s.setValve v x).free = s.free := rfl
@[simp] theorem State.setValve_pwr (s : State) (v : Nat) (x : Valve) : (s.setValve v x).pwr = s.pwr := rfl
@[simp] theorem State.setValve_tm (s : State) (v : Nat) (x : Valve) : (s.setValve v x).tm = s.tm := rfl
@[simp] theorem State.setValve_md (s : State) (v : Nat) (x : Valve) : (s.setValve v x).md = s.md := rfl
@[simp] theorem State.setValve_boot (s : State) (v : Nat) (x : Valve) : (s.setValve v x).boot = s.boot := rfl
@[simp] theorem State.setValve_chk (s : State) (v : Nat) (x : Valve) : (s.setValve v x).chk = s.chk := rfl
@[simp] theorem State.setValve_pair (s : State) (v : Nat) (x : Valve) : (s.setValve v x).pair = s.pair := rfl
@[simp] theorem State.setValve_log (s : State) (v : Nat) (x : Valve) : (s.setValve v x).log = s.log := rfl
@[simp] theorem State.setValve_hbd (s : State) (v : Nat) (x : Valve) : (s.setValve v x).hbd = s.hbd := rfl
@[simp] theorem State.setValve_trust (s : State) (v : Nat) (x : Valve) : (s.setValve v x).trust = s.trust := rfl
@[simp] theorem State.setValve_nodeId (s : State) (v : Nat) (x : Valve) : (s.setValve v x).nodeId = s.nodeId := rfl
@[simp] theorem State.setValve_mot (s : State) (v : Nat) (x : Valve) : (s.setValve v x).mot = s.mot := rfl
@[simp] theorem State.setValve_loop (s : State) (v : Nat) (x : Valve) : (s.setValve v x).loop = s.loop := rfl
@[simp] theorem State.setValve_acq (s : State) (v : Nat) (x : Valve) : (s.setValve v x).acq = s.acq := rfl
@[simp] theorem State.setValve_saf (s : State) (v : Nat) (x : Valve) : (s.setValve v x).saf = s.saf := rfl
@[simp] theorem State.setValve_prog (s : State) (v : Nat) (x : Valve) : (s.setValve v x).prog = s.prog := rfl
@[simp] theorem State.setValve_net (s : State) (v : Nat) (x : Valve) : (s.setValve v x).net = s.net := rfl
@[simp] theorem State.setValve_staged (s : State) (v : Nat) (x : Valve) : (s.setValve v x).staged = s.staged := rfl
@[simp] theorem State.setValve_deck (s : State) (v : Nat) (x : Valve) : (s.setValve v x).deck = s.deck := rfl
@[simp] theorem State.setValve_rep (s : State) (v : Nat) (x : Valve) : (s.setValve v x).rep = s.rep := rfl
@[simp] theorem State.setPwm_pending (s : State) (n : Nat) (x : Pwm) : (s.setPwm n x).pending = s.pending := rfl
@[simp] theorem State.setPwm_free (s : State) (n : Nat) (x : Pwm) : (s.setPwm n x).free = s.free := rfl
@[simp] theorem State.setPwm_pwr (s : State) (n : Nat) (x : Pwm) : (s.setPwm n x).pwr = s.pwr := rfl
@[simp] theorem State.setPwm_tm (s : State) (n : Nat) (x : Pwm) : (s.setPwm n x).tm = s.tm := rfl
@[simp] theorem State.setPwm_md (s : State) (n : Nat) (x : Pwm) : (s.setPwm n x).md = s.md := rfl
@[simp] theorem State.setPwm_boot (s : State) (n : Nat) (x : Pwm) : (s.setPwm n x).boot = s.boot := rfl
@[simp] theorem State.setPwm_chk (s : State) (n : Nat) (x : Pwm) : (s.setPwm n x).chk = s.chk := rfl
@[simp] theorem State.setPwm_pair (s : State) (n : Nat) (x : Pwm) : (s.setPwm n x).pair = s.pair := rfl
@[simp] theorem State.setPwm_log (s : State) (n : Nat) (x : Pwm) : (s.setPwm n x).log = s.log := rfl
@[simp] theorem State.setPwm_hbd (s : State) (n : Nat) (x : Pwm) : (s.setPwm n x).hbd = s.hbd := rfl
@[simp] theorem State.setPwm_trust (s : State) (n : Nat) (x : Pwm) : (s.setPwm n x).trust = s.trust := rfl
@[simp] theorem State.setPwm_nodeId (s : State) (n : Nat) (x : Pwm) : (s.setPwm n x).nodeId = s.nodeId := rfl
@[simp] theorem State.setPwm_mot (s : State) (n : Nat) (x : Pwm) : (s.setPwm n x).mot = s.mot := rfl
@[simp] theorem State.setPwm_loop (s : State) (n : Nat) (x : Pwm) : (s.setPwm n x).loop = s.loop := rfl
@[simp] theorem State.setPwm_acq (s : State) (n : Nat) (x : Pwm) : (s.setPwm n x).acq = s.acq := rfl
@[simp] theorem State.setPwm_saf (s : State) (n : Nat) (x : Pwm) : (s.setPwm n x).saf = s.saf := rfl
@[simp] theorem State.setPwm_prog (s : State) (n : Nat) (x : Pwm) : (s.setPwm n x).prog = s.prog := rfl
@[simp] theorem State.setPwm_net (s : State) (n : Nat) (x : Pwm) : (s.setPwm n x).net = s.net := rfl
@[simp] theorem State.setPwm_staged (s : State) (n : Nat) (x : Pwm) : (s.setPwm n x).staged = s.staged := rfl
@[simp] theorem State.setPwm_deck (s : State) (n : Nat) (x : Pwm) : (s.setPwm n x).deck = s.deck := rfl
@[simp] theorem State.setPwm_rep (s : State) (n : Nat) (x : Pwm) : (s.setPwm n x).rep = s.rep := rfl
@[simp] theorem State.setSafeOut_pending (s : State) (k : Nat) (x : SafeOut) : (s.setSafeOut k x).pending = s.pending := rfl
@[simp] theorem State.setSafeOut_free (s : State) (k : Nat) (x : SafeOut) : (s.setSafeOut k x).free = s.free := rfl
@[simp] theorem State.setSafeOut_pwr (s : State) (k : Nat) (x : SafeOut) : (s.setSafeOut k x).pwr = s.pwr := rfl
@[simp] theorem State.setSafeOut_tm (s : State) (k : Nat) (x : SafeOut) : (s.setSafeOut k x).tm = s.tm := rfl
@[simp] theorem State.setSafeOut_md (s : State) (k : Nat) (x : SafeOut) : (s.setSafeOut k x).md = s.md := rfl
@[simp] theorem State.setSafeOut_boot (s : State) (k : Nat) (x : SafeOut) : (s.setSafeOut k x).boot = s.boot := rfl
@[simp] theorem State.setSafeOut_chk (s : State) (k : Nat) (x : SafeOut) : (s.setSafeOut k x).chk = s.chk := rfl
@[simp] theorem State.setSafeOut_pair (s : State) (k : Nat) (x : SafeOut) : (s.setSafeOut k x).pair = s.pair := rfl
@[simp] theorem State.setSafeOut_log (s : State) (k : Nat) (x : SafeOut) : (s.setSafeOut k x).log = s.log := rfl
@[simp] theorem State.setSafeOut_hbd (s : State) (k : Nat) (x : SafeOut) : (s.setSafeOut k x).hbd = s.hbd := rfl
@[simp] theorem State.setSafeOut_trust (s : State) (k : Nat) (x : SafeOut) : (s.setSafeOut k x).trust = s.trust := rfl
@[simp] theorem State.setSafeOut_nodeId (s : State) (k : Nat) (x : SafeOut) : (s.setSafeOut k x).nodeId = s.nodeId := rfl
@[simp] theorem State.setSafeOut_mot (s : State) (k : Nat) (x : SafeOut) : (s.setSafeOut k x).mot = s.mot := rfl
@[simp] theorem State.setSafeOut_loop (s : State) (k : Nat) (x : SafeOut) : (s.setSafeOut k x).loop = s.loop := rfl
@[simp] theorem State.setSafeOut_acq (s : State) (k : Nat) (x : SafeOut) : (s.setSafeOut k x).acq = s.acq := rfl
@[simp] theorem State.setSafeOut_out (s : State) (k : Nat) (x : SafeOut) : (s.setSafeOut k x).out = s.out := rfl
@[simp] theorem State.setSafeOut_prog (s : State) (k : Nat) (x : SafeOut) : (s.setSafeOut k x).prog = s.prog := rfl
@[simp] theorem State.setSafeOut_net (s : State) (k : Nat) (x : SafeOut) : (s.setSafeOut k x).net = s.net := rfl
@[simp] theorem State.setSafeOut_staged (s : State) (k : Nat) (x : SafeOut) : (s.setSafeOut k x).staged = s.staged := rfl
@[simp] theorem State.setSafeOut_deck (s : State) (k : Nat) (x : SafeOut) : (s.setSafeOut k x).deck = s.deck := rfl
@[simp] theorem State.setSafeOut_rep (s : State) (k : Nat) (x : SafeOut) : (s.setSafeOut k x).rep = s.rep := rfl
@[simp] theorem State.draw_pending (s : State) : s.draw.pending = s.pending := rfl
@[simp] theorem State.draw_pwr (s : State) : s.draw.pwr = s.pwr := rfl
@[simp] theorem State.draw_tm (s : State) : s.draw.tm = s.tm := rfl
@[simp] theorem State.draw_md (s : State) : s.draw.md = s.md := rfl
@[simp] theorem State.draw_boot (s : State) : s.draw.boot = s.boot := rfl
@[simp] theorem State.draw_chk (s : State) : s.draw.chk = s.chk := rfl
@[simp] theorem State.draw_pair (s : State) : s.draw.pair = s.pair := rfl
@[simp] theorem State.draw_log (s : State) : s.draw.log = s.log := rfl
@[simp] theorem State.draw_hbd (s : State) : s.draw.hbd = s.hbd := rfl
@[simp] theorem State.draw_trust (s : State) : s.draw.trust = s.trust := rfl
@[simp] theorem State.draw_nodeId (s : State) : s.draw.nodeId = s.nodeId := rfl
@[simp] theorem State.draw_mot (s : State) : s.draw.mot = s.mot := rfl
@[simp] theorem State.draw_loop (s : State) : s.draw.loop = s.loop := rfl
@[simp] theorem State.draw_acq (s : State) : s.draw.acq = s.acq := rfl
@[simp] theorem State.draw_out (s : State) : s.draw.out = s.out := rfl
@[simp] theorem State.draw_saf (s : State) : s.draw.saf = s.saf := rfl
@[simp] theorem State.draw_prog (s : State) : s.draw.prog = s.prog := rfl
@[simp] theorem State.draw_net (s : State) : s.draw.net = s.net := rfl
@[simp] theorem State.draw_staged (s : State) : s.draw.staged = s.staged := rfl
@[simp] theorem State.draw_deck (s : State) : s.draw.deck = s.deck := rfl
@[simp] theorem State.draw_rep (s : State) : s.draw.rep = s.rep := rfl
@[simp] theorem Ops.raise_pending (s : State) (code src p0 p1 : Nat) : (Ops.raise code src p0 p1 s).pending = s.pending := rfl
@[simp] theorem Ops.raise_free (s : State) (code src p0 p1 : Nat) : (Ops.raise code src p0 p1 s).free = s.free := rfl
@[simp] theorem Ops.raise_pwr (s : State) (code src p0 p1 : Nat) : (Ops.raise code src p0 p1 s).pwr = s.pwr := rfl
@[simp] theorem Ops.raise_tm (s : State) (code src p0 p1 : Nat) : (Ops.raise code src p0 p1 s).tm = s.tm := rfl
@[simp] theorem Ops.raise_md (s : State) (code src p0 p1 : Nat) : (Ops.raise code src p0 p1 s).md = s.md := rfl
@[simp] theorem Ops.raise_boot (s : State) (code src p0 p1 : Nat) : (Ops.raise code src p0 p1 s).boot = s.boot := rfl
@[simp] theorem Ops.raise_chk (s : State) (code src p0 p1 : Nat) : (Ops.raise code src p0 p1 s).chk = s.chk := rfl
@[simp] theorem Ops.raise_pair (s : State) (code src p0 p1 : Nat) : (Ops.raise code src p0 p1 s).pair = s.pair := rfl
@[simp] theorem Ops.raise_hbd (s : State) (code src p0 p1 : Nat) : (Ops.raise code src p0 p1 s).hbd = s.hbd := rfl
@[simp] theorem Ops.raise_trust (s : State) (code src p0 p1 : Nat) : (Ops.raise code src p0 p1 s).trust = s.trust := rfl
@[simp] theorem Ops.raise_nodeId (s : State) (code src p0 p1 : Nat) : (Ops.raise code src p0 p1 s).nodeId = s.nodeId := rfl
@[simp] theorem Ops.raise_mot (s : State) (code src p0 p1 : Nat) : (Ops.raise code src p0 p1 s).mot = s.mot := rfl
@[simp] theorem Ops.raise_loop (s : State) (code src p0 p1 : Nat) : (Ops.raise code src p0 p1 s).loop = s.loop := rfl
@[simp] theorem Ops.raise_acq (s : State) (code src p0 p1 : Nat) : (Ops.raise code src p0 p1 s).acq = s.acq := rfl
@[simp] theorem Ops.raise_out (s : State) (code src p0 p1 : Nat) : (Ops.raise code src p0 p1 s).out = s.out := rfl
@[simp] theorem Ops.raise_saf (s : State) (code src p0 p1 : Nat) : (Ops.raise code src p0 p1 s).saf = s.saf := rfl
@[simp] theorem Ops.raise_prog (s : State) (code src p0 p1 : Nat) : (Ops.raise code src p0 p1 s).prog = s.prog := rfl
@[simp] theorem Ops.raise_net (s : State) (code src p0 p1 : Nat) : (Ops.raise code src p0 p1 s).net = s.net := rfl
@[simp] theorem Ops.raise_staged (s : State) (code src p0 p1 : Nat) : (Ops.raise code src p0 p1 s).staged = s.staged := rfl
@[simp] theorem Ops.raise_deck (s : State) (code src p0 p1 : Nat) : (Ops.raise code src p0 p1 s).deck = s.deck := rfl
@[simp] theorem Ops.raise_rep (s : State) (code src p0 p1 : Nat) : (Ops.raise code src p0 p1 s).rep = s.rep := rfl
@[simp] theorem Ops.raiseMid_pending (s : State) (code src p0 p1 : Nat) : (Ops.raiseMid code src p0 p1 s).pending = s.pending := rfl
@[simp] theorem Ops.raiseMid_free (s : State) (code src p0 p1 : Nat) : (Ops.raiseMid code src p0 p1 s).free = s.free := rfl
@[simp] theorem Ops.raiseMid_pwr (s : State) (code src p0 p1 : Nat) : (Ops.raiseMid code src p0 p1 s).pwr = s.pwr := rfl
@[simp] theorem Ops.raiseMid_tm (s : State) (code src p0 p1 : Nat) : (Ops.raiseMid code src p0 p1 s).tm = s.tm := rfl
@[simp] theorem Ops.raiseMid_md (s : State) (code src p0 p1 : Nat) : (Ops.raiseMid code src p0 p1 s).md = s.md := rfl
@[simp] theorem Ops.raiseMid_boot (s : State) (code src p0 p1 : Nat) : (Ops.raiseMid code src p0 p1 s).boot = s.boot := rfl
@[simp] theorem Ops.raiseMid_chk (s : State) (code src p0 p1 : Nat) : (Ops.raiseMid code src p0 p1 s).chk = s.chk := rfl
@[simp] theorem Ops.raiseMid_pair (s : State) (code src p0 p1 : Nat) : (Ops.raiseMid code src p0 p1 s).pair = s.pair := rfl
@[simp] theorem Ops.raiseMid_hbd (s : State) (code src p0 p1 : Nat) : (Ops.raiseMid code src p0 p1 s).hbd = s.hbd := rfl
@[simp] theorem Ops.raiseMid_trust (s : State) (code src p0 p1 : Nat) : (Ops.raiseMid code src p0 p1 s).trust = s.trust := rfl
@[simp] theorem Ops.raiseMid_nodeId (s : State) (code src p0 p1 : Nat) : (Ops.raiseMid code src p0 p1 s).nodeId = s.nodeId := rfl
@[simp] theorem Ops.raiseMid_mot (s : State) (code src p0 p1 : Nat) : (Ops.raiseMid code src p0 p1 s).mot = s.mot := rfl
@[simp] theorem Ops.raiseMid_loop (s : State) (code src p0 p1 : Nat) : (Ops.raiseMid code src p0 p1 s).loop = s.loop := rfl
@[simp] theorem Ops.raiseMid_acq (s : State) (code src p0 p1 : Nat) : (Ops.raiseMid code src p0 p1 s).acq = s.acq := rfl
@[simp] theorem Ops.raiseMid_out (s : State) (code src p0 p1 : Nat) : (Ops.raiseMid code src p0 p1 s).out = s.out := rfl
@[simp] theorem Ops.raiseMid_saf (s : State) (code src p0 p1 : Nat) : (Ops.raiseMid code src p0 p1 s).saf = s.saf := rfl
@[simp] theorem Ops.raiseMid_prog (s : State) (code src p0 p1 : Nat) : (Ops.raiseMid code src p0 p1 s).prog = s.prog := rfl
@[simp] theorem Ops.raiseMid_net (s : State) (code src p0 p1 : Nat) : (Ops.raiseMid code src p0 p1 s).net = s.net := rfl
@[simp] theorem Ops.raiseMid_staged (s : State) (code src p0 p1 : Nat) : (Ops.raiseMid code src p0 p1 s).staged = s.staged := rfl
@[simp] theorem Ops.raiseMid_deck (s : State) (code src p0 p1 : Nat) : (Ops.raiseMid code src p0 p1 s).deck = s.deck := rfl
@[simp] theorem Ops.raiseMid_rep (s : State) (code src p0 p1 : Nat) : (Ops.raiseMid code src p0 p1 s).rep = s.rep := rfl
@[simp] theorem Ops.countDie_pending (s : State) (die region sel n : Nat) : (Ops.countDie die region sel n s).pending = s.pending := by unfold Ops.countDie; split <;> rfl
@[simp] theorem Ops.countDie_free (s : State) (die region sel n : Nat) : (Ops.countDie die region sel n s).free = s.free := by unfold Ops.countDie; split <;> rfl
@[simp] theorem Ops.countDie_pwr (s : State) (die region sel n : Nat) : (Ops.countDie die region sel n s).pwr = s.pwr := by unfold Ops.countDie; split <;> rfl
@[simp] theorem Ops.countDie_tm (s : State) (die region sel n : Nat) : (Ops.countDie die region sel n s).tm = s.tm := by unfold Ops.countDie; split <;> rfl
@[simp] theorem Ops.countDie_md (s : State) (die region sel n : Nat) : (Ops.countDie die region sel n s).md = s.md := by unfold Ops.countDie; split <;> rfl
@[simp] theorem Ops.countDie_boot (s : State) (die region sel n : Nat) : (Ops.countDie die region sel n s).boot = s.boot := by unfold Ops.countDie; split <;> rfl
@[simp] theorem Ops.countDie_chk (s : State) (die region sel n : Nat) : (Ops.countDie die region sel n s).chk = s.chk := by unfold Ops.countDie; split <;> rfl
@[simp] theorem Ops.countDie_pair (s : State) (die region sel n : Nat) : (Ops.countDie die region sel n s).pair = s.pair := by unfold Ops.countDie; split <;> rfl
@[simp] theorem Ops.countDie_hbd (s : State) (die region sel n : Nat) : (Ops.countDie die region sel n s).hbd = s.hbd := by unfold Ops.countDie; split <;> rfl
@[simp] theorem Ops.countDie_trust (s : State) (die region sel n : Nat) : (Ops.countDie die region sel n s).trust = s.trust := by unfold Ops.countDie; split <;> rfl
@[simp] theorem Ops.countDie_nodeId (s : State) (die region sel n : Nat) : (Ops.countDie die region sel n s).nodeId = s.nodeId := by unfold Ops.countDie; split <;> rfl
@[simp] theorem Ops.countDie_mot (s : State) (die region sel n : Nat) : (Ops.countDie die region sel n s).mot = s.mot := by unfold Ops.countDie; split <;> rfl
@[simp] theorem Ops.countDie_loop (s : State) (die region sel n : Nat) : (Ops.countDie die region sel n s).loop = s.loop := by unfold Ops.countDie; split <;> rfl
@[simp] theorem Ops.countDie_acq (s : State) (die region sel n : Nat) : (Ops.countDie die region sel n s).acq = s.acq := by unfold Ops.countDie; split <;> rfl
@[simp] theorem Ops.countDie_out (s : State) (die region sel n : Nat) : (Ops.countDie die region sel n s).out = s.out := by unfold Ops.countDie; split <;> rfl
@[simp] theorem Ops.countDie_saf (s : State) (die region sel n : Nat) : (Ops.countDie die region sel n s).saf = s.saf := by unfold Ops.countDie; split <;> rfl
@[simp] theorem Ops.countDie_prog (s : State) (die region sel n : Nat) : (Ops.countDie die region sel n s).prog = s.prog := by unfold Ops.countDie; split <;> rfl
@[simp] theorem Ops.countDie_net (s : State) (die region sel n : Nat) : (Ops.countDie die region sel n s).net = s.net := by unfold Ops.countDie; split <;> rfl
@[simp] theorem Ops.countDie_staged (s : State) (die region sel n : Nat) : (Ops.countDie die region sel n s).staged = s.staged := by unfold Ops.countDie; split <;> rfl
@[simp] theorem Ops.countDie_deck (s : State) (die region sel n : Nat) : (Ops.countDie die region sel n s).deck = s.deck := by unfold Ops.countDie; split <;> rfl
@[simp] theorem Ops.countDie_rep (s : State) (die region sel n : Nat) : (Ops.countDie die region sel n s).rep = s.rep := by unfold Ops.countDie; split <;> rfl
@[simp] theorem Ops.count_pending (s : State) (region sel n : Nat) : (Ops.count region sel n s).pending = s.pending := by unfold Ops.count; split <;> simp
@[simp] theorem Ops.count_free (s : State) (region sel n : Nat) : (Ops.count region sel n s).free = s.free := by unfold Ops.count; split <;> simp
@[simp] theorem Ops.count_pwr (s : State) (region sel n : Nat) : (Ops.count region sel n s).pwr = s.pwr := by unfold Ops.count; split <;> simp
@[simp] theorem Ops.count_tm (s : State) (region sel n : Nat) : (Ops.count region sel n s).tm = s.tm := by unfold Ops.count; split <;> simp
@[simp] theorem Ops.count_md (s : State) (region sel n : Nat) : (Ops.count region sel n s).md = s.md := by unfold Ops.count; split <;> simp
@[simp] theorem Ops.count_boot (s : State) (region sel n : Nat) : (Ops.count region sel n s).boot = s.boot := by unfold Ops.count; split <;> simp
@[simp] theorem Ops.count_chk (s : State) (region sel n : Nat) : (Ops.count region sel n s).chk = s.chk := by unfold Ops.count; split <;> simp
@[simp] theorem Ops.count_pair (s : State) (region sel n : Nat) : (Ops.count region sel n s).pair = s.pair := by unfold Ops.count; split <;> simp
@[simp] theorem Ops.count_hbd (s : State) (region sel n : Nat) : (Ops.count region sel n s).hbd = s.hbd := by unfold Ops.count; split <;> simp
@[simp] theorem Ops.count_trust (s : State) (region sel n : Nat) : (Ops.count region sel n s).trust = s.trust := by unfold Ops.count; split <;> simp
@[simp] theorem Ops.count_nodeId (s : State) (region sel n : Nat) : (Ops.count region sel n s).nodeId = s.nodeId := by unfold Ops.count; split <;> simp
@[simp] theorem Ops.count_mot (s : State) (region sel n : Nat) : (Ops.count region sel n s).mot = s.mot := by unfold Ops.count; split <;> simp
@[simp] theorem Ops.count_loop (s : State) (region sel n : Nat) : (Ops.count region sel n s).loop = s.loop := by unfold Ops.count; split <;> simp
@[simp] theorem Ops.count_acq (s : State) (region sel n : Nat) : (Ops.count region sel n s).acq = s.acq := by unfold Ops.count; split <;> simp
@[simp] theorem Ops.count_out (s : State) (region sel n : Nat) : (Ops.count region sel n s).out = s.out := by unfold Ops.count; split <;> simp
@[simp] theorem Ops.count_saf (s : State) (region sel n : Nat) : (Ops.count region sel n s).saf = s.saf := by unfold Ops.count; split <;> simp
@[simp] theorem Ops.count_prog (s : State) (region sel n : Nat) : (Ops.count region sel n s).prog = s.prog := by unfold Ops.count; split <;> simp
@[simp] theorem Ops.count_net (s : State) (region sel n : Nat) : (Ops.count region sel n s).net = s.net := by unfold Ops.count; split <;> simp
@[simp] theorem Ops.count_staged (s : State) (region sel n : Nat) : (Ops.count region sel n s).staged = s.staged := by unfold Ops.count; split <;> simp
@[simp] theorem Ops.count_deck (s : State) (region sel n : Nat) : (Ops.count region sel n s).deck = s.deck := by unfold Ops.count; split <;> simp
@[simp] theorem Ops.count_rep (s : State) (region sel n : Nat) : (Ops.count region sel n s).rep = s.rep := by unfold Ops.count; split <;> simp
@[simp] theorem Ops.fire_pending (s : State) (k : Nat) : (Ops.fire k s).pending = s.pending := rfl
@[simp] theorem Ops.fire_free (s : State) (k : Nat) : (Ops.fire k s).free = s.free := rfl
@[simp] theorem Ops.fire_pwr (s : State) (k : Nat) : (Ops.fire k s).pwr = s.pwr := rfl
@[simp] theorem Ops.fire_tm (s : State) (k : Nat) : (Ops.fire k s).tm = s.tm := rfl
@[simp] theorem Ops.fire_md (s : State) (k : Nat) : (Ops.fire k s).md = s.md := rfl
@[simp] theorem Ops.fire_boot (s : State) (k : Nat) : (Ops.fire k s).boot = s.boot := rfl
@[simp] theorem Ops.fire_chk (s : State) (k : Nat) : (Ops.fire k s).chk = s.chk := rfl
@[simp] theorem Ops.fire_pair (s : State) (k : Nat) : (Ops.fire k s).pair = s.pair := rfl
@[simp] theorem Ops.fire_log (s : State) (k : Nat) : (Ops.fire k s).log = s.log := rfl
@[simp] theorem Ops.fire_trust (s : State) (k : Nat) : (Ops.fire k s).trust = s.trust := rfl
@[simp] theorem Ops.fire_nodeId (s : State) (k : Nat) : (Ops.fire k s).nodeId = s.nodeId := rfl
@[simp] theorem Ops.fire_mot (s : State) (k : Nat) : (Ops.fire k s).mot = s.mot := rfl
@[simp] theorem Ops.fire_loop (s : State) (k : Nat) : (Ops.fire k s).loop = s.loop := rfl
@[simp] theorem Ops.fire_acq (s : State) (k : Nat) : (Ops.fire k s).acq = s.acq := rfl
@[simp] theorem Ops.fire_out (s : State) (k : Nat) : (Ops.fire k s).out = s.out := rfl
@[simp] theorem Ops.fire_saf (s : State) (k : Nat) : (Ops.fire k s).saf = s.saf := rfl
@[simp] theorem Ops.fire_prog (s : State) (k : Nat) : (Ops.fire k s).prog = s.prog := rfl
@[simp] theorem Ops.fire_net (s : State) (k : Nat) : (Ops.fire k s).net = s.net := rfl
@[simp] theorem Ops.fire_staged (s : State) (k : Nat) : (Ops.fire k s).staged = s.staged := rfl
@[simp] theorem Ops.fire_deck (s : State) (k : Nat) : (Ops.fire k s).deck = s.deck := rfl
@[simp] theorem Ops.fire_rep (s : State) (k : Nat) : (Ops.fire k s).rep = s.rep := rfl
@[simp] theorem Says.answer_pending (s : State) (c : Cmd) (op : Nat) (st : Status) (reason result : Nat) (interim : Bool) : (Says.answer c op st reason result interim s).pending = s.pending := rfl
@[simp] theorem Says.answer_free (s : State) (c : Cmd) (op : Nat) (st : Status) (reason result : Nat) (interim : Bool) : (Says.answer c op st reason result interim s).free = s.free := rfl
@[simp] theorem Says.answer_pwr (s : State) (c : Cmd) (op : Nat) (st : Status) (reason result : Nat) (interim : Bool) : (Says.answer c op st reason result interim s).pwr = s.pwr := rfl
@[simp] theorem Says.answer_tm (s : State) (c : Cmd) (op : Nat) (st : Status) (reason result : Nat) (interim : Bool) : (Says.answer c op st reason result interim s).tm = s.tm := rfl
@[simp] theorem Says.answer_md (s : State) (c : Cmd) (op : Nat) (st : Status) (reason result : Nat) (interim : Bool) : (Says.answer c op st reason result interim s).md = s.md := rfl
@[simp] theorem Says.answer_boot (s : State) (c : Cmd) (op : Nat) (st : Status) (reason result : Nat) (interim : Bool) : (Says.answer c op st reason result interim s).boot = s.boot := rfl
@[simp] theorem Says.answer_chk (s : State) (c : Cmd) (op : Nat) (st : Status) (reason result : Nat) (interim : Bool) : (Says.answer c op st reason result interim s).chk = s.chk := rfl
@[simp] theorem Says.answer_pair (s : State) (c : Cmd) (op : Nat) (st : Status) (reason result : Nat) (interim : Bool) : (Says.answer c op st reason result interim s).pair = s.pair := rfl
@[simp] theorem Says.answer_log (s : State) (c : Cmd) (op : Nat) (st : Status) (reason result : Nat) (interim : Bool) : (Says.answer c op st reason result interim s).log = s.log := rfl
@[simp] theorem Says.answer_trust (s : State) (c : Cmd) (op : Nat) (st : Status) (reason result : Nat) (interim : Bool) : (Says.answer c op st reason result interim s).trust = s.trust := rfl
@[simp] theorem Says.answer_nodeId (s : State) (c : Cmd) (op : Nat) (st : Status) (reason result : Nat) (interim : Bool) : (Says.answer c op st reason result interim s).nodeId = s.nodeId := rfl
@[simp] theorem Says.answer_mot (s : State) (c : Cmd) (op : Nat) (st : Status) (reason result : Nat) (interim : Bool) : (Says.answer c op st reason result interim s).mot = s.mot := rfl
@[simp] theorem Says.answer_loop (s : State) (c : Cmd) (op : Nat) (st : Status) (reason result : Nat) (interim : Bool) : (Says.answer c op st reason result interim s).loop = s.loop := rfl
@[simp] theorem Says.answer_acq (s : State) (c : Cmd) (op : Nat) (st : Status) (reason result : Nat) (interim : Bool) : (Says.answer c op st reason result interim s).acq = s.acq := rfl
@[simp] theorem Says.answer_out (s : State) (c : Cmd) (op : Nat) (st : Status) (reason result : Nat) (interim : Bool) : (Says.answer c op st reason result interim s).out = s.out := rfl
@[simp] theorem Says.answer_saf (s : State) (c : Cmd) (op : Nat) (st : Status) (reason result : Nat) (interim : Bool) : (Says.answer c op st reason result interim s).saf = s.saf := rfl
@[simp] theorem Says.answer_prog (s : State) (c : Cmd) (op : Nat) (st : Status) (reason result : Nat) (interim : Bool) : (Says.answer c op st reason result interim s).prog = s.prog := rfl
@[simp] theorem Says.answer_net (s : State) (c : Cmd) (op : Nat) (st : Status) (reason result : Nat) (interim : Bool) : (Says.answer c op st reason result interim s).net = s.net := rfl
@[simp] theorem Says.answer_staged (s : State) (c : Cmd) (op : Nat) (st : Status) (reason result : Nat) (interim : Bool) : (Says.answer c op st reason result interim s).staged = s.staged := rfl
@[simp] theorem Says.answer_deck (s : State) (c : Cmd) (op : Nat) (st : Status) (reason result : Nat) (interim : Bool) : (Says.answer c op st reason result interim s).deck = s.deck := rfl
@[simp] theorem Says.done_pending (s : State) (c : Cmd) (op result : Nat) : (Says.done c op result s).pending = s.pending := rfl
@[simp] theorem Says.done_free (s : State) (c : Cmd) (op result : Nat) : (Says.done c op result s).free = s.free := rfl
@[simp] theorem Says.done_pwr (s : State) (c : Cmd) (op result : Nat) : (Says.done c op result s).pwr = s.pwr := rfl
@[simp] theorem Says.done_tm (s : State) (c : Cmd) (op result : Nat) : (Says.done c op result s).tm = s.tm := rfl
@[simp] theorem Says.done_md (s : State) (c : Cmd) (op result : Nat) : (Says.done c op result s).md = s.md := rfl
@[simp] theorem Says.done_boot (s : State) (c : Cmd) (op result : Nat) : (Says.done c op result s).boot = s.boot := rfl
@[simp] theorem Says.done_chk (s : State) (c : Cmd) (op result : Nat) : (Says.done c op result s).chk = s.chk := rfl
@[simp] theorem Says.done_pair (s : State) (c : Cmd) (op result : Nat) : (Says.done c op result s).pair = s.pair := rfl
@[simp] theorem Says.done_log (s : State) (c : Cmd) (op result : Nat) : (Says.done c op result s).log = s.log := rfl
@[simp] theorem Says.done_trust (s : State) (c : Cmd) (op result : Nat) : (Says.done c op result s).trust = s.trust := rfl
@[simp] theorem Says.done_nodeId (s : State) (c : Cmd) (op result : Nat) : (Says.done c op result s).nodeId = s.nodeId := rfl
@[simp] theorem Says.done_mot (s : State) (c : Cmd) (op result : Nat) : (Says.done c op result s).mot = s.mot := rfl
@[simp] theorem Says.done_loop (s : State) (c : Cmd) (op result : Nat) : (Says.done c op result s).loop = s.loop := rfl
@[simp] theorem Says.done_acq (s : State) (c : Cmd) (op result : Nat) : (Says.done c op result s).acq = s.acq := rfl
@[simp] theorem Says.done_out (s : State) (c : Cmd) (op result : Nat) : (Says.done c op result s).out = s.out := rfl
@[simp] theorem Says.done_saf (s : State) (c : Cmd) (op result : Nat) : (Says.done c op result s).saf = s.saf := rfl
@[simp] theorem Says.done_prog (s : State) (c : Cmd) (op result : Nat) : (Says.done c op result s).prog = s.prog := rfl
@[simp] theorem Says.done_net (s : State) (c : Cmd) (op result : Nat) : (Says.done c op result s).net = s.net := rfl
@[simp] theorem Says.done_staged (s : State) (c : Cmd) (op result : Nat) : (Says.done c op result s).staged = s.staged := rfl
@[simp] theorem Says.done_deck (s : State) (c : Cmd) (op result : Nat) : (Says.done c op result s).deck = s.deck := rfl
@[simp] theorem Says.accepted_pending (s : State) (c : Cmd) (op : Nat) : (Says.accepted c op s).pending = s.pending := rfl
@[simp] theorem Says.accepted_free (s : State) (c : Cmd) (op : Nat) : (Says.accepted c op s).free = s.free := rfl
@[simp] theorem Says.accepted_pwr (s : State) (c : Cmd) (op : Nat) : (Says.accepted c op s).pwr = s.pwr := rfl
@[simp] theorem Says.accepted_tm (s : State) (c : Cmd) (op : Nat) : (Says.accepted c op s).tm = s.tm := rfl
@[simp] theorem Says.accepted_md (s : State) (c : Cmd) (op : Nat) : (Says.accepted c op s).md = s.md := rfl
@[simp] theorem Says.accepted_boot (s : State) (c : Cmd) (op : Nat) : (Says.accepted c op s).boot = s.boot := rfl
@[simp] theorem Says.accepted_chk (s : State) (c : Cmd) (op : Nat) : (Says.accepted c op s).chk = s.chk := rfl
@[simp] theorem Says.accepted_pair (s : State) (c : Cmd) (op : Nat) : (Says.accepted c op s).pair = s.pair := rfl
@[simp] theorem Says.accepted_log (s : State) (c : Cmd) (op : Nat) : (Says.accepted c op s).log = s.log := rfl
@[simp] theorem Says.accepted_trust (s : State) (c : Cmd) (op : Nat) : (Says.accepted c op s).trust = s.trust := rfl
@[simp] theorem Says.accepted_nodeId (s : State) (c : Cmd) (op : Nat) : (Says.accepted c op s).nodeId = s.nodeId := rfl
@[simp] theorem Says.accepted_mot (s : State) (c : Cmd) (op : Nat) : (Says.accepted c op s).mot = s.mot := rfl
@[simp] theorem Says.accepted_loop (s : State) (c : Cmd) (op : Nat) : (Says.accepted c op s).loop = s.loop := rfl
@[simp] theorem Says.accepted_acq (s : State) (c : Cmd) (op : Nat) : (Says.accepted c op s).acq = s.acq := rfl
@[simp] theorem Says.accepted_out (s : State) (c : Cmd) (op : Nat) : (Says.accepted c op s).out = s.out := rfl
@[simp] theorem Says.accepted_saf (s : State) (c : Cmd) (op : Nat) : (Says.accepted c op s).saf = s.saf := rfl
@[simp] theorem Says.accepted_prog (s : State) (c : Cmd) (op : Nat) : (Says.accepted c op s).prog = s.prog := rfl
@[simp] theorem Says.accepted_net (s : State) (c : Cmd) (op : Nat) : (Says.accepted c op s).net = s.net := rfl
@[simp] theorem Says.accepted_staged (s : State) (c : Cmd) (op : Nat) : (Says.accepted c op s).staged = s.staged := rfl
@[simp] theorem Says.accepted_deck (s : State) (c : Cmd) (op : Nat) : (Says.accepted c op s).deck = s.deck := rfl
@[simp] theorem Says.doneHbd_pending (s : State) (c : Cmd) (op result : Nat) : (Says.doneHbd c op result s).pending = s.pending := rfl
@[simp] theorem Says.doneHbd_free (s : State) (c : Cmd) (op result : Nat) : (Says.doneHbd c op result s).free = s.free := rfl
@[simp] theorem Says.doneHbd_pwr (s : State) (c : Cmd) (op result : Nat) : (Says.doneHbd c op result s).pwr = s.pwr := rfl
@[simp] theorem Says.doneHbd_tm (s : State) (c : Cmd) (op result : Nat) : (Says.doneHbd c op result s).tm = s.tm := rfl
@[simp] theorem Says.doneHbd_md (s : State) (c : Cmd) (op result : Nat) : (Says.doneHbd c op result s).md = s.md := rfl
@[simp] theorem Says.doneHbd_boot (s : State) (c : Cmd) (op result : Nat) : (Says.doneHbd c op result s).boot = s.boot := rfl
@[simp] theorem Says.doneHbd_chk (s : State) (c : Cmd) (op result : Nat) : (Says.doneHbd c op result s).chk = s.chk := rfl
@[simp] theorem Says.doneHbd_pair (s : State) (c : Cmd) (op result : Nat) : (Says.doneHbd c op result s).pair = s.pair := rfl
@[simp] theorem Says.doneHbd_log (s : State) (c : Cmd) (op result : Nat) : (Says.doneHbd c op result s).log = s.log := rfl
@[simp] theorem Says.doneHbd_trust (s : State) (c : Cmd) (op result : Nat) : (Says.doneHbd c op result s).trust = s.trust := rfl
@[simp] theorem Says.doneHbd_nodeId (s : State) (c : Cmd) (op result : Nat) : (Says.doneHbd c op result s).nodeId = s.nodeId := rfl
@[simp] theorem Says.doneHbd_mot (s : State) (c : Cmd) (op result : Nat) : (Says.doneHbd c op result s).mot = s.mot := rfl
@[simp] theorem Says.doneHbd_loop (s : State) (c : Cmd) (op result : Nat) : (Says.doneHbd c op result s).loop = s.loop := rfl
@[simp] theorem Says.doneHbd_acq (s : State) (c : Cmd) (op result : Nat) : (Says.doneHbd c op result s).acq = s.acq := rfl
@[simp] theorem Says.doneHbd_out (s : State) (c : Cmd) (op result : Nat) : (Says.doneHbd c op result s).out = s.out := rfl
@[simp] theorem Says.doneHbd_saf (s : State) (c : Cmd) (op result : Nat) : (Says.doneHbd c op result s).saf = s.saf := rfl
@[simp] theorem Says.doneHbd_prog (s : State) (c : Cmd) (op result : Nat) : (Says.doneHbd c op result s).prog = s.prog := rfl
@[simp] theorem Says.doneHbd_net (s : State) (c : Cmd) (op result : Nat) : (Says.doneHbd c op result s).net = s.net := rfl
@[simp] theorem Says.doneHbd_staged (s : State) (c : Cmd) (op result : Nat) : (Says.doneHbd c op result s).staged = s.staged := rfl
@[simp] theorem Says.doneHbd_deck (s : State) (c : Cmd) (op result : Nat) : (Says.doneHbd c op result s).deck = s.deck := rfl
@[simp] theorem Says.answerHbd_pending (s : State) (c : Cmd) (op : Nat) (st : Status) (reason : Nat) : (Says.answerHbd c op st reason s).pending = s.pending := rfl
@[simp] theorem Says.answerHbd_free (s : State) (c : Cmd) (op : Nat) (st : Status) (reason : Nat) : (Says.answerHbd c op st reason s).free = s.free := rfl
@[simp] theorem Says.answerHbd_pwr (s : State) (c : Cmd) (op : Nat) (st : Status) (reason : Nat) : (Says.answerHbd c op st reason s).pwr = s.pwr := rfl
@[simp] theorem Says.answerHbd_tm (s : State) (c : Cmd) (op : Nat) (st : Status) (reason : Nat) : (Says.answerHbd c op st reason s).tm = s.tm := rfl
@[simp] theorem Says.answerHbd_md (s : State) (c : Cmd) (op : Nat) (st : Status) (reason : Nat) : (Says.answerHbd c op st reason s).md = s.md := rfl
@[simp] theorem Says.answerHbd_boot (s : State) (c : Cmd) (op : Nat) (st : Status) (reason : Nat) : (Says.answerHbd c op st reason s).boot = s.boot := rfl
@[simp] theorem Says.answerHbd_chk (s : State) (c : Cmd) (op : Nat) (st : Status) (reason : Nat) : (Says.answerHbd c op st reason s).chk = s.chk := rfl
@[simp] theorem Says.answerHbd_pair (s : State) (c : Cmd) (op : Nat) (st : Status) (reason : Nat) : (Says.answerHbd c op st reason s).pair = s.pair := rfl
@[simp] theorem Says.answerHbd_log (s : State) (c : Cmd) (op : Nat) (st : Status) (reason : Nat) : (Says.answerHbd c op st reason s).log = s.log := rfl
@[simp] theorem Says.answerHbd_trust (s : State) (c : Cmd) (op : Nat) (st : Status) (reason : Nat) : (Says.answerHbd c op st reason s).trust = s.trust := rfl
@[simp] theorem Says.answerHbd_nodeId (s : State) (c : Cmd) (op : Nat) (st : Status) (reason : Nat) : (Says.answerHbd c op st reason s).nodeId = s.nodeId := rfl
@[simp] theorem Says.answerHbd_mot (s : State) (c : Cmd) (op : Nat) (st : Status) (reason : Nat) : (Says.answerHbd c op st reason s).mot = s.mot := rfl
@[simp] theorem Says.answerHbd_loop (s : State) (c : Cmd) (op : Nat) (st : Status) (reason : Nat) : (Says.answerHbd c op st reason s).loop = s.loop := rfl
@[simp] theorem Says.answerHbd_acq (s : State) (c : Cmd) (op : Nat) (st : Status) (reason : Nat) : (Says.answerHbd c op st reason s).acq = s.acq := rfl
@[simp] theorem Says.answerHbd_out (s : State) (c : Cmd) (op : Nat) (st : Status) (reason : Nat) : (Says.answerHbd c op st reason s).out = s.out := rfl
@[simp] theorem Says.answerHbd_saf (s : State) (c : Cmd) (op : Nat) (st : Status) (reason : Nat) : (Says.answerHbd c op st reason s).saf = s.saf := rfl
@[simp] theorem Says.answerHbd_prog (s : State) (c : Cmd) (op : Nat) (st : Status) (reason : Nat) : (Says.answerHbd c op st reason s).prog = s.prog := rfl
@[simp] theorem Says.answerHbd_net (s : State) (c : Cmd) (op : Nat) (st : Status) (reason : Nat) : (Says.answerHbd c op st reason s).net = s.net := rfl
@[simp] theorem Says.answerHbd_staged (s : State) (c : Cmd) (op : Nat) (st : Status) (reason : Nat) : (Says.answerHbd c op st reason s).staged = s.staged := rfl
@[simp] theorem Says.answerHbd_deck (s : State) (c : Cmd) (op : Nat) (st : Status) (reason : Nat) : (Says.answerHbd c op st reason s).deck = s.deck := rfl
@[simp] theorem Says.recorded_pending (s : State) (mid : Bool) (code src p0 p1 : Nat) : (Says.recorded mid code src p0 p1 s).pending = s.pending := rfl
@[simp] theorem Says.recorded_free (s : State) (mid : Bool) (code src p0 p1 : Nat) : (Says.recorded mid code src p0 p1 s).free = s.free := rfl
@[simp] theorem Says.recorded_pwr (s : State) (mid : Bool) (code src p0 p1 : Nat) : (Says.recorded mid code src p0 p1 s).pwr = s.pwr := rfl
@[simp] theorem Says.recorded_tm (s : State) (mid : Bool) (code src p0 p1 : Nat) : (Says.recorded mid code src p0 p1 s).tm = s.tm := rfl
@[simp] theorem Says.recorded_md (s : State) (mid : Bool) (code src p0 p1 : Nat) : (Says.recorded mid code src p0 p1 s).md = s.md := rfl
@[simp] theorem Says.recorded_boot (s : State) (mid : Bool) (code src p0 p1 : Nat) : (Says.recorded mid code src p0 p1 s).boot = s.boot := rfl
@[simp] theorem Says.recorded_chk (s : State) (mid : Bool) (code src p0 p1 : Nat) : (Says.recorded mid code src p0 p1 s).chk = s.chk := rfl
@[simp] theorem Says.recorded_pair (s : State) (mid : Bool) (code src p0 p1 : Nat) : (Says.recorded mid code src p0 p1 s).pair = s.pair := rfl
@[simp] theorem Says.recorded_hbd (s : State) (mid : Bool) (code src p0 p1 : Nat) : (Says.recorded mid code src p0 p1 s).hbd = s.hbd := rfl
@[simp] theorem Says.recorded_trust (s : State) (mid : Bool) (code src p0 p1 : Nat) : (Says.recorded mid code src p0 p1 s).trust = s.trust := rfl
@[simp] theorem Says.recorded_nodeId (s : State) (mid : Bool) (code src p0 p1 : Nat) : (Says.recorded mid code src p0 p1 s).nodeId = s.nodeId := rfl
@[simp] theorem Says.recorded_mot (s : State) (mid : Bool) (code src p0 p1 : Nat) : (Says.recorded mid code src p0 p1 s).mot = s.mot := rfl
@[simp] theorem Says.recorded_loop (s : State) (mid : Bool) (code src p0 p1 : Nat) : (Says.recorded mid code src p0 p1 s).loop = s.loop := rfl
@[simp] theorem Says.recorded_acq (s : State) (mid : Bool) (code src p0 p1 : Nat) : (Says.recorded mid code src p0 p1 s).acq = s.acq := rfl
@[simp] theorem Says.recorded_out (s : State) (mid : Bool) (code src p0 p1 : Nat) : (Says.recorded mid code src p0 p1 s).out = s.out := rfl
@[simp] theorem Says.recorded_saf (s : State) (mid : Bool) (code src p0 p1 : Nat) : (Says.recorded mid code src p0 p1 s).saf = s.saf := rfl
@[simp] theorem Says.recorded_prog (s : State) (mid : Bool) (code src p0 p1 : Nat) : (Says.recorded mid code src p0 p1 s).prog = s.prog := rfl
@[simp] theorem Says.recorded_net (s : State) (mid : Bool) (code src p0 p1 : Nat) : (Says.recorded mid code src p0 p1 s).net = s.net := rfl
@[simp] theorem Says.recorded_staged (s : State) (mid : Bool) (code src p0 p1 : Nat) : (Says.recorded mid code src p0 p1 s).staged = s.staged := rfl
@[simp] theorem Says.recorded_deck (s : State) (mid : Bool) (code src p0 p1 : Nat) : (Says.recorded mid code src p0 p1 s).deck = s.deck := rfl
@[simp] theorem Says.stored_pending (s : State) (c : Cmd) (op : Nat) : (Says.stored c op s).pending = s.pending := rfl
@[simp] theorem Says.stored_pwr (s : State) (c : Cmd) (op : Nat) : (Says.stored c op s).pwr = s.pwr := rfl
@[simp] theorem Says.stored_tm (s : State) (c : Cmd) (op : Nat) : (Says.stored c op s).tm = s.tm := rfl
@[simp] theorem Says.stored_md (s : State) (c : Cmd) (op : Nat) : (Says.stored c op s).md = s.md := rfl
@[simp] theorem Says.stored_boot (s : State) (c : Cmd) (op : Nat) : (Says.stored c op s).boot = s.boot := rfl
@[simp] theorem Says.stored_chk (s : State) (c : Cmd) (op : Nat) : (Says.stored c op s).chk = s.chk := rfl
@[simp] theorem Says.stored_pair (s : State) (c : Cmd) (op : Nat) : (Says.stored c op s).pair = s.pair := rfl
@[simp] theorem Says.stored_log (s : State) (c : Cmd) (op : Nat) : (Says.stored c op s).log = s.log := rfl
@[simp] theorem Says.stored_trust (s : State) (c : Cmd) (op : Nat) : (Says.stored c op s).trust = s.trust := rfl
@[simp] theorem Says.stored_nodeId (s : State) (c : Cmd) (op : Nat) : (Says.stored c op s).nodeId = s.nodeId := rfl
@[simp] theorem Says.stored_mot (s : State) (c : Cmd) (op : Nat) : (Says.stored c op s).mot = s.mot := rfl
@[simp] theorem Says.stored_loop (s : State) (c : Cmd) (op : Nat) : (Says.stored c op s).loop = s.loop := rfl
@[simp] theorem Says.stored_acq (s : State) (c : Cmd) (op : Nat) : (Says.stored c op s).acq = s.acq := rfl
@[simp] theorem Says.stored_out (s : State) (c : Cmd) (op : Nat) : (Says.stored c op s).out = s.out := rfl
@[simp] theorem Says.stored_saf (s : State) (c : Cmd) (op : Nat) : (Says.stored c op s).saf = s.saf := rfl
@[simp] theorem Says.stored_prog (s : State) (c : Cmd) (op : Nat) : (Says.stored c op s).prog = s.prog := rfl
@[simp] theorem Says.stored_net (s : State) (c : Cmd) (op : Nat) : (Says.stored c op s).net = s.net := rfl
@[simp] theorem Says.stored_staged (s : State) (c : Cmd) (op : Nat) : (Says.stored c op s).staged = s.staged := rfl
@[simp] theorem Says.stored_deck (s : State) (c : Cmd) (op : Nat) : (Says.stored c op s).deck = s.deck := rfl

@[simp] theorem State.axis_setAxis_self (s : State) (a : Nat) (x : Axis) (h : Tab.wf s.mot.axes = true) : (s.setAxis a x).axis a = x :=
  Tab.get_set_self a x h
theorem State.axis_setAxis_ne (s : State) (a i : Nat) (x : Axis) (h : Tab.wf s.mot.axes = true) (hi : i ≠ a) :
    (s.setAxis a x).axis i = s.axis i :=
  Tab.get_set_ne hi x h
@[simp] theorem State.chan_setChan_self (s : State) (a : Nat) (x : Channel) (h : Tab.wf s.mot.chans = true) : (s.setChan a x).chan a = x :=
  Tab.get_set_self a x h
theorem State.chan_setChan_ne (s : State) (a i : Nat) (x : Channel) (h : Tab.wf s.mot.chans = true) (hi : i ≠ a) :
    (s.setChan a x).chan i = s.chan i :=
  Tab.get_set_ne hi x h
@[simp] theorem State.slot_setSlot_self (s : State) (u : Nat) (x : Slot) (h : Tab.wf s.loop.slots = true) : (s.setSlot u x).slot u = x :=
  Tab.get_set_self u x h
theorem State.slot_setSlot_ne (s : State) (u i : Nat) (x : Slot) (h : Tab.wf s.loop.slots = true) (hi : i ≠ u) :
    (s.setSlot u x).slot i = s.slot i :=
  Tab.get_set_ne hi x h
@[simp] theorem State.conv_setConv_self (s : State) (c : Nat) (x : Converter) (h : Tab.wf s.acq.conv = true) : (s.setConv c x).conv c = x :=
  Tab.get_set_self c x h
theorem State.conv_setConv_ne (s : State) (c i : Nat) (x : Converter) (h : Tab.wf s.acq.conv = true) (hi : i ≠ c) :
    (s.setConv c x).conv i = s.conv i :=
  Tab.get_set_ne hi x h
@[simp] theorem State.task_setTask_self (s : State) (t : Nat) (x : Task) (h : Tab.wf s.prog.tasks = true) : (s.setTask t x).task t = x :=
  Tab.get_set_self t x h
theorem State.task_setTask_ne (s : State) (t i : Nat) (x : Task) (h : Tab.wf s.prog.tasks = true) (hi : i ≠ t) :
    (s.setTask t x).task i = s.task i :=
  Tab.get_set_ne hi x h
@[simp] theorem State.station_setStation_self (s : State) (k : Nat) (x : Station) (h : Tab.wf s.prog.stations = true) : (s.setStation k x).station k = x :=
  Tab.get_set_self k x h
theorem State.station_setStation_ne (s : State) (k i : Nat) (x : Station) (h : Tab.wf s.prog.stations = true) (hi : i ≠ k) :
    (s.setStation k x).station i = s.station i :=
  Tab.get_set_ne hi x h
@[simp] theorem State.seqr_setSeqr_self (s : State) (q : Nat) (x : Sequencer) (h : Tab.wf s.prog.seqs = true) : (s.setSeqr q x).seqr q = x :=
  Tab.get_set_self q x h
theorem State.seqr_setSeqr_ne (s : State) (q i : Nat) (x : Sequencer) (h : Tab.wf s.prog.seqs = true) (hi : i ≠ q) :
    (s.setSeqr q x).seqr i = s.seqr i :=
  Tab.get_set_ne hi x h
@[simp] theorem State.valve_setValve_self (s : State) (v : Nat) (x : Valve) (h : Tab.wf s.out.valves = true) : (s.setValve v x).valve v = x :=
  Tab.get_set_self v x h
theorem State.valve_setValve_ne (s : State) (v i : Nat) (x : Valve) (h : Tab.wf s.out.valves = true) (hi : i ≠ v) :
    (s.setValve v x).valve i = s.valve i :=
  Tab.get_set_ne hi x h
@[simp] theorem State.pwm_setPwm_self (s : State) (n : Nat) (x : Pwm) (h : Tab.wf s.out.pwm = true) : (s.setPwm n x).pwm n = x :=
  Tab.get_set_self n x h
theorem State.pwm_setPwm_ne (s : State) (n i : Nat) (x : Pwm) (h : Tab.wf s.out.pwm = true) (hi : i ≠ n) :
    (s.setPwm n x).pwm i = s.pwm i :=
  Tab.get_set_ne hi x h
@[simp] theorem State.safeOut_setSafeOut_self (s : State) (k : Nat) (x : SafeOut) (h : Tab.wf s.saf.outs = true) : (s.setSafeOut k x).safeOut k = x :=
  Tab.get_set_self k x h
theorem State.safeOut_setSafeOut_ne (s : State) (k i : Nat) (x : SafeOut) (h : Tab.wf s.saf.outs = true) (hi : i ≠ k) :
    (s.setSafeOut k x).safeOut i = s.safeOut i :=
  Tab.get_set_ne hi x h

end Sys2Proof.Machine
end

