-- ==== Sys2Proof/WellFormed.lean ====
section
/-!
DEFINITION. Which commands are well formed: fixed-size parts have their size, instants lie inside a frame.
-/

namespace Sys2Proof

/-- An instant of a frame: 6,250 lattice points, and fewer than that again where a time step lengthens it (R57, R87). -/
def instantOk (t : Instant) : Bool := decide (t.lp < 12500)

/-- A firmware image has a 256-byte header (Table 17-2). -/
def imageOk (i : Image) : Bool := decide (i.header.length = 256)

/-- Fetched load data has at most `n` bytes. -/
def loadOk (n : Nat) : Option (List (BitVec 8)) → Bool
  | none => true
  | some d => decide (d.length ≤ n)

/-- A die reports slack for 14 regions, its eight and the FID's six, and busy points for its eight (R68, R590). -/
def dieLocalOk (d : DieLocal) : Bool := decide (d.slack.length = 14) && decide (d.busyPts.length = 8)

/-- A bulk message carries at most 4,096 bytes (R559). -/
def bulkOk : BulkDown → Bool
  | .load _ _ _ d => decide (d.length ≤ 4096)
  | .deck _ _ d => decide (d.length ≤ 4096)
  | .image _ _ d => decide (d.length ≤ 4096)

/-- The well-formedness test of a command. -/
def WellFormed (i : Instr) : Bool :=
  match i with
  | .fieldSupplyValid => true
  | .fieldSupplyLost => true
  | .hostSupplyValid => true
  | .hostSupplyLost => true
  | .perst => true
  | .functionLevelReset => true
  | .latticeLock => true
  | .refLost t => instantOk t
  | .refRestored _ t => instantOk t
  | .holdoverExpired t => instantOk t
  | .romSelfTestEnd _ _ => true
  | .hbdReady fs => fs.all fun f => imageOk f.image
  | .imageVerified _ ctl fid => imageOk ctl && imageOk fid
  | .bootEnd => true
  | .fieldReset => true
  | .frameBoundary p => decide (p.busyPts.length = 6) && decide (p.hbdBusyPts.length = 6)
  | .deadline a b => dieLocalOk a && dieLocalOk b
  | .frameDigestExchange a b _ => decide (a.length = 8) && decide (b.length = 8)
  | .replayResult _ _ => true
  | .dieFault _ _ _ _ _ _ => true
  | .eccCorrected _ => true
  | .fidFault _ _ _ => true
  | .fidRegionReturn _ => true
  | .resyncPassEnd d => decide (d ≤ 9728)
  | .pairRestored => true
  | .resyncRetry _ => true
  | .healthReport _ => true
  | .heartbeat _ => true
  | .barrierLinkDown _ _ => true
  | .barrierLinkRetrain _ => true
  | .barrierLinkUp _ => true
  | .girderDown => true
  | .girderRetrain _ => true
  | .linkControl _ => true
  | .pairWrite _ _ => true
  | .command _ _ l => loadOk 4194304 l
  | .completion => true
  | .stream _ => true
  | .event => true
  | .fieldRecorderRestart => true
  | .counterDump => true
  | .dumpCapture => true
  | .time => true
  | .ack => true
  | .boot _ => true
  | .bulkDown b => bulkOk b
  | .bulkUp _ => true
  | .diagRequest _ => true
  | .diagReply _ => true
  | .diagReplyTimeout _ _ => true
  | .modeForce _ => true
  | .modeForceReset _ => true
  | .modeForceConfigure _ => true
  | .degradedExpired => true
  | .subsysEnable _ => true
  | .redundancyCfg _ => true
  | .checkedSetupWrite _ _ => true
  | .consistencyCheckEnd _ => true
  | .slackClear _ => true
  | .governorInterval => true
  | .readVoutPoll _ t => instantOk t
  | .voutSettleTimeout t => instantOk t
  | .govRegAlert _ => true
  | .timeSet _ => true
  | .txtsRead _ => true
  | .timeStep _ => true
  | .ppsInEdge _ t => instantOk t
  | .ppsLost t => instantOk t
  | .ppsOut => true
  | .ppsOutWidthEnd t => instantOk t
  | .modeRequest _ => true
  | .axisLimits _ => true
  | .axisStops _ => true
  | .axisIo _ => true
  | .move _ => true
  | .stop _ => true
  | .override _ => true
  | .follow _ => true
  | .jog _ => true
  | .home _ => true
  | .axisStatus _ => true
  | .encoderStatus _ => true
  | .servoTick => true
  | .followMasterLost _ => true
  | .axisFeFault _ => true
  | .homeChatterWindowEnd _ => true
  | .encoderEdge _ _ _ _ _ => true
  | .indexEdge _ _ _ t => instantOk t
  | .switchEdge _ _ _ t => instantOk t
  | .switchEdgeQualified _ _ t => instantOk t
  | .trigInEdge _ _ t => instantOk t
  | .loopSlot _ => true
  | .loopStage _ => true
  | .loopTable _ => true
  | .loopSetpoint _ => true
  | .loopMode _ => true
  | .loopSet _ => true
  | .loopPreset _ => true
  | .loopOscClear _ => true
  | .loopStatus _ => true
  | .loopSlotBoundary _ => true
  | .loopInputStale _ => true
  | .adcConverter _ => true
  | .adcSequence _ => true
  | .adcDma _ => true
  | .adcStatus _ => true
  | .adcRegularTrigger _ t => instantOk t
  | .adcInjectedTrigger _ t => instantOk t
  | .converterFree _ t => instantOk t
  | .adcSlotEnd _ _ _ t => instantOk t
  | .adcTestEnd _ t => instantOk t
  | .acqTapAssign _ => true
  | .acqReduce _ => true
  | .captureCfg _ => true
  | .captureTrigger _ => true
  | .captureArm _ => true
  | .captureStop _ => true
  | .captureSample _ => true
  | .reductionIntervalEnd _ => true
  | .seqCfg _ => true
  | .seqLoad _ l => loadOk 4194304 l
  | .seqStart _ => true
  | .seqResume _ => true
  | .seqStatus _ => true
  | .stepPrepared _ t => instantOk t
  | .keystoneCommit _ => true
  | .stepEnd _ => true
  | .seqTimeout _ => true
  | .progCfg _ => true
  | .progLoad _ l => loadOk 4194304 l
  | .taskCfg _ => true
  | .progImage _ => true
  | .progMap _ => true
  | .progChange _ => true
  | .forceSet _ => true
  | .forceClear _ => true
  | .taskControl _ => true
  | .taskFlags _ => true
  | .taskStatus _ => true
  | .taskFaultRead _ => true
  | .forceRead _ => true
  | .dispatch => true
  | .opNop _ => true
  | .opTake _ => true
  | .opSignal _ _ _ => true
  | .opTrap _ _ => true
  | .opTaskno _ => true
  | .opCycflags _ => true
  | .opCycno _ => true
  | .opCtime _ => true
  | .opFrameno _ => true
  | .opPushb _ _ => true
  | .opPushh _ _ => true
  | .opPushw _ _ => true
  | .opDup _ => true
  | .opDup2 _ => true
  | .opDrop _ => true
  | .opDrop2 _ => true
  | .opSwap _ => true
  | .opSwap2 _ => true
  | .opOver _ => true
  | .opPick _ _ => true
  | .opLd32 _ _ => true
  | .opLd64 _ _ => true
  | .opLdu8 _ _ => true
  | .opLdi8 _ _ => true
  | .opLdu16 _ _ => true
  | .opLdi16 _ _ => true
  | .opSt32 _ _ => true
  | .opSt64 _ _ => true
  | .opSt8 _ _ => true
  | .opSt16 _ _ => true
  | .opLdx32 _ => true
  | .opLdx64 _ => true
  | .opLdxu8 _ => true
  | .opStx32 _ => true
  | .opStx64 _ => true
  | .opStx8 _ => true
  | .opIadd _ => true
  | .opIsub _ => true
  | .opImul _ => true
  | .opIdiv _ => true
  | .opIrem _ => true
  | .opIneg _ => true
  | .opUdiv _ => true
  | .opUrem _ => true
  | .opAnd _ => true
  | .opOr _ => true
  | .opXor _ => true
  | .opNot _ => true
  | .opShl _ => true
  | .opShr _ => true
  | .opSar _ => true
  | .opLadd _ => true
  | .opLsub _ => true
  | .opLmul _ => true
  | .opLdiv _ => true
  | .opLrem _ => true
  | .opLneg _ => true
  | .opLand _ => true
  | .opLor _ => true
  | .opLxor _ => true
  | .opLshl _ => true
  | .opLshr _ => true
  | .opLsar _ => true
  | .opFadd _ => true
  | .opFsub _ => true
  | .opFmul _ => true
  | .opFdiv _ => true
  | .opFneg _ => true
  | .opFabs _ => true
  | .opFsqrt _ => true
  | .opFrint _ => true
  | .opDadd _ => true
  | .opDsub _ => true
  | .opDmul _ => true
  | .opDdiv _ => true
  | .opDneg _ => true
  | .opDabs _ => true
  | .opDsqrt _ => true
  | .opDrint _ => true
  | .opIceq _ => true
  | .opIclt _ => true
  | .opIcle _ => true
  | .opUclt _ => true
  | .opUcle _ => true
  | .opLceq _ => true
  | .opLclt _ => true
  | .opLcle _ => true
  | .opFceq _ => true
  | .opFclt _ => true
  | .opFcle _ => true
  | .opDceq _ => true
  | .opDclt _ => true
  | .opDcle _ => true
  | .opEqz _ => true
  | .opLeqz _ => true
  | .opJmp _ _ => true
  | .opJmpl _ _ => true
  | .opBz _ _ => true
  | .opBnz _ _ => true
  | .opCall _ _ => true
  | .opRet _ => true
  | .opCallx _ => true
  | .opJtab _ _ => true
  | .opI2l _ => true
  | .opU2l _ => true
  | .opL2i _ => true
  | .opI2f _ => true
  | .opU2f _ => true
  | .opL2f _ => true
  | .opI2d _ => true
  | .opU2d _ => true
  | .opL2d _ => true
  | .opF2i _ => true
  | .opF2l _ => true
  | .opD2i _ => true
  | .opD2u _ => true
  | .opD2l _ => true
  | .opF2d _ => true
  | .opD2f _ => true
  | .opSel _ => true
  | .opLimit _ => true
  | .opBound _ => true
  | .opMove _ => true
  | .opFill _ => true
  | .opLdbit _ _ _ => true
  | .opStbit _ _ _ => true
  | .netSystem _ => true
  | .netNodes _ => true
  | .netSlots _ => true
  | .netPubs _ => true
  | .netLocal _ => true
  | .netSend _ l => loadOk 1500 l
  | .netPortStatus _ => true
  | .netNodeMap _ => true
  | .networkCycle => true
  | .staticSlotSend _ => true
  | .dynamicFrameSend _ _ => true
  | .benandFrameRx _ rx => decide (rx.header.length = 32) && decide (rx.payload.length ≤ 1500) && instantOk rx.t
  | .pierStartDelimiter _ _ hdr t => decide (hdr.length = 32) && instantOk t
  | .slotEndCut _ _ t => instantOk t
  | .probeReq _ _ t => instantOk t
  | .probeReqRx _ _ _ t => instantOk t
  | .probeRsp _ _ _ _ t => instantOk t
  | .netPortDown _ _ _ => true
  | .coldstartOffer => true
  | .netColdstartFail => true
  | .coldstartLockRelease _ t => instantOk t
  | .pairSwap _ => true
  | .dieRetry _ => true
  | .diagInject _ _ => true
  | .valveCfg _ => true
  | .pwmCfg _ => true
  | .safetyUnlock _ => true
  | .unlockLockoutEnd => true
  | .safetyCommit _ => true
  | .safetyCancel _ => true
  | .safetyPassword _ => true
  | .safetySessionTimeout => true
  | .safetyAck _ => true
  | .safeSelect _ => true
  | .safetyGlobal _ => true
  | .safetyInput _ => true
  | .safetyOutput _ => true
  | .safetyAxis _ => true
  | .safetySlp _ => true
  | .safetyAxisStatus _ => true
  | .safetyLogRead _ => true
  | .safetyInputAccept _ _ _ _ t => instantOk t
  | .safetyDiscrepancy _ t => instantOk t
  | .safetyVerdictExchange _ => true
  | .ss1Standstill _ => true
  | .ss1Timeout _ => true
  | .safetyEdmFault _ t => instantOk t
  | .safetyChannelRestored _ => true
  | .outputTestStart _ t => instantOk t
  | .outputTestEnd _ _ _ t => instantOk t
  | .outputReadback _ t => instantOk t
  | .outputUntested _ t => instantOk t
  | .valveFaultClear _ _ => true
  | .pwmPeriodStart _ t => instantOk t
  | .pwmHighEnd _ t => instantOk t
  | .trustSvnCommit _ => true
  | .trustProvision _ l => loadOk 96 l
  | .attest _ => true
  | .identityCert _ => true
  | .debugChallenge _ => true
  | .debugChallengeExpiry t => instantOk t
  | .debugUnlock _ l => loadOk 192 l
  | .debugLock _ => true
  | .debugScopeExpiry t => instantOk t
  | .abort _ => true
  | .nop _ => true
  | .dmaToDeck _ => true
  | .dmaFromDeck _ => true
  | .hdmaDescriptorFetched _ _ => true
  | .hdmaDataDone _ d => decide (d.length ≤ 16777216)
  | .hdmaBusError _ _ _ => true
  | .hdmaPause _ => true
  | .hdmaPauseClear _ => true
  | .hdmaResume _ => true
  | .fdmaPause _ => true
  | .fdmaResume _ => true
  | .counterSelect _ => true
  | .counterDumpCfg _ => true
  | .preciseCfg _ => true
  | .dbPoll _ => true
  | .doorbellPoll p _ => decide (p.sqTail.length = 32) && decide (p.cqHead.length = 32) && p.entries.all fun e => decide (e.1 < 32)
  | .doorbellBusError _ => true
  | .submissionReadFail _ _ => true
  | .ringErrClear _ => true
  | .sessionCtrlClose _ => true
  | .hostSessionClosed => true
  | .ringIrqDelay _ _ => true
  | .readyStatusClr _ => true
  | .violInfoClr _ => true
  | .lowHalfRead _ _ => true
  | .pairWindowRead _ => true
  | .setupWrite _ _ _ => true
  | .unsupportedAccess _ _ _ => true
  | .accumulatorStrobe t => instantOk t
  | .hbdFault _ _ _ => true
  | .pmbusNack t => instantOk t
  | .perstRelease => true
  | .tapInstruction _ _ => true

end Sys2Proof
end

