-- ==== Sys2Proof/Tests/Slice0.lean ====
section
/-!
SUPPORT. Tests: what `WellFormed` refuses, a few steps with values that the spec gives, and for every statement that has hypotheses a
theorem `meets_...` that shows, clause by clause and at the bounds of their ranges, a command and a state that meet the hypotheses
together. A statement that puts several groups of commands together has one such theorem for each group.
-/

namespace Sys2Proof.Tests
set_option Elab.async false
open Sys2Proof.Machine Sys2Proof.Says

/-- The argument area with fields at byte offsets, of byte lengths. -/
def args (l : List (Nat × Nat × Int)) : BitVec 384 :=
  BitVec.ofNat 384 (l.foldl (fun n q => n + (q.2.2 % 2 ^ (8 * q.2.1)).toNat * 2 ^ (8 * q.1)) 0)

/-- A frame header of 32 bytes with fields at byte offsets, of byte lengths. -/
def header (l : List (Nat × Nat × Nat)) : Bytes :=
  Bits.toLe 32 (l.foldl (fun n q => n + q.2.2 * 2 ^ (8 * q.1)) 0)

/-- A command for a unit of a region of the pair. -/
def cmd (region unit : Nat) (l : List (Nat × Nat × Int)) : Cmd :=
  { session := 7, sq := 3, flags := 1, rsv3 := 0, tag := 0x1234, loc := BitVec.ofNat 32 (mkLoc 0 1 region unit 0)
    rsv12 := 0, args := args l }

/-- A command for the HBD. -/
def hcmd (region unit : Nat) (l : List (Nat × Nat × Int)) : Cmd :=
  { cmd region unit l with flags := 0, loc := BitVec.ofNat 32 (mkLoc 0 0 region unit 0) }

/-- A pair in step in a mode with subsystems enabled, both links up and a session open. -/
def st (m : Mode) (en : Nat) : State :=
  { State.reset with
    pwr := { fieldValid := true, hostValid := true, perst := false, hbdReady := true }
    md := { mode := m, cause := 0, resetCause := 0 }
    tm := { lock := true, frame := 64000, first := 64000, lp := 400000000 }
    boot := { cda := { st := 3, verified := true }, cdb := { st := 3, verified := true }, fidOk := true, ended := true }
    chk := { enable := en }
    pair := { st := 1, active := 1, linkA := true, linkB := true, cda := { channel := true }, cdb := { channel := true } }
    hbd := { sess := 1, sessNum := 7, pollEn := true } }

/-- As `st` before BOOT has ended. -/
def boot : State :=
  { st .boot 0 with boot := { cda := { st := 2 }, cdb := { st := 2 }, fidOk := true }, pair := {} }

/-- A step directory entry that names one action entry or none (Table 9-2). -/
def dirEntry (nent kind a timeout onTimeout : Nat) : Bytes :=
  Bits.toLe 4 0 ++ Bits.toLe 2 nent ++ Bits.toLe 2 kind ++ Bits.toLe 12 a ++ Bits.toLe 4 timeout ++ Bits.toLe 8 onTimeout

/-- An action entry (Table 9-4). -/
def action (kind target value : Nat) : Bytes := Bits.toLe 4 kind ++ Bits.toLe 4 target ++ Bits.toLe 8 value

/-- A Deck with a recipe table at 0 whose header is left zero. -/
def recipeDeck (steps : List Bytes) (act : Bytes) : Mem := Mem.write [] 32 (steps.flatten ++ act)

/-- A recipe file of one step that waits for condition bit 5. -/
def recipeFile : Bytes :=
  Bits.toLe 4 1 ++ Bits.toLe 4 0 ++ Bits.toLe 4 2157811017 ++ Bits.toLe 4 0 ++ List.replicate 16 0 ++ dirEntry 0 1 5 9 0xFFFF

/-- A program file of one instruction of task 1. -/
def programFile : Bytes :=
  Bits.toLe 4 0x53544E4C ++ Bits.toLe 4 1 ++ Bits.toLe 4 112 ++ Bits.toLe 4 3486972131 ++ Bits.toLe 20 4 ++ Bits.toLe 28 2 ++
    Bits.toLe 4 1 ++ Bits.toLe 4 96 ++ Bits.toLe 8 4 ++ Bits.toLe 4 5 ++ Bits.toLe 4 100 ++ Bits.toLe 8 12 ++ Bits.toLe 4 1 ++
    Bits.toLe 8 0 ++ Bits.toLe 4 4

/-- A cycle of task 5 on engine 15 at offset 64 of the code. -/
def cyc (stack : List Nat) : Cycle := { num := 4294967297, b := 64000, ns := 2 ^ 33 + 7, flags := 6, engine := some 15, pc := 64, stack := stack }

/-- A machine whose engine 15 runs a cycle of task 5 with instruction bytes at its pc. -/
def lint (code : Bytes) (c : Cycle) : State :=
  { st .run 4095 with
    deck := Mem.write (Mem.write (Mem.write [] 4160 code) 4352 [1, 0, 0, 0, 80, 0, 0, 0, 96]) 4416 [1, 130, 3, 200, 5, 6, 7, 8]
    prog := {
      base := 4096, sizeLog2 := 16
      image := { given := true, codeSize := 256, constSize := 64, dataSize := 256, sharedSize := 64, imageSize := 64
                 tasks := [(5, 64, 128)], owners := [(5, 0, 64)], funcs := [80] }
      tasks := [(5, {
        cfg := { given := true, budget := 1, dataSize := 256, imgIn := 0, imgOut := 0 }
        outMap := [(0, { kind := 16, typ := 5, off := 7 })], started := true, cyc := some c })] } }

/-- A SAFETY_UNLOCK with a password of eight characters. -/
def unlockCmd : Cmd := cmd 6 0 [(0, 1, 8), (4, 4, 4294967295), (8, 8, 0x7E20313233343536)]

/-- An edit session on a valid configuration. -/
def goodEdit : SafeSession :=
  { edit := [(0, Bits.ofLe (header [(0, 1, 5), (1, 1, 8), (2, 2, 10), (4, 2, 200), (6, 2, 50), (8, 2, 100), (10, 2, 10), (12, 1, 1)]))]
    operator := 4294967295 }

/-- The state a command leaves; the reset state where it leaves none. -/
def after (o : Answer) : State :=
  match o with
  | .next t => t
  | _ => State.reset

/-- A command with every operand zero. -/
def bare : Cmd := cmd 0 0 []

/-- Values of a frame that are as a die reports them. -/
def locals : DieLocal := ⟨[], [], List.replicate 14 ⟨0, none⟩, 0, 0, List.replicate 8 0, [], 0, 0, []⟩

/-- A bus read of the doorbell page of the right size. -/
def page : DoorbellPage := { session := 0, sqTail := List.replicate 32 0, cqHead := List.replicate 32 0, entries := [] }

/-! An ill-formed command for each check of `WellFormed`, and a well-formed one beside it. -/

theorem test_wf_pps_instant : WellFormed (.ppsInEdge true ⟨12500, 0⟩) = false ∧ WellFormed (.ppsInEdge true ⟨12499, 7⟩) = true := by
  decide +kernel
theorem test_wf_index_instant : WellFormed (.indexEdge 0 true 0 ⟨12500, 0⟩) = false := by decide +kernel
theorem test_wf_switch_instant : WellFormed (.switchEdge 0 .home true ⟨12500, 0⟩) = false := by decide +kernel
theorem test_wf_trigger_instant : WellFormed (.trigInEdge 0 true ⟨12500, 0⟩) = false := by decide +kernel
theorem test_wf_converter_instants :
    WellFormed (.adcRegularTrigger 0 ⟨12500, 0⟩) = false ∧ WellFormed (.adcInjectedTrigger 0 ⟨12500, 0⟩) = false ∧
      WellFormed (.converterFree 0 ⟨12500, 0⟩) = false ∧ WellFormed (.adcSlotEnd 0 ⟨0, 0⟩ ⟨0, 0⟩ ⟨12500, 0⟩) = false ∧
      WellFormed (.adcTestEnd 0 ⟨12500, 0⟩) = false := by decide +kernel
theorem test_wf_output_instants :
    WellFormed (.outputTestStart (.valve 0) ⟨12500, 0⟩) = false ∧ WellFormed (.pwmPeriodStart 0 ⟨12500, 0⟩) = false ∧
      WellFormed (.pwmHighEnd 0 ⟨12500, 0⟩) = false ∧ WellFormed (.outputTestEnd (.valve 0) true true ⟨12500, 0⟩) = false ∧
      WellFormed (.outputReadback (.valve 0) ⟨12500, 0⟩) = false ∧ WellFormed (.outputUntested (.valve 0) ⟨12500, 0⟩) = false ∧
      WellFormed (.accumulatorStrobe ⟨12500, 0⟩) = false := by decide +kernel
theorem test_wf_time_instants :
    WellFormed (.refLost ⟨12500, 0⟩) = false ∧ WellFormed (.refRestored 0 ⟨12500, 0⟩) = false ∧
      WellFormed (.holdoverExpired ⟨12500, 0⟩) = false ∧ WellFormed (.readVoutPoll 0 ⟨12500, 0⟩) = false ∧
      WellFormed (.voutSettleTimeout ⟨12500, 0⟩) = false ∧ WellFormed (.pmbusNack ⟨12500, 0⟩) = false ∧
      WellFormed (.ppsLost ⟨12500, 0⟩) = false ∧ WellFormed (.ppsOutWidthEnd ⟨12500, 0⟩) = false := by decide +kernel
theorem test_wf_waiting_instants :
    WellFormed (.switchEdgeQualified 0 .home ⟨12500, 0⟩) = false ∧ WellFormed (.stepPrepared 0 ⟨12500, 0⟩) = false ∧
      WellFormed (.debugChallengeExpiry ⟨12500, 0⟩) = false ∧ WellFormed (.debugScopeExpiry ⟨12500, 0⟩) = false := by
  decide +kernel
theorem test_wf_safety_instants :
    WellFormed (.safetyInputAccept 0 true true 0 ⟨12500, 0⟩) = false ∧ WellFormed (.safetyDiscrepancy 0 ⟨12500, 0⟩) = false ∧
      WellFormed (.safetyEdmFault 0 ⟨12500, 0⟩) = false := by decide +kernel
theorem test_wf_field_inputs :
    WellFormed (.frameBoundary ⟨0, 0, [], [], [], List.replicate 6 0⟩) = false ∧
      WellFormed (.frameBoundary ⟨0, 0, [], List.replicate 6 0, [], []⟩) = false := by decide +kernel
theorem test_wf_port_instants :
    WellFormed (.probeReq true 0 ⟨12500, 0⟩) = false ∧ WellFormed (.probeReqRx true 0 0 ⟨12500, 0⟩) = false ∧
      WellFormed (.probeRsp true 0 0 0 ⟨12500, 0⟩) = false ∧ WellFormed (.slotEndCut true 0 ⟨12500, 0⟩) = false ∧
      WellFormed (.coldstartLockRelease true ⟨12500, 0⟩) = false ∧
      WellFormed (.pierStartDelimiter true 0 (List.replicate 32 0) ⟨12500, 0⟩) = false ∧
      WellFormed (.pierStartDelimiter true 0 [] ⟨0, 0⟩) = false := by decide +kernel
theorem test_wf_frame :
    WellFormed (.benandFrameRx true ⟨[], [], true, 0, ⟨0, 0⟩⟩) = false ∧
      WellFormed (.benandFrameRx true ⟨List.replicate 32 0, List.replicate 1501 0, true, 0, ⟨0, 0⟩⟩) = false ∧
      WellFormed (.benandFrameRx true ⟨List.replicate 32 0, [], true, 0, ⟨12500, 0⟩⟩) = false := by decide +kernel
theorem test_wf_image :
    WellFormed (.imageVerified .cda ⟨[], []⟩ ⟨List.replicate 256 0, []⟩) = false ∧
      WellFormed (.imageVerified .cda ⟨List.replicate 256 0, []⟩ ⟨[], []⟩) = false := by decide +kernel
theorem test_wf_deadline :
    WellFormed (.deadline { locals with slack := [] } locals) = false ∧
      WellFormed (.deadline locals { locals with busyPts := [] }) = false ∧ WellFormed (.deadline locals locals) = true := by
  decide +kernel
theorem test_wf_digests :
    WellFormed (.frameDigestExchange [] (List.replicate 8 0) true) = false ∧
      WellFormed (.frameDigestExchange (List.replicate 8 0) [] true) = false := by decide +kernel
theorem test_wf_dirty_blocks : WellFormed (.resyncPassEnd 9729) = false ∧ WellFormed (.resyncPassEnd 9728) = true := by
  decide +kernel
theorem test_wf_bulk :
    WellFormed (.bulkDown (.load 0 0 0 (List.replicate 4097 0))) = false ∧
      WellFormed (.bulkDown (.deck 0 0 (List.replicate 4097 0))) = false ∧
      WellFormed (.bulkDown (.image .cda 0 (List.replicate 4097 0))) = false := by decide +kernel
theorem test_wf_small_loads :
    WellFormed (.trustProvision bare (some (List.replicate 97 0))) = false ∧
      WellFormed (.debugUnlock bare (some (List.replicate 193 0))) = false ∧
      WellFormed (.netSend bare (some (List.replicate 1501 0))) = false ∧ WellFormed (.netSend bare none) = true := by
  decide +kernel
theorem test_wf_page :
    WellFormed (.doorbellPoll { page with sqTail := [] } 0) = false ∧ WellFormed (.doorbellPoll { page with cqHead := [] } 0) = false ∧
      WellFormed (.doorbellPoll { page with entries := [(32, [])] } 0) = false ∧ WellFormed (.doorbellPoll page 0) = true := by
  decide +kernel

/-! Loads and data of 4 MiB and of 16 MiB are judged by their length alone. -/

theorem test_wf_long_loads (d : List (BitVec 8)) (h : 4194304 < d.length) :
    WellFormed (.seqLoad bare (some d)) = false ∧ WellFormed (.progLoad bare (some d)) = false ∧
      WellFormed (.command 0 bare (some d)) = false := by
  have h' : ¬ d.length ≤ 4194304 := by omega
  simp [WellFormed, loadOk, h']
theorem test_wf_dma_data (d : List (BitVec 8)) (h : 16777216 < d.length) : WellFormed (.hdmaDataDone 0 d) = false := by
  have h' : ¬ d.length ≤ 16777216 := by omega
  simp [WellFormed, h']
theorem test_wf_recorder_images (f : FlashEntry) (h : f.image.header = []) : WellFormed (.hbdReady [f]) = false := by
  simp [WellFormed, imageOk, h]

/-! Steps, and values that the spec or a published standard gives. -/

/-- No row of the table gives a word any bits. -/
theorem test_no_word_decodes (n w : Nat) : decodeTableWord n w = none := rfl
/-- An empty queue idles. -/
theorem test_step_idles : step (st .run 0) = .next (st .run 0) := by rfl
/-- A lost reference at the front of the queue is taken from it and starts holdover. -/
theorem test_step_takes_the_front :
    (after (step { st .run 0 with pending := [.refLost ⟨0, 0⟩, .refLost ⟨1, 0⟩] })).pending = [.refLost ⟨1, 0⟩] := by decide +kernel
/-- The spec's example of a Locator: 3.CDA.Loop.412, and its event source. -/
theorem test_locator_example : mkLoc 3 1 2 412 0 = 0x01A99C00 ∧ mkSrc 1 2 412 = 0x299C := by decide +kernel
/-- The spec's example of a boundary's frame number: a second and a half after a second. -/
theorem test_due_example :
    (Time.due { frame := 121181184032000, first := 121181184032000 } 256 0 = true) ∧
      (Time.due { frame := 121181184032000, first := 121181184032000 } 2 0 = true) := by decide +kernel
/-- The spec's interlock task: TRIPS goes from 57 to 58 and is stored. -/
theorem test_iadd_example :
    ((after (exec (.opIadd 15) (lint [0x30] (cyc [1, 57])))).task 5).cyc.map (·.stack) = some [58] := by decide +kernel
theorem test_st32_example :
    Mem.readLe (after (exec (.opSt32 15 0x20000040) (lint [0x26, 0x40, 0, 0, 0x20] (cyc [58])))).deck 4480 4 = 58 := by
  decide +kernel
/-- BNZ +21 is not taken on a zero cell. -/
theorem test_bnz_example :
    ((after (exec (.opBnz 15 21) (lint [0x73, 0x15, 0] (cyc [0])))).task 5).cyc.map (·.pc) = some 67 := by decide +kernel
/-- The check value of CRC-32C over the digits 1 to 9. -/
theorem test_crc32c_check :
    Crypto.crc32c [0x31, 0x32, 0x33, 0x34, 0x35, 0x36, 0x37, 0x38, 0x39] = 0xE3069283 := by decide +kernel
/-- SHA-512 of "abc", the example of FIPS 180-4: its first and last eight bytes. -/
theorem test_sha512_abc :
    (Crypto.sha512 [0x61, 0x62, 0x63]).take 8 = [0xDD, 0xAF, 0x35, 0xA1, 0x93, 0x61, 0x7A, 0xBA] ∧
      (Crypto.sha512 [0x61, 0x62, 0x63]).drop 56 = [0x2A, 0x9A, 0xC9, 0x4F, 0xA5, 0x4C, 0xA4, 0x9F] := by decide +kernel
/-- The spec's snapshot taken while the mirror writes: of the five slots it shows, the reader keeps the first and the last. -/
theorem test_snapshot_example :
    (let r (q : Nat) : Nat := Ops.recBytes { seq := q, sec := 0, ns := 0, code := 0, src := 0, p0 := 0, p1 := 0 }
     RecOps.snapshot 256 3 3 0x10A37 0x10A3A [r 0x10A37, r 0x10A38, r 0x10A39 - 2 ^ 230, r 0x1093A, r 0x1093B] =
       some [r 0x10A37, r 0x1093B]) := by decide +kernel

/-! The hypotheses of the statements can be met. -/

theorem meets_FieldSupplyAndReset :
  (∃ s : State, s.pwr.fieldValid = false) ∧
  (∃ s : State, s.pwr.fieldValid = true) ∧
  (∃ s : State, s.pwr.fieldValid = true ∧ s.hbd.waiting = []) ∧
  (∃ s : State, s.md.forceReset = true ∧ s.md.stopping = false ∧ s.md.mode ∉ [Mode.commission, Mode.run, Mode.hold, Mode.degraded]) ∧
  (∃ s : State, (s.md.forceReset = false ∨ s.md.stopping = true ∨ s.md.mode ∈ [Mode.commission, Mode.run, Mode.hold, Mode.degraded])) :=
  ⟨⟨State.reset, by decide +kernel⟩,
   ⟨st .run 4095, by decide +kernel⟩,
   ⟨st .run 4095, by decide +kernel⟩,
   ⟨{ st .configure 0 with md.forceReset := true }, by decide +kernel⟩,
   ⟨st .run 4095, by decide +kernel⟩⟩

theorem meets_HostResets :
  (∃ s : State, s.pwr.hostValid = false) ∧
  (∃ s : State, s.pwr.hostValid = true) ∧
  (∃ s : State, s.pwr.perst = false) ∧
  (∃ s : State, s.pwr.hostValid = true ∧ s.pwr.perst = false) :=
  ⟨⟨{ st .run 4095 with pwr.hostValid := false }, by decide +kernel⟩,
   ⟨st .run 4095, by decide +kernel⟩,
   ⟨st .run 4095, by decide +kernel⟩,
   ⟨st .run 4095, by decide +kernel⟩⟩

theorem meets_StartUp :
  (∃ s : State, s.pwr.fieldValid = true ∧ s.tm.lock = false ∧ s.saf.crc1 = s.saf.crc2 ∧ s.boot.cda.held = false ∧ (s.pwr.hbdReady = true → s.trust.res2 = 1 ∧ s.trust.res3 = 1)) ∧
  (∃ s : State, s.boot.cda.st = 1) ∧
  (∃ s : State, s.boot.cdb.st = 1) ∧
  (∃ s : State, s.tm.lock = true) ∧
  (∃ s : State, ∃ d : FieldDie, d ≠ .fid ∧ (if d = .cda then s.boot.cda else s.boot.cdb).st = 1 ∧ s.md.mode = .boot) ∧
  (∃ s : State, s.pwr.hostValid = true ∧ s.pwr.perst = false ∧ s.pwr.hbdReady = false) ∧
  (∃ s : State, ∃ ctl : Image, ∃ fid : Image, s.md.mode = .boot ∧ s.pwr.hbdReady = true ∧ s.boot.cda.st = 2 ∧ s.boot.cda.verified = false ∧ s.boot.cda.img = ctl.header ++ ctl.body ++ (fid.header ++ fid.body)) ∧
  (∃ s : State, ∃ ctl : Image, ∃ fid : Image, s.md.mode = .boot ∧ s.pwr.hbdReady = true ∧ s.boot.cdb.st = 2 ∧ s.boot.cdb.verified = false ∧ s.boot.cdb.img = ctl.header ++ ctl.body ++ (fid.header ++ fid.body)) ∧
  (∃ s : State, s.tm.lock = true ∧ s.pwr.hostValid = true ∧ s.pwr.perst = false ∧ s.boot.ended = false) ∧
  (∃ s : State, s.tm.lock = true ∧ s.pwr.hostValid = true ∧ s.pwr.perst = false ∧ s.boot.ended = false) ∧
  (∃ m : LinkCtl, m ∈ [LinkCtl.sessionOpen, .release]) ∧
  (∃ m : LinkCtl, m ∈ [LinkCtl.sessionClose, .hold, .hostReset]) ∧
  (∃ s : State, s.boot.cda.st = 2 ∧ s.boot.cda.verified = false) ∧
  (∃ s : State, s.md.mode = .boot ∧ s.boot.cdb.st = 2 ∧ s.pwr.hbdReady = true ∧ s.boot.cdb.verified = false ∧ s.boot.cdb.img ≠ []) :=
  ⟨⟨{ State.reset with pwr.fieldValid := true }, by decide +kernel⟩,
   ⟨{ boot with boot.cda := { st := 1 } }, by decide +kernel⟩,
   ⟨{ boot with boot.cdb := { st := 1 } }, by decide +kernel⟩,
   ⟨boot, by decide +kernel⟩,
   ⟨{ boot with boot.cdb := { st := 1, fails := 1 } }, .cdb, by decide +kernel⟩,
   ⟨{ boot with pwr.hbdReady := false }, by decide +kernel⟩,
   ⟨boot, ⟨[], []⟩, ⟨[], []⟩, by decide +kernel⟩,
   ⟨boot, ⟨[], []⟩, ⟨[], []⟩, by decide +kernel⟩,
   ⟨boot, by decide +kernel⟩,
   ⟨boot, by decide +kernel⟩,
   ⟨.release, by decide +kernel⟩,
   ⟨.hold, by decide +kernel⟩,
   ⟨boot, by decide +kernel⟩,
   ⟨{ boot with boot.cdb.img := [1] }, by decide +kernel⟩⟩

theorem meets_ModeRequestMakesListedTransitions :
  (∃ c : Cmd, ∃ s : State, ∃ new : Mode, Names c s 7 ∧ c.unit = 0 ∧ Rest c 1 ∧ Arg.u c 0 1 = new.code ∧ Allowed s s.md.mode new) :=
  ⟨cmd 7 0 [(0, 1, 5)], st .run 4095, .hold, by decide +kernel⟩

theorem meets_PresentModeRequestChangesNothing :
  (∃ c : Cmd, ∃ s : State, Names c s 7 ∧ c.unit = 0 ∧ Rest c 1 ∧ s.md.mode ∈ [Mode.configure, .commission, .run, .hold, .safeStop] ∧ Arg.u c 0 1 = s.md.mode.code) ∧
  (∃ c : Cmd, ∃ s : State, c.unit = 0 ∧ s.md.mode ∉ [Mode.reset, .boot] ∧ (Arg.u c 0 1 ∈ [0, 1, 6] ∨ 7 < Arg.u c 0 1)) :=
  ⟨⟨cmd 7 0 [(0, 1, 7)], st .safeStop 4095, by decide +kernel⟩,
   ⟨cmd 7 0 [(0, 1, 8)], st .run 4095, by decide +kernel⟩⟩

theorem meets_ModeForceActs :
  (∃ s : State, ∃ v : BitVec 32, (s.pair.linkA || s.pair.linkB) = true ∧ v.toNat % 256 = 0xC3 ∧ v.toNat / 256 % 8 = 0 ∧ s.md.mode ∈ [Mode.reset, .boot, .configure]) ∧
  (∃ s : State, ∃ v : BitVec 32, (s.pair.linkA || s.pair.linkB) = true ∧ v.toNat % 256 = 0xC3 ∧ v.toNat / 256 % 8 = 0 ∧ s.md.mode ∈ [Mode.reset, .boot, .configure]) ∧
  (∃ s : State, ∃ v : BitVec 32, (s.pair.linkA || s.pair.linkB) = true ∧ v.toNat % 256 = 0xC3 ∧ v.toNat / 256 % 8 = 0 ∧ s.md.mode ∈ [Mode.commission, .run, .hold, .degraded]) ∧
  (∃ s : State, ∃ v : BitVec 32, (s.pair.linkA || s.pair.linkB) = true ∧ v.toNat % 256 = 0xC3 ∧ v.toNat / 256 % 8 = 2 ∧ s.md.mode = .safeStop ∧ s.md.stopping = false) ∧
  (∃ s : State, ∃ v : BitVec 32, (s.pair.linkA || s.pair.linkB) = true ∧ v.toNat % 256 = 0xC3 ∧ v.toNat / 256 % 8 = 2 ∧ s.md.mode = .safeStop ∧ s.md.stopping = false) ∧
  (∃ s : State, ∃ v : BitVec 32, (s.pair.linkA || s.pair.linkB) = true ∧ v.toNat % 256 = 0xC3 ∧ v.toNat / 256 % 8 = 2 ∧ s.md.mode = .safeStop ∧ s.md.stopping = true) ∧
  (∃ s : State, s.md.mode = .degraded ∧ s.md.degLeft ≤ 1 ∧ s.md.degExpired = false) :=
  ⟨⟨st .configure 0, 0xC3#32, by decide +kernel⟩,
   ⟨st .configure 0, 0xC3#32, by decide +kernel⟩,
   ⟨st .hold 4095, 0xC3#32, by decide +kernel⟩,
   ⟨st .safeStop 4095, 0x2C3#32, by decide +kernel⟩,
   ⟨st .safeStop 4095, 0x2C3#32, by decide +kernel⟩,
   ⟨{ st .safeStop 4095 with md.stopping := true }, 0x2C3#32, by decide +kernel⟩,
   ⟨{ st .degraded 4095 with md.degLeft := 1 }, by decide +kernel⟩⟩

theorem meets_BootEndStartsThePair :
  (∃ s : State, s.md.mode = .boot ∧ s.boot.fail = false ∧ s.boot.cda.verified = true ∧ s.boot.cdb.verified = true) ∧
  (∃ s : State, s.md.mode = .boot ∧ s.boot.fail = false ∧ s.boot.cda.verified = false ∧ s.boot.cda.held = true ∧ s.boot.cdb.verified = true) :=
  ⟨⟨{ boot with boot.cda.verified := true, boot.cdb.verified := true }, by decide +kernel⟩,
   ⟨{ boot with boot.cda.held := true, boot.cdb.verified := true }, by decide +kernel⟩⟩

theorem meets_ChecksStartAndEnd :
  (∃ s : State, FieldAnswers s ∧ s.md.mode = .configure ∧ s.hbd.checkBusy = false ∧ s.chk.running = none ∧ s.chk.result = none) ∧
  (∃ s : State, FieldAnswers s ∧ s.md.mode = .configure ∧ s.hbd.checkBusy = false ∧ s.chk.running = none ∧ s.chk.result = none) ∧
  (∃ s : State, FieldAnswers s ∧ s.md.mode = .configure ∧ s.hbd.checkBusy = false ∧ s.chk.enable = 0) ∧
  (∃ s : State, FieldAnswers s ∧ s.md.mode = .configure ∧ s.hbd.checkBusy = false ∧ s.chk.enable = 0) ∧
  (∃ s : State, FieldAnswers s ∧ s.md.mode = .configure ∧ s.hbd.checkBusy = false ∧ s.chk.enable = 0) ∧
  (∃ s : State, FieldAnswers s ∧ s.md.mode = .configure ∧ s.hbd.checkBusy = false ∧ s.chk.enable = 0) ∧
  (∃ s : State, FieldAnswers s ∧ s.md.mode = .configure ∧ s.hbd.checkBusy = false ∧ s.chk.enable = 0) ∧
  (∃ s : State, FieldAnswers s ∧ s.md.mode = .configure ∧ s.hbd.checkBusy = false ∧ s.chk.enable = 0) ∧
  (∃ s : State, FieldAnswers s ∧ s.md.mode = .configure ∧ s.hbd.checkBusy = false ∧ s.chk.enable = 0) ∧
  (∃ s : State, ∃ o : BitVec 16, ∃ b : Nat, FieldAnswers s ∧ s.md.mode = .configure ∧ s.hbd.checkBusy = false ∧ s.chk.running = none ∧ s.chk.result = none ∧ (o, b) ∈ [(0x4040#16, 11), (0x404C#16, 11), (0x4048#16, 10), (0x4100#16, 0), (0x4100#16, 1), (0x4208#16, 5), (0x4280#16, 6)] ∧ s.chk.enable.testBit b = true) ∧
  (∃ s : State, ∃ m : CheckMeas, ∃ o : CheckOf, s.chk.running = some o ∧ m.standbyDiffers = false) :=
  ⟨⟨st .configure 0, by decide +kernel⟩,
   ⟨st .configure 0, by decide +kernel⟩,
   ⟨st .configure 0, by decide +kernel⟩,
   ⟨st .configure 0, by decide +kernel⟩,
   ⟨st .configure 0, by decide +kernel⟩,
   ⟨st .configure 0, by decide +kernel⟩,
   ⟨st .configure 0, by decide +kernel⟩,
   ⟨st .configure 0, by decide +kernel⟩,
   ⟨st .configure 0, by decide +kernel⟩,
   ⟨st .configure 0x40, 0x4280#16, 6, by decide +kernel⟩,
   ⟨{ st .configure 0 with chk.running := some (.redundancy 0x88000) }, { overBudget := none, voutMode := none, standbyDiffers := false }, .redundancy 0x88000, by decide +kernel⟩⟩

theorem meets_HoldoverFollowsTheReference :
  (∃ s : State, s.tm.lock = true ∧ s.tm.holdover = false) ∧
  (∃ s : State, ∃ d : Int, ∃ i : Instant, s.tm.holdover = true ∧ -100000 ≤ d ∧ d ≤ 100000 ∧ s.tm.lostAt + 400000 ≤ s.tm.lp + i.lp) ∧
  (∃ s : State, ∃ d : Int, ∃ i : Instant, (d < -100000 ∨ 100000 < d ∨ s.tm.lp + i.lp < s.tm.lostAt + 400000)) ∧
  (∃ s : State, ∃ i : Instant, s.tm.holdover = true ∧ s.tm.expired = false ∧ s.tm.lostAt + s.tm.latticeCfg.toNat / 2 ^ 16 % 2 ^ 12 * 400000 ≤ s.tm.lp + i.lp) ∧
  (∃ s : State, ∃ i : Instant, (s.tm.holdover = false ∨ s.tm.expired = true ∨ s.tm.lp + i.lp < s.tm.lostAt + s.tm.latticeCfg.toNat / 2 ^ 16 % 2 ^ 12 * 400000)) :=
  ⟨⟨st .run 4095, by decide +kernel⟩,
   ⟨{ st .run 4095 with tm.holdover := true }, -100000, ⟨6000, 0⟩, by decide +kernel⟩,
   ⟨{ st .run 4095 with tm.holdover := true }, 100001, ⟨6000, 0⟩, by decide +kernel⟩,
   ⟨{ st .run 4095 with tm.holdover := true, tm.latticeCfg := 0x10000#32 }, ⟨6000, 0⟩, by decide +kernel⟩,
   ⟨{ st .run 4095 with tm.holdover := true, tm.expired := true }, ⟨6000, 0⟩, by decide +kernel⟩⟩

theorem meets_GovernorAndSlackRows :
  (∃ s : State, ∃ v : BitVec 32, s.boot.ended = true ∧ (s.pair.linkA || s.pair.linkB) = true ∧ s.md.mode ∉ [Mode.reset, .boot] ∧ v.toNat.testBit 0 = true) ∧
  (let target (s : State) : Int := (s.tm.slackTarget.toNat % 2 ^ 16 : Nat)
    let hyst (s : State) : Int := (10 * (s.tm.govCfg.toNat / 2 ^ 16 % 256) : Nat)
    ∃ s : State,
    s.tm.gov.enabled = true ∧ s.tm.gov.fault = false ∧ s.tm.gov.settling = false ∧ s.tm.gov.decided ≠ s.tm.frame + 1 ∧ s.tm.due (2 ^ (s.tm.govCfg.toNat / 2 ^ 12 % 16 + 4)) 0 = true ∧ s.tm.gov.minSlack < target s - hyst s) ∧
  (let target (s : State) : Int := (s.tm.slackTarget.toNat % 2 ^ 16 : Nat)
    let hyst (s : State) : Int := (10 * (s.tm.govCfg.toNat / 2 ^ 16 % 256) : Nat)
    ∃ s : State,
    s.tm.gov.enabled = true ∧ s.tm.gov.fault = false ∧ s.tm.gov.settling = false ∧ s.tm.gov.decided ≠ s.tm.frame + 1 ∧ s.tm.due (2 ^ (s.tm.govCfg.toNat / 2 ^ 12 % 16 + 4)) 0 = true ∧ target s + hyst s < s.tm.gov.minSlack ∧ s.tm.govCfg.toNat / 2 ^ 24 % 16 ≤ s.tm.gov.quiet) ∧
  (∃ s : State, s.tm.gov.decided = s.tm.frame + 1) ∧
  (∃ s : State, ∃ mv : Nat, ∃ i : Instant, s.tm.gov.enabled = true ∧ s.tm.gov.fault = false ∧ s.tm.gov.settling = true ∧ s.tm.gov.readAt + 80000 ≤ s.tm.lp + i.lp ∧ s.tm.gov.v = s.tm.gov.out ∧ mv ≤ s.tm.gov.out + 10 ∧ s.tm.gov.out ≤ mv + 10) ∧
  (∃ s : State, s.tm.gov.enabled = true ∧ s.tm.gov.fault = false ∧ s.tm.gov.retries < 3 ∧ s.tm.gov.settling = true) ∧
  (∃ s : State, ∃ i : Instant, s.tm.gov.enabled = true ∧ s.tm.gov.fault = false ∧ s.tm.gov.retries < 3 ∧ s.tm.gov.settling = true ∧ s.tm.gov.wroteAt + 400000 ≤ s.tm.lp + i.lp) ∧
  (∃ s : State, s.tm.gov.enabled = true ∧ s.tm.gov.fault = false ∧ 3 ≤ s.tm.gov.retries) ∧
  (∃ s : State, ∃ i : Instant, s.tm.gov.enabled = true ∧ s.tm.gov.fault = false ∧ 3 ≤ s.tm.gov.retries ∧ s.tm.gov.settling = true ∧ s.tm.gov.wroteAt + 400000 ≤ s.tm.lp + i.lp) ∧
  (∃ s : State, s.tm.gov.enabled = true) :=
  ⟨⟨{ st .run 4095 with tm.slack := [(8, { last := 100, min := 5 }), (17, { last := 32767, min := 3 })] }, 1#32, by decide +kernel⟩,
   ⟨{ st .run 4095 with tm.gov := { enabled := true, minSlack := 100, v := 945, out := 945 }, tm.frame := 2^19, tm.first := 2^19 }, by decide +kernel⟩,
   ⟨{ st .run 4095 with tm.gov := { enabled := true, minSlack := 20000, v := 765, out := 765, quiet := 15 }, tm.frame := 2^19, tm.first := 2^19 }, by decide +kernel⟩,
   ⟨{ st .run 4095 with tm.gov := { enabled := true, minSlack := 100, v := 945, out := 945, decided := 2^19 + 1 }, tm.frame := 2^19, tm.first := 2^19 }, by decide +kernel⟩,
   ⟨{ st .run 4095 with tm.gov := { enabled := true, settling := true, v := 850, out := 850 } }, 840, ⟨1, 0⟩, by decide +kernel⟩,
   ⟨{ st .run 4095 with tm.gov := { enabled := true, settling := true, retries := 2 } }, by decide +kernel⟩,
   ⟨{ st .run 4095 with tm.gov := { enabled := true, settling := true, retries := 2 } }, ⟨1, 0⟩, by decide +kernel⟩,
   ⟨{ st .run 4095 with tm.gov := { enabled := true, settling := true, retries := 3 } }, by decide +kernel⟩,
   ⟨{ st .run 4095 with tm.gov := { enabled := true, settling := true, retries := 3 } }, ⟨1, 0⟩, by decide +kernel⟩,
   ⟨{ st .run 4095 with tm.gov := { enabled := true } }, by decide +kernel⟩⟩

theorem meets_TimeSetMovesTheFrameNumber :
  (∃ c : Cmd, ∃ s : State, NamesPairAny c s ∧ s.md.mode ∉ [Mode.reset, .boot, .safeStop] ∧ Rest c 12 ∧ Arg.u c 8 4 < 10 ^ 9 ∧ Arg.u c 8 4 % 15625 = 0 ∧ Net.timeMaster s = true ∧ (s.enabled 6 = false ∨ (∀ n ∈ List.range 512, s.net.map.testBit n = false ∨ n = s.nodeId)) ∧ s.tm.frame < Arg.u c 0 8 * 64000 + Arg.u c 8 4 / 15625) :=
  ⟨cmd 7 0 [(0, 8, 1700000000), (8, 4, 999984375)], st .configure 0, by decide +kernel⟩

theorem meets_TxtsReadRemovesTheOldestEntry :
  (∃ c : Cmd, ∃ s : State, ∃ ch : Nat, ∃ x, ∃ l, NamesPairAny c s ∧ s.md.mode ∉ [Mode.reset, .boot] ∧ Rest c 1 ∧ Arg.u c 0 1 = ch ∧ ch = 0 ∧ s.tm.txA = x :: l) ∧
  (∃ c : Cmd, ∃ s : State, ∃ ch : Nat, ∃ x, ∃ l, NamesPairAny c s ∧ s.md.mode ∉ [Mode.reset, .boot] ∧ Rest c 1 ∧ Arg.u c 0 1 = ch ∧ ch = 1 ∧ s.tm.txB = x :: l) ∧
  (∃ c : Cmd, ∃ s : State, ∃ ch : Nat, NamesPairAny c s ∧ s.md.mode ∉ [Mode.reset, .boot] ∧ Rest c 1 ∧ Arg.u c 0 1 = ch ∧ (ch = 0 ∧ s.tm.txA = [] ∨ ch = 1 ∧ s.tm.txB = [])) ∧
  (∃ c : Cmd, ∃ s : State, s.md.mode ∉ [Mode.reset, .boot] ∧ (2 ≤ Arg.u c 0 1 ∨ ¬ Rest c 1)) :=
  ⟨⟨cmd 7 0 [(0, 1, 0)], { st .run 4095 with tm.txA := [{ time := 5000000000 * 256 + 7, id := 9 }, { time := 1, id := 2 }], tm.txB := [{ time := 256, id := 65535 }] }, 0, { time := 5000000000 * 256 + 7, id := 9 }, [{ time := 1, id := 2 }], by decide +kernel⟩,
   ⟨cmd 7 0 [(0, 1, 1)], { st .run 4095 with tm.txA := [{ time := 5000000000 * 256 + 7, id := 9 }, { time := 1, id := 2 }], tm.txB := [{ time := 256, id := 65535 }] }, 1, { time := 256, id := 65535 }, [], by decide +kernel⟩,
   ⟨cmd 7 0 [(0, 1, 1)], st .run 0, 1, by decide +kernel⟩,
   ⟨cmd 7 0 [(0, 1, 2)], st .run 0, by decide +kernel⟩⟩

theorem meets_StepsAndPulses :
  (∃ s : State, ∃ a : Int, s.tm.stepDue = some a) ∧
  (∃ s : State, ∃ r : Bool, ∃ i : Instant, TimeCmd.ppsOn r s = true ∧ s.tm.ppsLocked = false ∧ TimeCmd.othersIn s = false ∧ TimeCmd.alignment (s.tm.edge i) ≠ 0) ∧
  (∃ s : State, ∃ r : Bool, ∃ i : Instant, ∃ l : Int,
    let θ : Int := (Ops.nearestSec (s.tm.edge i) : Nat) - (s.tm.edge i : Int)
    let c : Int := (s.tm.edge i : Int) - s.tm.steps
    TimeCmd.ppsOn r s = true ∧ s.tm.ppsLocked = true ∧ s.tm.ppsLast = some l ∧ θ.natAbs ≤ 25600000 ∧ l + 128000000000 ≤ c) ∧
  (∃ s : State, ∃ r : Bool, ∃ i : Instant, ∃ l : Int,
    let θ : Int := (Ops.nearestSec (s.tm.edge i) : Nat) - (s.tm.edge i : Int)
    let c : Int := (s.tm.edge i : Int) - s.tm.steps
    TimeCmd.ppsOn r s = true ∧ s.tm.ppsLocked = true ∧ s.tm.ppsLast = some l ∧ (25600000 < θ.natAbs ∨ c < l + 128000000000)) ∧
  (∃ s : State, ∃ c : Int, ∃ i : Instant, s.tm.ppsLast = some c ∧ s.tm.ppsLocked = true ∧ c + 384000000000 ≤ (s.tm.edge i : Int) - s.tm.steps) ∧
  (∃ s : State, s.chk.enable.testBit 11 = true ∧ s.tm.latticeCfg.toNat.testBit 3 = true ∧ s.tm.frame % 64000 = 0 ∧ (∀ r ∈ s.tm.ppsDone, s.tm.frame / 64000 < r.1 ∨ r.2 < s.tm.frame / 64000)) ∧
  (∃ s : State, s.chk.enable.testBit 11 = true ∧ s.tm.latticeCfg.toNat.testBit 3 = true ∧ s.tm.frame % 64000 = 0 ∧ (∃ r ∈ s.tm.ppsDone, r.1 ≤ s.tm.frame / 64000 ∧ s.tm.frame / 64000 ≤ r.2)) ∧
  (∃ s : State, ∃ i : Instant, s.tm.ppsEnd ≤ s.tm.lp + i.lp) ∧
  (∃ s : State, ∃ i : Instant, s.tm.lp + i.lp < s.tm.ppsEnd) :=
  ⟨⟨{ st .run 4095 with tm.stepDue := some 5 }, 5, by decide +kernel⟩,
   ⟨{ st .run 4095 with tm.latticeCfg := 2#32 }, true, ⟨40, 3⟩, by decide +kernel⟩,
   ⟨{ st .run 4095 with tm.latticeCfg := 2#32, tm.ppsLocked := true, tm.ppsLast := some 0, tm.frame := 6400000 }, true, ⟨40, 3⟩, 0, by decide +kernel⟩,
   ⟨{ st .run 4095 with tm.latticeCfg := 2#32, tm.ppsLocked := true, tm.ppsLast := some 0, tm.frame := 6400000 + 32000 }, true, ⟨40, 3⟩, 0, by decide +kernel⟩,
   ⟨{ st .run 4095 with tm.ppsLocked := true, tm.ppsLast := some 0, tm.frame := 96000 - 1 }, 0, ⟨6250, 0⟩, by decide +kernel⟩,
   ⟨{ st .run 4095 with tm.latticeCfg := 0xE#32 }, by decide +kernel⟩,
   ⟨{ st .run 4095 with tm.latticeCfg := 0xE#32, tm.ppsDone := [(0, 3)] }, by decide +kernel⟩,
   ⟨{ st .run 4095 with tm.ppsOut := true }, ⟨0, 0⟩, by decide +kernel⟩,
   ⟨{ st .run 4095 with tm.ppsOut := true, tm.ppsEnd := 400000001 }, ⟨0, 0⟩, by decide +kernel⟩⟩

theorem meets_FrameBoundaryCounts :
  (∃ s : State, s.tm.lock = true ∧ s.tm.stepDue = none ∧ s.hbd.down = [] ∧ s.md.forceReset = false) :=
  ⟨st .run 4095, by decide +kernel⟩

theorem meets_NoBoundaryBeforeLock :
  (∃ s : State, s.tm.lock = false) :=
  ⟨State.reset, by decide +kernel⟩

theorem meets_DeadlineExchanges :
  (∃ s : State, s.pair.st = 1 ∧ s.pair.active = 1) ∧
  (∃ s : State, s.pair.st = 2 ∧ s.pair.active = 2) ∧
  (∃ a : DieLocal, ∃ b : DieLocal, a.missed = [] ∧ b.missed = []) :=
  ⟨⟨st .run 4095, by decide +kernel⟩,
   ⟨{ st .run 4095 with pair.st := 2, pair.active := 2 }, by decide +kernel⟩,
   ⟨⟨[], [], [], 100, 90, [], [], 1, 3, []⟩, ⟨[], [], [], 110, 95, [], [], 2, 4, []⟩, by decide +kernel⟩⟩

theorem meets_TimeMessageReportsMode :
  (∃ s : State, s.tm.lock = true ∧ (s.pair.linkA || s.pair.linkB) = true ∧ s.hbd.checkDone = none ∧ s.hbd.waiting = []) :=
  ⟨{ st .run 4095 with hbd.pairPending := [0, 1], hbd.route := [] }, by decide +kernel⟩

theorem meets_DieFaultIsFlagged :
  (∃ s : State, ∃ d : Die, computes s d) :=
  ⟨st .run 4095, .cdb, by decide +kernel⟩

theorem meets_ContainedFaults :
  (∃ s : State, ∃ d : Die, computes s d) ∧
  (∃ s : State, s.tm.lock = true) ∧
  (∃ s : State, ∃ r : Fin 6, r.val ∈ s.pair.fidReset) ∧
  (∃ s : State, ∃ r : Fin 6, r.val ∉ s.pair.fidReset) ∧
  (∃ r : Fin 6, (r.val = 0 ∨ r.val = 3 ∨ r.val = 4)) ∧
  (∃ s : State, s.hbd.gap = false) :=
  ⟨⟨{ st .run 4095 with pair.eccCorr := 65535 }, .cdb, by decide +kernel⟩,
   ⟨{ st .run 4095 with out.valves := [(9, { on := true }), (17, { on := true })] }, by decide +kernel⟩,
   ⟨{ st .run 4095 with pair.fidReset := [5] }, 5, by decide +kernel⟩,
   ⟨st .run 4095, 5, by decide +kernel⟩,
   ⟨4, by decide +kernel⟩,
   ⟨st .run 4095, by decide +kernel⟩⟩

theorem meets_DigestsAndReplay :
  (∃ s : State, ∃ a : List (BitVec 64), ∃ b : List (BitVec 64), s.pair.st = 1 ∧ a = b) ∧
  (∃ s : State, s.pair.st ≠ 1) ∧
  (∃ s : State, ∃ a : List (BitVec 64), ∃ b : List (BitVec 64), ∃ f : Bool, s.pair.st = 1 ∧ (f = true ∨ Pair.frameDigest a ≠ Pair.frameDigest b)) ∧
  (∃ s : State, ∃ a : Replay, ∃ b : Replay, ∃ q : Disagree,
    let act := if s.pair.active = 1 then a else b
    let stb := if s.pair.active = 1 then b else a
    s.pair.st = 1 ∧ (s.pair.active = 1 ∨ s.pair.active = 2) ∧ s.pair.disagree = some q ∧ q.frame ≤ s.tm.frame ∧ act = .differs ∧ stb ≠ .differs) ∧
  (∃ s : State, ∃ a : Replay, ∃ b : Replay, ∃ q : Disagree,
    let act := if s.pair.active = 1 then a else b
    let stb := if s.pair.active = 1 then b else a
    s.pair.st = 1 ∧ (s.pair.active = 1 ∨ s.pair.active = 2) ∧ s.pair.disagree = some q ∧ q.frame ≤ s.tm.frame ∧ act ≠ .differs ∧ stb = .differs) ∧
  (∃ s : State, ∃ a : Replay, ∃ b : Replay, ∃ q : Disagree,
    let act := if s.pair.active = 1 then a else b
    let stb := if s.pair.active = 1 then b else a
    s.pair.st = 1 ∧ (s.pair.active = 1 ∨ s.pair.active = 2) ∧ s.pair.disagree = some q ∧ q.frame ≤ s.tm.frame ∧ act ≠ .differs ∧ stb ≠ .differs) ∧
  (∃ s : State, ∃ a : Replay, ∃ b : Replay, ∃ q : Disagree,
    let act := if s.pair.active = 1 then a else b
    let stb := if s.pair.active = 1 then b else a
    s.pair.st = 1 ∧ (s.pair.active = 1 ∨ s.pair.active = 2) ∧ s.pair.disagree = some q ∧ q.frame ≤ s.tm.frame ∧ act = .differs ∧ stb = .differs) :=
  ⟨⟨{ st .run 4095 with pair.disagree := some ⟨64000⟩ }, [1, 2], [1, 2], by decide +kernel⟩,
   ⟨{ st .run 4095 with pair.st := 2 }, by decide +kernel⟩,
   ⟨st .run 4095, [1, 2, 3, 4, 5, 6], [1, 9, 3, 4, 5, 7], true, by decide +kernel⟩,
   ⟨{ st .run 4095 with pair.disagree := some ⟨64000⟩ }, .differs, .notJudged, ⟨64000⟩, by decide +kernel⟩,
   ⟨{ st .run 4095 with pair.disagree := some ⟨64000⟩ }, .same, .differs, ⟨64000⟩, by decide +kernel⟩,
   ⟨{ st .run 4095 with pair.disagree := some ⟨64000⟩ }, .same, .same, ⟨64000⟩, by decide +kernel⟩,
   ⟨{ st .run 4095 with pair.disagree := some ⟨64000⟩ }, .differs, .differs, ⟨64000⟩, by decide +kernel⟩⟩

theorem meets_Resynchronisation :
  (∃ s : State, ∃ n : Nat, s.pair.st = 3 ∧ s.pair.resync.cut = false ∧ s.pair.resync.cutDue = false ∧ n ≤ 256) ∧
  (∃ s : State, ∃ n : Nat, s.pair.st = 3 ∧ s.pair.resync.cut = false ∧ s.pair.resync.cutDue = false ∧ 256 < n) ∧
  (∃ s : State, s.pair.st = 3 ∧ s.pair.resync.cut = true) ∧
  (∃ s : State, (s.pair.st ≠ 3 ∨ s.pair.resync.cut = false)) ∧
  (∃ s : State, ∃ c : RetryCause, s.pair.st = 3 ∧ s.pair.tries < 2 ∧ tryOver s c) ∧
  (∃ s : State, ∃ c : RetryCause, s.pair.st = 3 ∧ 2 ≤ s.pair.tries ∧ s.pair.active = 1 ∧ tryOver s c) ∧
  (∃ s : State, ∃ c : RetryCause, s.pair.st = 3 ∧ c ≠ .selfTestFailed ∧ ¬ tryOver s c) ∧
  (∃ s : State, s.pair.st = 2 ∧ s.pair.active = 2 ∧ s.boot.cda.st ≠ 0) :=
  ⟨⟨{ st .run 4095 with pair.st := 3 }, 256, by decide +kernel⟩,
   ⟨{ st .run 4095 with pair.st := 3, pair.resync := { pass := 1, dirty := 500 } }, 257, by decide +kernel⟩,
   ⟨{ st .run 4095 with pair.st := 3, pair.resync.cut := true }, by decide +kernel⟩,
   ⟨st .run 4095, by decide +kernel⟩,
   ⟨{ st .run 4095 with pair.st := 3, pair.tries := 1, pair.resync.age := 25600 }, .timeout, by decide +kernel⟩,
   ⟨{ st .run 4095 with pair.st := 3, pair.tries := 2, pair.resync.cut := true }, .digestDiffers, by decide +kernel⟩,
   ⟨{ st .run 4095 with pair.st := 3, pair.resync := { cut := true, cutAge := 1023 } }, .fellBehind, by decide +kernel⟩,
   ⟨{ st .run 4095 with pair.st := 2, pair.active := 2 }, by decide +kernel⟩⟩

theorem meets_HealthIsReported :
  (∃ s : State, s.pair.redundancyCfg.toNat.testBit 15 = true ∧ (s.pair.st = 1 ∨ s.pair.st = 2 ∨ s.pair.st = 3) ∧ s.tm.due 6400 0 = true ∧ s.pair.healthFrame ≠ s.tm.frame + 1) ∧
  (∃ s : State, s.pair.linkA = true) ∧
  (∃ s : State, s.pair.linkB = true) ∧
  (∃ s : State, s.pair.linkA = false) ∧
  (∃ s : State, s.pair.linkB = false) :=
  ⟨⟨{ st .run 4095 with pair.redundancyCfg := 0x8000#32 }, by decide +kernel⟩,
   ⟨{ st .run 4095 with pair.quietA := 7, pair.quietB := 8 }, by decide +kernel⟩,
   ⟨{ st .run 4095 with pair.quietA := 7, pair.quietB := 8 }, by decide +kernel⟩,
   ⟨{ st .run 4095 with pair.linkA := false }, by decide +kernel⟩,
   ⟨{ st .run 4095 with pair.linkB := false }, by decide +kernel⟩⟩

theorem meets_LinksGoDownAndReturn :
  (∃ s : State, ∃ x : Bool, s.pair.linkA = true ∧ (x = true ∨ 640 ≤ s.pair.quietA)) ∧
  (∃ s : State, ∃ x : Bool, s.pair.linkB = true ∧ (x = true ∨ 640 ≤ s.pair.quietB)) ∧
  (∃ s : State, s.pair.quietA < 640) ∧
  (∃ s : State, s.pair.quietB < 640) ∧
  (∃ s : State, ∃ l : Die, (match l with | .cda => s.pair.linkA | .cdb => s.pair.linkB) = false ∧ s.pair.st ≠ 0 ∧ s.pwr.hostValid = true ∧ s.pwr.perst = false) ∧
  (∃ s : State, s.pair.girder = true ∧ (s.pair.st = 1 ∨ s.pair.st = 3) ∧ s.pair.active = 1) ∧
  (∃ s : State, s.pair.girder = true ∧ (s.pair.st = 1 ∨ s.pair.st = 3) ∧ s.pair.active = 2) ∧
  (∃ s : State, s.pair.girder = true ∧ s.pair.st = 2) :=
  ⟨⟨{ st .run 4095 with boot.cda.img := [1], pair.quietA := 3 }, true, by decide +kernel⟩,
   ⟨{ st .run 4095 with pair.linkA := false, pair.quietB := 640 }, false, by decide +kernel⟩,
   ⟨st .run 4095, by decide +kernel⟩,
   ⟨st .run 4095, by decide +kernel⟩,
   ⟨{ st .run 4095 with pair.linkA := false, pair.linkB := false, pair.hostLost := true }, .cdb, by decide +kernel⟩,
   ⟨{ st .run 4095 with pair.st := 3 }, by decide +kernel⟩,
   ⟨{ st .run 4095 with pair.active := 2 }, by decide +kernel⟩,
   ⟨{ st .run 4095 with pair.st := 2 }, by decide +kernel⟩⟩

theorem meets_PairCommands :
  (∃ c : Cmd, ∃ s : State, Names c s 7 ∧ c.unit = 0 ∧ Rest c 0 ∧ s.md.mode ∈ [Mode.configure, .commission, .run, .hold] ∧ s.pair.decided ≠ s.tm.frame + 1 ∧ s.pair.st = 1) ∧
  (∃ c : Cmd, ∃ s : State, Names c s 7 ∧ c.unit = 0 ∧ Rest c 0 ∧ s.md.mode ∉ [Mode.reset, .boot] ∧ s.pair.decided = s.tm.frame + 1) ∧
  (∃ c : Cmd, ∃ s : State, Names c s 7 ∧ c.unit = 0 ∧ Rest c 0 ∧ s.md.mode ∉ [Mode.reset, .boot] ∧ s.pair.st = 2 ∧ s.pair.active = 1 ∧ s.boot.cdb.held = true) ∧
  (∃ c : Cmd, ∃ s : State, Names c s 7 ∧ c.unit = 0 ∧ Rest c 0 ∧ s.md.mode ∉ [Mode.reset, .boot] ∧ s.pair.st = 2 ∧ s.pair.active = 2 ∧ s.boot.cda.held = true) ∧
  (∃ c : Cmd, ∃ s : State, Names c s 7 ∧ c.unit = 0 ∧ Rest c 0 ∧ s.md.mode ∉ [Mode.reset, .boot] ∧ s.pair.st = 3) ∧
  (∃ s : State, ∃ v : BitVec 32, Regs.fieldClosed s = false ∧ s.md.mode = .commission ∧ s.pair.st = 1 ∧ v.toNat / 2 ^ 24 = 0x5C ∧ v.toNat % 4 ≠ 0 ∧ (v.toNat % 4 = 3 → v.toNat / 2 ^ 10 % 8 ≠ 0)) :=
  ⟨⟨cmd 7 0 [], st .hold 4095, by decide +kernel⟩,
   ⟨cmd 7 0 [], { st .run 4095 with pair.decided := 64001 }, by decide +kernel⟩,
   ⟨cmd 7 0 [], { st .run 4095 with pair.st := 2, boot.cdb := { held := true } }, by decide +kernel⟩,
   ⟨cmd 7 0 [], { st .run 4095 with pair.st := 2, pair.active := 2, boot.cda := { held := true } }, by decide +kernel⟩,
   ⟨cmd 7 0 [], { st .run 4095 with pair.st := 3 }, by decide +kernel⟩,
   ⟨st .commission 4095, 0x5C000403#32, by decide +kernel⟩⟩

theorem meets_AxisConfigurationIsStored :
  (∃ c : Cmd, ∃ s : State, Names c s 1 ∧ c.unit < 64 ∧ s.md.mode = .configure ∧ s.enabled 0 = false ∧ Rest c 42 ∧ Arg.u c 40 2 < 4 ∧ Arg.s c 0 8 < Arg.s c 8 8 ∧ 0 < Arg.s c 16 8 ∧ 0 < Arg.s c 24 8 ∧ 0 < Arg.s c 32 8 ∧ (s.axis c.unit).stops = none) ∧
  (∃ c : Cmd, ∃ s : State,
    let l := (s.axis c.unit).lim
    Names c s 1 ∧ c.unit < 64 ∧ s.md.mode = .configure ∧ s.enabled 0 = false ∧ Rest c 32 ∧ l.given = true ∧ 0 < Arg.s c 0 8 ∧ 0 < Arg.s c 8 8 ∧ 0 < Arg.s c 16 8 ∧ 0 < Arg.s c 24 8 ∧ Arg.s c 0 8 ≤ 4 * l.acc ∧ Arg.s c 8 8 ≤ 4 * l.jerk ∧ Arg.s c 16 8 ≤ l.acc ∧ Arg.s c 24 8 ≤ l.jerk) ∧
  (∃ c : Cmd, ∃ s : State, Names c s 1 ∧ c.unit < 64 ∧ s.md.mode = .configure ∧ s.enabled 0 = false ∧ Rest c 21 ∧ Arg.u c 2 1 < 128 ∧ Arg.u c 3 1 < 4 ∧ Arg.u c 5 1 < 8 ∧ Arg.u c 0 1 ≤ 2 ∧ 2 ≤ Arg.u c 1 1 ∧ Arg.u c 1 1 ≤ 50 ∧ 1 ≤ Arg.u c 4 1 ∧ Arg.u c 4 1 ≤ 8 ∧ Arg.u c 6 2 ≤ 10000 ∧ Arg.s c 8 4 ≠ 0 ∧ 1 ≤ Arg.u c 12 4 ∧ Arg.u c 12 4 ≤ 2 ^ 31 ∧ 1 ≤ Arg.u c 20 1) :=
  ⟨⟨cmd 1 63 [(0, 8, -9), (8, 8, -8), (16, 8, 1), (24, 8, 1), (32, 8, 1), (40, 2, 3)], st .configure 0, by decide +kernel⟩,
   ⟨cmd 1 63 [(0, 8, 40), (8, 8, 80), (16, 8, 10), (24, 8, 20)], { st .configure 0 with mot.axes := [(63, { lim := { given := true, neg := -9, pos := 9, vel := 5, acc := 10, jerk := 20 } })] }, by decide +kernel⟩,
   ⟨cmd 1 5 [(0, 1, 2), (1, 1, 50), (2, 1, 127), (3, 1, 3), (4, 1, 8), (5, 1, 7), (6, 2, 10000), (8, 4, -1), (12, 4, 2147483648), (16, 4, 7), (20, 1, 1)], st .configure 0, by decide +kernel⟩⟩

theorem meets_MoveJoinsTheQueue :
  (∃ c : Cmd, ∃ s : State,
    let x := s.axis c.unit
    let ch := s.chan c.unit
    let last := match x.queue.getLast? with | some m => m.target | none => x.p
    let t := if (Arg.u c 44 2).testBit 0 then last + Arg.s c 0 8 else Arg.s c 0 8
    NamesAxis c s [.run, .hold] ∧ Rest c 46 ∧ Arg.u c 44 2 < 4 ∧ Ready s c.unit ∧ (x.lim.refReq = true → x.referenced = true) ∧ ParamsFit x (Arg.s c 8 8) (Arg.s c 16 8) (Arg.s c 24 8) (Arg.s c 32 8) ∧ ((Arg.u c 44 2).testBit 1 = false ∨ x.queue = []) ∧ TargetFits x ch last t ∧ Mot.tooLong x (last, 0, 0) (entryMove c s (Arg.s c 0 8)) t = false ∧ x.queue.length < 64 ∧ s.hbd.compls.length < 61440) ∧
  (∃ c : Cmd, ∃ s : State,
    let x := s.axis c.unit
    let ch := s.chan c.unit
    let last := match x.queue.getLast? with | some m => m.target | none => x.p
    let t := if (Arg.u c 44 2).testBit 0 then last + Arg.s c 0 8 else Arg.s c 0 8
    NamesAxis c s [.run, .hold] ∧ Rest c 46 ∧ Arg.u c 44 2 < 4 ∧ Ready s c.unit ∧ (x.lim.refReq = true → x.referenced = true) ∧ ParamsFit x (Arg.s c 8 8) (Arg.s c 16 8) (Arg.s c 24 8) (Arg.s c 32 8) ∧ (Arg.u c 44 2).testBit 1 = false ∧ TargetFits x ch last t ∧ Mot.tooLong x (last, 0, 0) (entryMove c s (Arg.s c 0 8)) t = false ∧ 64 ≤ x.queue.length) ∧
  (∃ c : Cmd, ∃ s : State,
    let x := s.axis c.unit
    let ch := s.chan c.unit
    let last := match x.queue.getLast? with | some m => m.target | none => x.p
    let t := if (Arg.u c 44 2).testBit 0 then last + Arg.s c 0 8 else Arg.s c 0 8
    NamesAxis c s [.run, .hold] ∧ Rest c 46 ∧ Arg.u c 44 2 < 4 ∧ Ready s c.unit ∧ (x.lim.refReq = true → x.referenced = true) ∧ ParamsFit x (Arg.s c 8 8) (Arg.s c 16 8) (Arg.s c 24 8) (Arg.s c 32 8) ∧ (Arg.u c 44 2).testBit 1 = true ∧ (Arg.u c 44 2).testBit 0 = false ∧ x.queue ≠ [] ∧ TargetFits x ch x.p t) ∧
  (∃ c : Cmd, ∃ s : State,
    let x := s.axis c.unit
    NamesAxis c s [.run, .hold] ∧ Rest c 46 ∧ Arg.u c 44 2 < 4 ∧ Ready s c.unit ∧ (x.lim.refReq = true → x.referenced = true) ∧ ParamsFit x (Arg.s c 8 8) (Arg.s c 16 8) (Arg.s c 24 8) (Arg.s c 32 8) ∧ (Arg.u c 44 2).testBit 1 = true ∧ (Arg.u c 44 2).testBit 0 = true ∧ x.queue ≠ [] ∧ -2 ^ 63 ≤ x.p ∧ x.p < 2 ^ 63) :=
  ⟨⟨cmd 1 5 [(0, 8, 5000000), (8, 8, 1000000), (16, 8, 1000000000), (24, 8, 1000000000), (32, 8, 100000000000), (44, 2, 1)], { st .run 4095 with mot.axes := [(5, { lim := { given := true, neg := -2^50, pos := 5000007, vel := 1000000, acc := 1000000000, jerk := 100000000000, soft := true }, p := 7 })] }, by decide +kernel⟩,
   ⟨cmd 1 5 [(0, 8, 5000000), (8, 8, 1000000), (16, 8, 1000000000), (24, 8, 1000000000), (32, 8, 100000000000), (44, 2, 0)], { st .run 4095 with mot.axes := [(5, { lim := { given := true, neg := -2^50, pos := 2^50, vel := 2^40, acc := 2^44, jerk := 2^48, soft := true }, queue := List.replicate 64 {} })] }, by decide +kernel⟩,
   ⟨cmd 1 5 [(0, 8, 5000000), (8, 8, 1000000), (16, 8, 1000000000), (24, 8, 1000000000), (32, 8, 100000000000), (44, 2, 2)], { st .run 4095 with mot.axes := [(5, { lim := { given := true, neg := -2^50, pos := 2^50, vel := 2^40, acc := 2^44, jerk := 2^48, soft := true }, queue := [{}] })] }, by decide +kernel⟩,
   ⟨cmd 1 5 [(0, 8, 5000000), (8, 8, 1000000), (16, 8, 1000000000), (24, 8, 1000000000), (32, 8, 100000000000), (44, 2, 3)], { st .run 4095 with mot.axes := [(5, { lim := { given := true, neg := -2^50, pos := 2^50, vel := 2^40, acc := 2^44, jerk := 2^48, soft := true }, queue := [{}] })] }, by decide +kernel⟩⟩

theorem meets_StopAndOverrideReachEveryAxis :
  (∃ c : Cmd, ∃ s : State, Names c s 1 ∧ c.unit = 0 ∧ s.md.mode ∈ [Mode.commission, .run, .hold, .degraded] ∧ Rest c 9 ∧ s.enabled 0 = true ∧ s.hbd.compls.length < 61440 ∧ Arg.u c 8 1 < 2) ∧
  (∃ c : Cmd, ∃ s : State, Names c s 1 ∧ c.unit = 0 ∧ s.permMode ∈ [Mode.run, .hold] ∧ Rest c 10 ∧ s.enabled 0 = true ∧ Arg.u c 8 2 ≤ 20000 ∧ (∀ a < 64, (Arg.u c 0 8).testBit a = true → Mot.anyTooLong { s.axis a with ovr := Arg.u c 8 2 } (if (s.axis a).running.isSome then ((s.axis a).p, (s.axis a).v, (s.axis a).a) else ((s.axis a).p, 0, 0)) (s.axis a).queue = false)) :=
  ⟨⟨cmd 1 0 [(0, 8, -9223372036854775807), (8, 1, 1)], st .run 4095, by decide +kernel⟩,
   ⟨cmd 1 0 [(0, 8, 5), (8, 2, 20000)], st .hold 4095, by decide +kernel⟩⟩

theorem meets_FollowJogAndHomeWaitForTheTick :
  (∃ c : Cmd, ∃ s : State, NamesAxis c s [.run] ∧ Rest c 16 ∧ Ready s c.unit ∧ (s.axis c.unit).standstill = true ∧ (s.axis c.unit).queue = [] ∧ ((s.axis c.unit).lim.refReq = true → (s.axis c.unit).referenced = true) ∧ locDefined (Arg.u c 0 4) = true ∧ locDie (Arg.u c 0 4) = 1 ∧ locRegion (Arg.u c 0 4) = 1 ∧ (locNode (Arg.u c 0 4) = s.nodeId → (s.axis (locUnit (Arg.u c 0 4))).lim.given = true) ∧ (locNode (Arg.u c 0 4) ≠ s.nodeId → (Tab.get s.mot.remote (locNode (Arg.u c 0 4) * 64 + locUnit (Arg.u c 0 4))).published = true) ∧ Mot.chainBad s c.unit 4 (Arg.u c 0 4) = false ∧ Mot.depthBelow s 4 c.unit + Mot.depthAbove Mot.linkOf s 4 (Arg.u c 0 4) ≤ 4 ∧ Arg.s c 4 4 ≠ 0 ∧ 1 ≤ Arg.u c 8 4 ∧ Arg.u c 8 4 ≤ 2 ^ 31 ∧ Arg.u c 12 1 < 2 ∧ 1 ≤ Arg.u c 13 1 ∧ Arg.u c 13 1 ≤ 8 ∧ 1 ≤ Arg.u c 14 2 ∧ Arg.u c 14 2 ≤ 60000) ∧
  (∃ c : Cmd, ∃ s : State,
    let x := s.axis c.unit
    let v := Arg.s c 0 8
    let t := if x.lim.soft then (if 0 < v then x.lim.pos else x.lim.neg) else if 0 < v then x.p + 2 ^ 62 else x.p - 2 ^ 62
    let m : Move := { org := c.origin 0x0205, target := t, vel := v.natAbs, acc := Arg.s c 8 8, dec := x.stopsOf.folDec
                      jerk := Arg.s c 16 8, jerkD := x.stopsOf.folJerk, app := s.tm.frame, jog := true, stopAt := t }
    NamesAxis c s [.commission] ∧ Rest c 24 ∧ Ready s c.unit ∧ (s.axis c.unit).standstill = true ∧ (s.axis c.unit).queue = [] ∧ Mot.otherMoves s c.unit = false ∧ ParamsFit x v.natAbs (Arg.s c 8 8) (min x.stopsOf.folDec x.lim.acc) (Arg.s c 16 8) ∧ TargetFits { x with lim := { x.lim with soft := false } } (s.chan c.unit) x.p t ∧ Mot.tooLong x (x.p, 0, 0) { m with target := 0, stopAt := 0 } t = false) ∧
  (∃ c : Cmd, ∃ s : State,
    let l := (s.axis c.unit).lim
    NamesAxis c s [.commission, .run] ∧ Arg.u c 1 1 < 2 ∧ Arg.u c 3 1 = 0 ∧ s.enabled 0 = true ∧ (s.axis c.unit).homing = none ∧ (s.axis c.unit).barred = false ∧ (s.axis c.unit).follower = false ∧ (s.axis c.unit).standstill = true ∧ (s.axis c.unit).queue = [] ∧ (s.permMode = .commission → Mot.otherMoves s c.unit = false) ∧ Arg.u c 0 1 ≤ 3 ∧ 1 ≤ Arg.u c 2 1 ∧ Arg.u c 2 1 ≤ 32 ∧ 100 ≤ Arg.u c 4 2 ∧ (Arg.u c 0 1 % 2 = 1 ↔ Arg.u c 6 2 ≠ 0) ∧ 0 < Arg.s c 16 8 ∧ Arg.s c 16 8 ≤ Arg.s c 8 8 ∧ Arg.s c 8 8 ≤ l.vel ∧ 0 < Arg.s c 24 8 ∧ Arg.s c 24 8 ≤ l.acc ∧ 0 < Arg.s c 32 8 ∧ Arg.s c 32 8 ≤ l.jerk) :=
  ⟨⟨cmd 1 5 [(0, 4, (mkLoc 0 1 1 6 0 : Nat)), (4, 4, -3), (8, 4, 2147483648), (12, 1, 1), (13, 1, 8), (14, 2, 60000)], { st .run 4095 with mot.axes := [(5, { lim := { given := true, neg := -2^50, pos := 2^50, vel := 2^40, acc := 2^44, jerk := 2^48 } }), (6, { lim := { given := true, neg := -2^50, pos := 2^50, vel := 2^40, acc := 2^44, jerk := 2^48 } })] }, by decide +kernel⟩,
   ⟨cmd 1 5 [(0, 8, -1000000), (8, 8, 1000000000), (16, 8, 100000000000)], { st .commission 4095 with mot.axes := [(5, { lim := { given := true, neg := -2^30, pos := 2^30, vel := 2^40, acc := 2^44, jerk := 2^48, soft := true }, stops := some ⟨2^44, 2^48, 2^44, 2^48⟩ })] }, by decide +kernel⟩,
   ⟨cmd 1 5 [(0, 1, 3), (1, 1, 1), (2, 1, 32), (4, 2, 100), (6, 2, 1), (8, 8, 1000), (16, 8, 1000), (24, 8, 1000000000), (32, 8, 100000000000), (40, 8, -77)], { st .commission 4095 with mot.axes := [(5, { lim := { given := true, neg := -2^50, pos := 2^50, vel := 2^40, acc := 2^44, jerk := 2^48 } })] }, by decide +kernel⟩⟩

theorem meets_AxisReports :
  (∃ c : Cmd, ∃ s : State, Names c s 1 ∧ c.unit < 64 ∧ s.md.mode ∉ [Mode.reset, .boot] ∧ Rest c 0 ∧ s.mot.everOn = true ∧ s.enabled 0 = true) ∧
  (∃ c : Cmd, ∃ s : State, Names c s 1 ∧ c.unit < 64 ∧ s.md.mode ∉ [Mode.reset, .boot] ∧ Rest c 0 ∧ s.mot.everOn = true ∧ s.enabled 0 = true) ∧
  (∃ c : Cmd, ∃ s : State, Names c s 1 ∧ c.unit < 64 ∧ s.md.mode ∉ [Mode.reset, .boot] ∧ Rest c 0 ∧ s.mot.everOn = false) ∧
  (∃ c : Cmd, ∃ s : State, Names c s 1 ∧ c.unit < 64 ∧ s.md.mode ∉ [Mode.reset, .boot] ∧ Rest c 0 ∧ s.mot.everOn = false) ∧
  (∃ c : Cmd, ∃ s : State, Names c s 1 ∧ c.unit < 64 ∧ s.md.mode ∉ [Mode.reset, .boot] ∧ Rest c 0 ∧ s.mot.everOn = true ∧ s.enabled 0 = false ∧ (s.axis c.unit).queue.length < 256) ∧
  (∃ c : Cmd, ∃ s : State, Names c s 1 ∧ c.unit < 64 ∧ s.md.mode ∉ [Mode.reset, .boot] ∧ Rest c 0 ∧ s.mot.everOn = true ∧ s.enabled 0 = false ∧ (s.axis c.unit).queue.length < 256) :=
  ⟨⟨cmd 1 5 [], { st .run 4095 with mot.everOn := true, mot.axes := [(5, { shownStat := 77, shownEnc := 88 })] }, by decide +kernel⟩,
   ⟨cmd 1 5 [], { st .run 4095 with mot.everOn := true, mot.axes := [(5, { shownStat := 77, shownEnc := 88 })] }, by decide +kernel⟩,
   ⟨cmd 1 5 [], st .configure 0, by decide +kernel⟩,
   ⟨cmd 1 5 [], st .configure 0, by decide +kernel⟩,
   ⟨cmd 1 5 [], { st .configure 0 with mot.everOn := true, mot.axes := [(5, { p := -3, queue := [{}, {}], referenced := true })] }, by decide +kernel⟩,
   ⟨cmd 1 5 [], { st .configure 0 with mot.everOn := true, mot.axes := [(5, { io := { num := 3, den := 2 } })], mot.chans := [(5, { c := 4294967295 })] }, by decide +kernel⟩⟩

theorem meets_ServoTickFollowsTheProfile :
  (∃ s : State, (s.tm.due (2 ^ (s.mot.cfg.toNat % 4)) 0 = false ∨ s.mot.lastTick = s.tm.frame + 1)) ∧
  (∃ s : State, s.tm.due (2 ^ (s.mot.cfg.toNat % 4)) 0 = true ∧ s.mot.lastTick ≠ s.tm.frame + 1 ∧ s.enabled 0 = false) ∧
  (∃ s : State, ∃ a : Nat, ∃ m : Move, ∃ pr : Profile, ∃ rest : List Move, Tab.wf s.mot.axes = true ∧ s.tm.due (2 ^ (s.mot.cfg.toNat % 4)) 0 = true ∧ s.mot.lastTick ≠ s.tm.frame + 1 ∧ s.enabled 0 = true ∧ s.md.mode ∈ [Mode.commission, .run, .hold, .degraded] ∧ (s.axis a).missNow = false ∧ (s.axis a).prof = some pr ∧ Plan.ended pr s.tm.control = false ∧ (s.axis a).queue = m :: rest ∧ m.started = true ∧ (s.axis a).stop = none ∧ (s.axis a).follow = none ∧ (s.axis a).homing = none ∧ (s.axis a).tickQ = [] ∧ (s.axis a).edges = [] ∧ (s.axis a).relook = false) :=
  ⟨⟨{ st .run 4095 with mot.lastTick := 64001 }, by decide +kernel⟩,
   ⟨st .configure 0, by decide +kernel⟩,
   ⟨{ st .run 4095 with mot.axes := [(5, { p := 11, v := 7, prof := some { phases := [⟨10^15, 1, 11, 7, 0⟩], t0 := 0, target := some (2^40) }, queue := [{ started := true, target := 2^40, stopAt := 2^40, vel := 2^40, acc := 2^40, dec := 2^40, jerk := 2^40, jerkD := 2^40 }], lim := { given := true, neg := -2^50, pos := 2^50, vel := 2^40, acc := 2^44, jerk := 2^48 } })] }, 5, { started := true, target := 2^40, stopAt := 2^40, vel := 2^40, acc := 2^40, dec := 2^40, jerk := 2^40, jerkD := 2^40 }, { phases := [⟨10^15, 1, 11, 7, 0⟩], t0 := 0, target := some (2^40) }, [], by decide +kernel⟩⟩

theorem meets_AxisSupervision :
  (∃ s : State, ∃ a : Fin 64, ∃ f : Follow, (s.axis a.val).follow = some f ∧ f.engaged = true ∧ f.lossCycles ≤ f.missed ∧ s.mot.lastTick = s.tm.frame + 1 ∧ f.org.sq < 32 ∧ (s.axis a.val).stop = none ∧ (s.axis a.val).standstill = false) ∧
  (∃ s : State, ∃ a : Fin 64, ((s.axis a.val).follow = none ∨ s.mot.lastTick ≠ s.tm.frame + 1)) ∧
  (∃ s : State, ∃ a : Fin 64, (s.axis a.val).io.feLimit ≠ 0 ∧ (s.axis a.val).io.feTicks ≤ (s.axis a.val).feRun ∧ (s.axis a.val).faulted = false) ∧
  (∃ s : State, ∃ a : Fin 64, (s.axis a.val).feRun < (s.axis a.val).io.feTicks) ∧
  (∃ s : State, ∃ a : Fin 64, ∃ h : Homing, ∃ e : Edge, (s.axis a.val).homing = some h ∧ h.t1 = some e ∧ h.phase = .window ∧ h.judged = false ∧ e.ctime + (h.chatterUs + (s.axis a.val).io.debounceUs) * 256000 ≤ s.tm.control) ∧
  (∃ s : State, ∃ a : Fin 64, ∃ h : Homing, ∃ e : Edge, (s.axis a.val).homing = some h ∧ h.t1 = some e ∧ s.tm.control < e.ctime + (h.chatterUs + (s.axis a.val).io.debounceUs) * 256000) :=
  ⟨⟨{ st .run 4095 with mot.lastTick := 64001, mot.axes := [(5, { v := 9, follow := some { org := { tag := 4, sq := 31 }, master := 0, num := 1, den := 1, actual := false, lossCycles := 3, syncMs := 1, engaged := true, missed := 3 } })] }, 5, { org := { tag := 4, sq := 31 }, master := 0, num := 1, den := 1, actual := false, lossCycles := 3, syncMs := 1, engaged := true, missed := 3 }, by decide +kernel⟩,
   ⟨st .run 4095, 5, by decide +kernel⟩,
   ⟨{ st .run 4095 with mot.axes := [(5, { io := { feLimit := 10, feTicks := 4 }, feRun := 4, fe := -5000000000 })] }, 5, by decide +kernel⟩,
   ⟨{ st .run 4095 with mot.axes := [(5, { io := { feLimit := 10, feTicks := 4 }, feRun := 3 })] }, 5, by decide +kernel⟩,
   ⟨{ st .run 4095 with mot.axes := [(5, { homing := some { t1 := some {}, phase := .window, chatterCount := 2, edges := 3 } })] }, 5, { t1 := some {}, phase := .window, chatterCount := 2, edges := 3 }, {}, by decide +kernel⟩,
   ⟨{ st .run 4095 with mot.axes := [(5, { homing := some { t1 := some { ctime := 10 ^ 15 }, phase := .window, chatterCount := 2, edges := 3 } })] }, 5, { t1 := some { ctime := 10 ^ 15 }, phase := .window, chatterCount := 2, edges := 3 }, { ctime := 10 ^ 15 }, by decide +kernel⟩⟩

theorem meets_EncoderIndexAndSwitchEdges :
  (∃ s : State, ∃ a : Fin 64, ∃ la : Bool, ∃ lb : Bool, ∃ ha : Nat, ∃ hb : Nat, (s.axis a.val).io.encFilt ≤ ha ∧ (s.axis a.val).io.encFilt ≤ hb ∧ la ≠ (s.chan a.val).encA ∧ lb ≠ (s.chan a.val).encB) ∧
  (∃ s : State, ∃ a : Fin 64, ∃ la : Bool, ∃ lb : Bool, ∃ ha : Nat, ∃ hb : Nat, (ha < (s.axis a.val).io.encFilt ∨ la = (s.chan a.val).encA) ∧ (hb < (s.axis a.val).io.encFilt ∨ lb = (s.chan a.val).encB)) ∧
  (∃ s : State, ∃ a : Fin 64, ∃ lx : Bool, ∃ ly : Bool, ∃ ha : Nat, ∃ hb : Nat,
    let la := if (s.axis a.val).io.encFilt ≤ ha then lx else (s.chan a.val).encA
    let lb := if (s.axis a.val).io.encFilt ≤ hb then ly else (s.chan a.val).encB
    ((la ≠ (s.chan a.val).encA ∧ lb = (s.chan a.val).encB) ∨ (la = (s.chan a.val).encA ∧ lb ≠ (s.chan a.val).encB))) ∧
  (∃ s : State, ∃ a : Fin 64, ∃ l : Bool, ∃ h : Nat, (s.axis a.val).io.encFilt ≤ h ∧ l ≠ (s.chan a.val).idx ∧ l = !(s.axis a.val).io.flags.testBit 4 ∧ ((s.axis a.val).io.flags.testBit 5 = false ∨ (s.chan a.val).encA = (s.axis a.val).io.idxGate.testBit 0 ∧ (s.chan a.val).encB = (s.axis a.val).io.idxGate.testBit 1)) ∧
  (∃ s : State, ∃ a : Fin 64, ∃ l : Bool, ∃ h : Nat, (s.axis a.val).io.encFilt ≤ h ∧ (l = (s.chan a.val).idx ∨ l = (s.axis a.val).io.flags.testBit 4)) ∧
  (∃ s : State, ∃ a : Fin 64, ∃ h : Nat, h < (s.axis a.val).io.encFilt) ∧
  (∃ s : State, ∃ a : Fin 64, ∃ w : Switch, ∃ l : Bool, ∃ t : Instant,
    let ch := s.chan a.val
    let e := edgeAt s ch (xor l (lowSwitch (s.axis a.val) w)) t
    l ≠ ((s.chan a.val).input w).raw ∧ (∀ q, (ch.input w).cand = some q → e.ctime - 1 < q.ctime + (s.axis a.val).io.debounceUs * 256000)) ∧
  (∃ s : State, ∃ a : Fin 64, ∃ w : Switch, ∃ l : Bool, ∃ t : Instant, ∃ q : Edge,
    let ch := s.chan a.val
    let e := edgeAt s ch (xor l (lowSwitch (s.axis a.val) w)) t
    l ≠ ((s.chan a.val).input w).raw ∧ (ch.input w).cand = some q ∧ q.ctime + (s.axis a.val).io.debounceUs * 256000 ≤ e.ctime - 1) ∧
  (∃ s : State, ∃ a : Fin 64, ∃ w : Switch, ∃ e : Edge, ∃ t : Instant, ((s.chan a.val).input w).cand = some e ∧ e.ctime + (s.axis a.val).io.debounceUs * 256000 ≤ (s.tm.edge t : Int) - s.tm.steps) ∧
  (∃ s : State, ∃ a : Fin 64, ∃ w : Switch, ∃ e : Edge, ∃ t : Instant, ((s.chan a.val).input w).cand = some e ∧ (s.tm.edge t : Int) - s.tm.steps < e.ctime + (s.axis a.val).io.debounceUs * 256000) :=
  ⟨⟨st .run 4095, 63, true, true, 1, 1, by decide +kernel⟩,
   ⟨st .run 4095, 63, true, false, 0, 1, by decide +kernel⟩,
   ⟨st .run 4095, 63, false, true, 1, 1, by decide +kernel⟩,
   ⟨{ st .run 4095 with mot.axes := [(63, { io := { flags := 32, idxGate := 1 } })], mot.chans := [(63, { encA := true })] }, 63, true, 1, by decide +kernel⟩,
   ⟨st .run 4095, 63, false, 1, by decide +kernel⟩,
   ⟨st .run 4095, 63, 0, by decide +kernel⟩,
   ⟨st .run 4095, 63, .limitNeg, true, ⟨3, 5⟩, by decide +kernel⟩,
   ⟨{ st .run 4095 with mot.chans := [(63, { limNeg := { cand := some { level := true } } })] }, 63, .limitNeg, true, ⟨3, 5⟩, { level := true }, by decide +kernel⟩,
   ⟨{ st .run 4095 with mot.chans := [(63, { limNeg := { cand := some { level := true } } })] }, 63, .limitNeg, { level := true }, ⟨3, 5⟩, by decide +kernel⟩,
   ⟨{ st .run 4095 with mot.chans := [(63, { limNeg := { cand := some { level := true, ctime := 10^15 } } })] }, 63, .limitNeg, { level := true, ctime := 10^15 }, ⟨3, 5⟩, by decide +kernel⟩⟩

theorem meets_StrobeAddsTheIncrement :
  (∃ s : State, ∃ i : Instant, Tab.wf s.mot.chans = true ∧ s.tm.lock = true ∧ s.tm.strobeAt ((i.lp : Int) - 1) ≠ s.tm.strobeAt i.lp ∧ s.tm.strobe < s.tm.strobeAt i.lp) ∧
  (∃ s : State, ∃ i : Instant, (s.tm.lock = false ∨ s.tm.strobeAt ((i.lp : Int) - 1) = s.tm.strobeAt i.lp ∨ s.tm.strobeAt i.lp ≤ s.tm.strobe)) :=
  ⟨⟨{ st .run 4095 with out.live := true, mot.axes := [(5, { io := { output := 1 } }), (6, { io := { output := 1 } })], mot.chans := [(5, { phi := 2^64 - 1, inc := 1 }), (6, { phi := 2^64 - 1, inc := 1, neg := true, held := some true })] }, ⟨8, 0⟩, by decide +kernel⟩,
   ⟨st .run 4095, ⟨9, 0⟩, by decide +kernel⟩⟩

theorem meets_LoopSlotIsStored :
  (∃ c : Cmd, ∃ s : State, Names c s 2 ∧ c.unit < 832 ∧ s.md.mode = .configure ∧ s.enabled 1 = false ∧ Arg.u c 1 1 < 4 ∧ Arg.u c 35 1 / 4 % 32 = 0 ∧ Arg.u c 37 1 = 0 ∧ Rest c 45 ∧ locDefined (Arg.u c 24 4) = true ∧ (if 768 ≤ c.unit then Arg.u c 0 1 = 15 ∧ Arg.u c 2 2 = 0 else Arg.u c 0 1 ≤ 10 ∧ Arg.u c 2 2 < 2 ^ Arg.u c 0 1) ∧ 1 ≤ Arg.u c 4 1 ∧ Arg.u c 4 1 ≤ 8 ∧ 1 ≤ Arg.u c 31 1 ∧ Arg.u c 31 1 ≤ 8 ∧ 1 ≤ Arg.u c 36 1 ∧ Arg.u c 36 1 ≤ 32 ∧ 1 ≤ Arg.u c 38 2 ∧ Arg.u c 38 2 ≤ Arg.u c 40 2 ∧ 0 ≤ m24 c 42 ∧ (∀ j < 4, Loop.kindAllowed c.unit j (Arg.u c (8 + 4 * j) 4) = true) ∧ ((List.range 4).filter fun j => decide (Arg.u c (8 + 4 * j) 4 / 2 ^ 28 = 4)).length ≤ 1 ∧ (Arg.u c 24 4 = 0 ∨ ∃ j < 4, Arg.u c (8 + 4 * j) 4 / 2 ^ 28 = 4)) :=
  ⟨cmd 2 767 [(0, 1, 10), (1, 1, 3), (2, 2, 1023), (4, 1, 8), (5, 1, -1), (6, 1, 2), (7, 1, 3), (8, 4, 0x10000000), (12, 4, 0x40000000), (24, 4, (mkLoc 3 1 2 4 0 : Nat)), (28, 3, -8388608), (31, 1, 8), (32, 3, 8388607), (35, 1, 0x82), (36, 1, 32), (38, 2, 5), (40, 2, 5), (42, 3, 9)], st .configure 0, by decide +kernel⟩

theorem meets_LoopStagesAreStored :
  (∃ c : Cmd, ∃ s : State, ∃ g : CoefSet,
    let old := (Loop.shadow (s.slot c.unit)).stage (Arg.u c 0 1)
    let kind := Arg.u c 1 1
    let same : Bool := decide (kind = old.kind ∧ Arg.s c 3 1 = old.exp)
    Names c s 2 ∧ c.unit < 832 ∧ s.md.mode = .configure ∧ s.enabled 1 = false ∧ Arg.u c 0 1 < 8 ∧ Arg.u c 2 1 < 2 ∧ stageSet c c.unit (Arg.u c 0 1) (if Arg.u c 2 1 = 1 then old.set1 else old.set0) kind g ∧ (Arg.u c 2 1 = 1 → old.set0.given = true → same = true)) ∧
  (∃ c : Cmd, ∃ s : State,
    let st := (Loop.shadow (s.slot c.unit)).stage (Arg.u c 0 1)
    Names c s 2 ∧ c.unit < 832 ∧ s.md.mode = .configure ∧ s.enabled 1 = false ∧ Arg.u c 0 1 < 8 ∧ Arg.u c 1 1 < 2 ∧ 1 ≤ Arg.u c 3 1 ∧ Arg.u c 3 1 ≤ 7 ∧ Arg.u c 2 1 + Arg.u c 3 1 ≤ 16 ∧ Rest c (4 + 6 * Arg.u c 3 1) ∧ st.kind = 7) :=
  ⟨⟨cmd 2 831 [(0, 1, 7), (1, 1, 9), (2, 1, 1), (3, 1, -2), (4, 3, -8388608), (7, 3, 1), (10, 1, 4), (11, 2, 1023)], { st .configure 0 with loop.slots := [(831, { stages := [(7, { kind := 9, exp := -2, set0 := { given := true } })] })] }, { given := true, c := [-8388608, 1], dest := 4, index := 1023 }, by decide +kernel, by decide +kernel, by decide +kernel, by decide +kernel, by decide +kernel, by decide +kernel, by decide +kernel, by decide +kernel⟩,
   ⟨cmd 2 831 [(0, 1, 7), (1, 1, 0), (2, 1, 15), (3, 1, 1), (4, 3, -5), (7, 3, 6)], { st .configure 0 with loop.slots := [(831, { stages := [(7, { kind := 7, exp := -2, set0 := { given := true } })] })] }, by decide +kernel⟩⟩

theorem meets_LoopCommandsReachTheUnit :
  (∃ c : Cmd, ∃ s : State, s.md.mode ∈ [Mode.commission, .run, .hold, .degraded, .safeStop] ∧ s.enabled 1 = true ∧ (s.slot c.unit).cfg.inUse = true ∧ Names c s 2 ∧ c.unit < 832 ∧ Rest c 3 ∧ (s.slot c.unit).cfg.src.getD 0 0 / 2 ^ 28 % 16 = 1) ∧
  (∃ c : Cmd, ∃ s : State, s.md.mode ∈ [Mode.commission, .run, .hold, .degraded, .safeStop] ∧ s.enabled 1 = true ∧ (s.slot c.unit).cfg.inUse = true ∧ Names c s 2 ∧ c.unit < 832 ∧ Arg.u c 0 1 < 2 ∧ Rest c 4) ∧
  (∃ c : Cmd, ∃ s : State, s.md.mode ∈ [Mode.commission, .run, .hold, .degraded, .safeStop] ∧ s.enabled 1 = true ∧ (s.slot c.unit).cfg.inUse = true ∧ Names c s 2 ∧ c.unit < 832 ∧ Arg.u c 0 1 < 2 ∧ Rest c 1) ∧
  (∃ c : Cmd, ∃ s : State, s.md.mode ∈ [Mode.commission, .run, .hold, .degraded, .safeStop] ∧ s.enabled 1 = true ∧ (s.slot c.unit).cfg.inUse = true ∧ c.flags = 1 ∧ c.rsv3 = 0 ∧ c.rsv12 = 0 ∧ locDefined c.locN = true ∧ locNode c.locN = s.nodeId ∧ locDie c.locN = 1 ∧ locRegion c.locN = 2 ∧ c.unit < 832 ∧ 1 ≤ locItem c.locN ∧ Rest c 6 ∧ ((s.slot c.unit).stage (locItem c.locN - 1)).kind = 0 ∧ ((s.slot c.unit).stage (locItem c.locN - 1)).set0.given = true) ∧
  (∃ c : Cmd, ∃ s : State, s.md.mode ∈ [Mode.commission, .run, .hold, .degraded, .safeStop] ∧ s.enabled 1 = true ∧ (s.slot c.unit).cfg.inUse = true ∧ Names c s 2 ∧ c.unit < 832 ∧ Rest c 0) :=
  ⟨⟨cmd 2 768 [(0, 3, -8388608)], { st .safeStop 4095 with loop.slots := [(768, { cfg := { inUse := true, src := [0x10000000] }, stages := [(7, { set0 := { given := true } })] })] }, by decide +kernel⟩,
   ⟨cmd 2 768 [(0, 1, 1), (1, 3, -1)], { st .safeStop 4095 with loop.slots := [(768, { cfg := { inUse := true, src := [0x10000000] }, stages := [(7, { set0 := { given := true } })] })] }, by decide +kernel⟩,
   ⟨cmd 2 768 [(0, 1, 1)], { st .safeStop 4095 with loop.slots := [(768, { cfg := { inUse := true, src := [0x10000000] }, stages := [(7, { set0 := { given := true } })] })] }, by decide +kernel⟩,
   ⟨{ cmd 2 768 [(0, 6, -1)] with loc := BitVec.ofNat 32 (mkLoc 0 1 2 768 8) }, { st .safeStop 4095 with loop.slots := [(768, { cfg := { inUse := true, src := [0x10000000] }, stages := [(7, { set0 := { given := true } })] })] }, by decide +kernel⟩,
   ⟨cmd 2 768 [], { st .safeStop 4095 with loop.slots := [(768, { cfg := { inUse := true, src := [0x10000000] }, stages := [(7, { set0 := { given := true } })] })] }, by decide +kernel⟩⟩

theorem meets_LoopStatusReports :
  (∃ c : Cmd, ∃ s : State, Names c s 2 ∧ c.unit < 832 ∧ s.md.mode ∉ [Mode.reset, .boot] ∧ Rest c 0 ∧ s.enabled 1 = true ∧ s.md.mode ∈ [Mode.commission, .run, .hold, .degraded, .safeStop] ∧ (s.slot c.unit).cfg.inUse = true) ∧
  (∃ c : Cmd, ∃ s : State, Names c s 2 ∧ c.unit < 832 ∧ s.md.mode ∉ [Mode.reset, .boot] ∧ Rest c 0 ∧ s.enabled 1 = true ∧ (s.md.mode = .configure ∨ (s.slot c.unit).cfg.inUse = false) ∧ (s.slot c.unit).misses < 256 ∧ (s.slot c.unit).missTotal < 2 ^ 16) :=
  ⟨⟨cmd 2 768 [], { st .run 4095 with loop.slots := [(768, { cfg := { inUse := true }, status := 77 })] }, by decide +kernel⟩,
   ⟨cmd 2 768 [], { st .run 4095 with loop.slots := [(768, { out := -1, e := 5, stale := true, misses := 255, missTotal := 65535, evals := 2^32 + 5 })] }, by decide +kernel⟩⟩

theorem meets_LoopBoundaryEvaluates :
  (∃ s : State, ∃ u : Fin 832, (¬ unitDue s u.val ∨ (s.slot u.val).lastB = s.tm.frame + 1)) ∧
  (∃ s : State, ∃ u : Fin 832, ∃ o : Origin, ∃ g : LoopCfg, ∃ v : Int, unitDue s u.val ∧ (s.slot u.val).lastB ≠ s.tm.frame + 1 ∧ s.enabled 1 = false ∧ (s.slot u.val).ops = [(o, .slot g v)] ∧ o.sq < 32) ∧
  (∃ s : State, ∃ u : Fin 832, ∃ o : Origin, ∃ k : Nat, ∃ g : Stage, unitDue s u.val ∧ (s.slot u.val).lastB ≠ s.tm.frame + 1 ∧ s.enabled 1 = false ∧ (s.slot u.val).ops = [(o, .stage k g)] ∧ o.sq < 32) ∧
  (∃ s : State, ∃ u : Fin 832, ∃ lo : Int, ∃ hi : Int, s.enabled 1 = true ∧ (s.slot u.val).cfg.inUse = true ∧ s.md.mode ∈ [Mode.commission, .run, .hold, .degraded, .safeStop] ∧ (s.slot u.val).lastB ≠ s.tm.frame + 1 ∧ unitDue s u.val ∧ (s.slot u.val).ops = [] ∧ (s.slot u.val).cfg.src = [2 ^ 28, 0, 0, 0] ∧ (s.slot u.val).cfg.nstages = 1 ∧ (s.slot u.val).cfg.oscEn = false ∧ (s.slot u.val).osc.latch = false ∧ (s.slot u.val).failNow = false ∧ (s.slot u.val).set1 = false ∧ (s.slot u.val).set1Now = false ∧ ((s.slot u.val).stage 0).kind = 4 ∧ ((s.slot u.val).stage 0).exp = (s.slot u.val).cfg.x0 ∧ ((s.slot u.val).stage 0).set0.c = [lo, hi] ∧ -8388608 ≤ (s.slot u.val).setpoint ∧ (s.slot u.val).setpoint ≤ 8388607) ∧
  (∃ s : State, ∃ u : Fin 832, ∃ o : Origin, s.enabled 1 = true ∧ (s.slot u.val).cfg.inUse = true ∧ s.md.mode ∈ [Mode.commission, .run, .hold, .degraded, .safeStop] ∧ (s.slot u.val).lastB ≠ s.tm.frame + 1 ∧ unitDue s u.val ∧ (s.slot u.val).ops = [(o, .oscClear)] ∧ o.sq < 32) ∧
  (∃ s : State, ∃ u : Fin 832, ∃ o : Origin, ∃ v : Int, s.enabled 1 = true ∧ (s.slot u.val).cfg.inUse = true ∧ s.md.mode ∈ [Mode.commission, .run, .hold, .degraded, .safeStop] ∧ (s.slot u.val).lastB ≠ s.tm.frame + 1 ∧ unitDue s u.val ∧ (s.slot u.val).ops = [(o, .mode true v)] ∧ o.sq < 32 ∧ (s.slot u.val).safeHeld = false ∧ (s.slot u.val).failNow = false ∧ (s.slot u.val).cfg.oscAction = 0) ∧
  (∃ s : State, ∃ u : Fin 832, (s.slot u.val).cfg.inUse = true ∧ (s.slot u.val).inputStale = false ∧ (∃ q ∈ (s.slot u.val).missing, (s.slot u.val).cfg.loss ≤ q.2)) ∧
  (∃ s : State, ∃ u : Fin 832, (∀ q ∈ (s.slot u.val).missing, q.2 < (s.slot u.val).cfg.loss)) :=
  ⟨⟨{ st .run 4095 with loop.slots := [(767, { cfg := { inUse := true } , lastB := 64001 })] }, 767, by decide +kernel⟩,
   ⟨{ st .configure 0 with loop.slots := [(767, { ops := [({ sq := 31 }, .slot { inUse := true, rate := 3 } (-8))] })] }, 767, { sq := 31 }, { inUse := true, rate := 3 }, -8, by decide +kernel⟩,
   ⟨{ st .configure 0 with loop.slots := [(767, { ops := [({ sq := 31 }, .stage 7 { kind := 3 })] })] }, 767, { sq := 31 }, 7, { kind := 3 }, by decide +kernel⟩,
   ⟨{ st .run 4095 with loop.slots := [(767, { cfg := { inUse := true, rate := 0, nstages := 1, src := [2^28, 0, 0, 0] }, setpoint := 8388607, stages := [(0, { kind := 4, set0 := { given := true, c := [-5, 5] } })] })] }, 767, -5, 5, by decide +kernel⟩,
   ⟨{ st .run 4095 with loop.slots := [(767, { cfg := { inUse := true, rate := 0, nstages := 1, src := [2^28, 0, 0, 0] }, osc := { latch := true }, ops := [({ sq := 31 }, .oscClear)] })] }, 767, { sq := 31 }, by decide +kernel⟩,
   ⟨{ st .run 4095 with loop.slots := [(767, { cfg := { inUse := true, rate := 0, nstages := 1, src := [2^28, 0, 0, 0] }, ops := [({ sq := 31 }, .mode true (-8))] })] }, 767, { sq := 31 }, -8, by decide +kernel⟩,
   ⟨{ st .run 4095 with loop.slots := [(767, { cfg := { inUse := true, loss := 8 }, missing := [(3, 8)] })] }, 767, by decide +kernel⟩,
   ⟨{ st .run 4095 with loop.slots := [(767, { cfg := { inUse := true, loss := 8 }, missing := [(3, 7)] })] }, 767, by decide +kernel⟩⟩

theorem meets_AdcConfigurationIsStored :
  (∃ c : Cmd, ∃ s : State, ∃ r : TrigCfg, ∃ i : TrigCfg, Names c s 3 ∧ c.unit < 32 ∧ s.md.mode = .configure ∧ s.enabled 2 = false ∧ Rest c 20 ∧ TrigGiven c 0 r ∧ TrigGiven c 8 i ∧ 1 ≤ Arg.u c 17 1 ∧ (Arg.u c 18 1 < 32 ∨ Arg.u c 18 1 = 255) ∧ (Arg.u c 19 1 < 32 ∨ Arg.u c 19 1 = 255)) ∧
  (∃ c : Cmd, ∃ s : State, ∃ n : Nat, Names c s 3 ∧ c.unit < 32 ∧ s.md.mode = .configure ∧ s.enabled 2 = false ∧ Arg.u c 2 2 = 0 ∧ Arg.u c 1 1 = n ∧ 1 ≤ n ∧ Rest c (4 + 2 * n) ∧ (∀ j < n, Arg.u c (4 + 2 * j) 1 < 64 ∧ Arg.u c (4 + 2 * j) 1 / 4 ≤ 8) ∧ Arg.u c 0 1 = 0 ∧ n ≤ 16) ∧
  (∃ c : Cmd, ∃ s : State, ∃ n : Nat, Names c s 3 ∧ c.unit < 32 ∧ s.md.mode = .configure ∧ s.enabled 2 = false ∧ Arg.u c 2 2 = 0 ∧ Arg.u c 1 1 = n ∧ 1 ≤ n ∧ Rest c (4 + 2 * n) ∧ (∀ j < n, Arg.u c (4 + 2 * j) 1 < 64 ∧ Arg.u c (4 + 2 * j) 1 / 4 ≤ 8) ∧ Arg.u c 0 1 = 1 ∧ n ≤ 4) ∧
  (∃ c : Cmd, ∃ s : State, Names c s 3 ∧ 96 ≤ c.unit ∧ s.md.mode = .configure ∧ s.enabled 2 = false ∧ Arg.u c 5 3 = 0 ∧ Rest c 12 ∧ 8 ≤ Arg.u c 4 1 ∧ Arg.u c 4 1 ≤ 24) :=
  ⟨⟨cmd 3 31 [(0, 1, 2), (4, 1, 31), (5, 1, 1), (6, 2, 65535), (8, 1, 1), (9, 1, 10), (10, 2, 1023), (16, 1, 255), (17, 1, 1), (18, 1, 31), (19, 1, 255)], st .configure 0, { src := 2, pwm := 31, edge := 1, delay := 65535 }, { src := 1, rate := 10, phase := 1023 }, by decide +kernel⟩,
   ⟨cmd 3 31 [(0, 1, 0), (1, 1, 16), (4, 1, 33), (5, 1, 255), (34, 1, 3)], st .configure 0, 16, by decide +kernel⟩,
   ⟨cmd 3 31 [(0, 1, 1), (1, 1, 4), (4, 1, 35), (5, 1, 255), (10, 1, 3)], st .configure 0, 4, by decide +kernel⟩,
   ⟨cmd 3 127 [(0, 4, 33554176), (4, 1, 8), (8, 4, 64)], st .configure 0, by decide +kernel⟩⟩

theorem meets_AdcStatusReports :
  (∃ c : Cmd, ∃ s : State, Names c s 3 ∧ c.unit < 32 ∧ s.md.mode ∉ [Mode.reset, .boot] ∧ Rest c 0 ∧ s.enabled 2 = true) ∧
  (∃ c : Cmd, ∃ s : State, Names c s 3 ∧ c.unit < 32 ∧ s.md.mode ∉ [Mode.reset, .boot] ∧ Rest c 0 ∧ s.enabled 2 = false) ∧
  (∃ s : State, ∃ k : Nat,
    let x := (Adc.boundary s).conv k
    s.enabled 2 = true ∧ x ≠ {} ∧ x.regOvr < 2 ^ 16 ∧ x.injOvr < 2 ^ 16 ∧ x.mismatch < 2 ^ 16) ∧
  (∃ s : State, ∃ k : Nat,
    let x := (Adc.boundary s).conv k
    s.enabled 2 = true ∧ x ≠ {} ∧ x.regOvr < 2 ^ 16 ∧ x.injOvr < 2 ^ 16 ∧ x.mismatch < 2 ^ 16) ∧
  (∃ s : State, ∃ k : Nat,
    let x := (Adc.boundary s).conv k
    s.enabled 2 = true ∧ x ≠ {} ∧ x.regOvr < 2 ^ 16 ∧ x.injOvr < 2 ^ 16 ∧ x.mismatch < 2 ^ 16) ∧
  (∃ s : State, ∃ k : Nat,
    let x := (Adc.boundary s).conv k
    s.enabled 2 = true ∧ x ≠ {} ∧ x.regOvr < 2 ^ 16 ∧ x.injOvr < 2 ^ 16 ∧ x.mismatch < 2 ^ 16) ∧
  (∃ s : State, ∃ k : Nat,
    let x := (Adc.boundary s).conv k
    s.enabled 2 = true ∧ x ≠ {} ∧ x.regOvr < 2 ^ 16 ∧ x.injOvr < 2 ^ 16 ∧ x.mismatch < 2 ^ 16) ∧
  (∃ s : State, ∃ k : Nat,
    let x := (Adc.boundary s).conv k
    s.enabled 2 = true ∧ x ≠ {} ∧ x.regOvr < 2 ^ 16 ∧ x.injOvr < 2 ^ 16 ∧ x.mismatch < 2 ^ 16) ∧
  (∃ s : State, ∃ k : Nat,
    let x := (Adc.boundary s).conv k
    s.enabled 2 = true ∧ x ≠ {} ∧ x.regOvr < 2 ^ 16 ∧ x.injOvr < 2 ^ 16 ∧ x.mismatch < 2 ^ 16) ∧
  (∃ s : State, ∃ k : Nat,
    let x := (Adc.boundary s).conv k
    s.enabled 2 = true ∧ x ≠ {} ∧ x.regOvr < 2 ^ 16 ∧ x.injOvr < 2 ^ 16 ∧ x.mismatch < 2 ^ 16) ∧
  (∃ s : State, ∃ k : Nat,
    let x := (Adc.boundary s).conv k
    s.enabled 2 = true ∧ x ≠ {} ∧ x.regOvr < 2 ^ 16 ∧ x.injOvr < 2 ^ 16 ∧ x.mismatch < 2 ^ 16) ∧
  (∃ s : State, ∃ k : Nat,
    let x := (Adc.boundary s).conv k
    s.enabled 2 = true ∧ x ≠ {} ∧ x.regOvr < 2 ^ 16 ∧ x.injOvr < 2 ^ 16 ∧ x.mismatch < 2 ^ 16) ∧
  (∃ s : State, ∃ k : Nat,
    let x := (Adc.boundary s).conv k
    s.enabled 2 = true ∧ x ≠ {} ∧ x.regOvr < 2 ^ 16 ∧ x.injOvr < 2 ^ 16 ∧ x.mismatch < 2 ^ 16) :=
  ⟨⟨cmd 3 31 [], { st .run 4095 with acq.conv := [(31, { shown := 2^100 + 3 })] }, by decide +kernel⟩,
   ⟨cmd 3 31 [], st .run 0, by decide +kernel⟩,
   ⟨{ st .run 4095 with acq.suspect := 2^31, acq.conv := [(31, { results := 2^33 + 5, regOvr := 65535, injOvr := 1, mismatch := 7, regRun := some {}, regHeld := true, lastCode := 4095 })] }, 31, by decide +kernel⟩,
   ⟨{ st .run 4095 with acq.suspect := 2^31, acq.conv := [(31, { results := 2^33 + 5, regOvr := 65535, injOvr := 1, mismatch := 7, regRun := some {}, regHeld := true, lastCode := 4095 })] }, 31, by decide +kernel⟩,
   ⟨{ st .run 4095 with acq.suspect := 2^31, acq.conv := [(31, { results := 2^33 + 5, regOvr := 65535, injOvr := 1, mismatch := 7, regRun := some {}, regHeld := true, lastCode := 4095 })] }, 31, by decide +kernel⟩,
   ⟨{ st .run 4095 with acq.suspect := 2^31, acq.conv := [(31, { results := 2^33 + 5, regOvr := 65535, injOvr := 1, mismatch := 7, regRun := some {}, regHeld := true, lastCode := 4095 })] }, 31, by decide +kernel⟩,
   ⟨{ st .run 4095 with acq.suspect := 2^31, acq.conv := [(31, { results := 2^33 + 5, regOvr := 65535, injOvr := 1, mismatch := 7, regRun := some {}, regHeld := true, lastCode := 4095 })] }, 31, by decide +kernel⟩,
   ⟨{ st .run 4095 with acq.suspect := 2^31, acq.conv := [(31, { results := 2^33 + 5, regOvr := 65535, injOvr := 1, mismatch := 7, regRun := some {}, regHeld := true, lastCode := 4095 })] }, 31, by decide +kernel⟩,
   ⟨{ st .run 4095 with acq.suspect := 2^31, acq.conv := [(31, { results := 2^33 + 5, regOvr := 65535, injOvr := 1, mismatch := 7, regRun := some {}, regHeld := true, lastCode := 4095 })] }, 31, by decide +kernel⟩,
   ⟨{ st .run 4095 with acq.suspect := 2^31, acq.conv := [(31, { results := 2^33 + 5, regOvr := 65535, injOvr := 1, mismatch := 7, regRun := some {}, regHeld := true, lastCode := 4095 })] }, 31, by decide +kernel⟩,
   ⟨{ st .run 4095 with acq.suspect := 2^31, acq.conv := [(31, { results := 2^33 + 5, regOvr := 65535, injOvr := 1, mismatch := 7, regRun := some {}, regHeld := true, lastCode := 4095 })] }, 31, by decide +kernel⟩,
   ⟨{ st .run 4095 with acq.suspect := 2^31, acq.conv := [(31, { results := 2^33 + 5, regOvr := 65535, injOvr := 1, mismatch := 7, regRun := some {}, regHeld := true, lastCode := 4095 })] }, 31, by decide +kernel⟩,
   ⟨{ st .run 4095 with acq.suspect := 2^31, acq.conv := [(31, { results := 2^33 + 5, regOvr := 65535, injOvr := 1, mismatch := 7, regRun := some {}, regHeld := true, lastCode := 4095 })] }, 31, by decide +kernel⟩⟩

theorem meets_RegularTriggersStartSequences :
  (∃ s : State, ∃ k : Fin 32, ∃ t : Instant, ∃ e : SeqEntry, ∃ es : List SeqEntry,
    let p := pointOf s t
    let x : Converter := { s.conv k.val with regDue := (s.conv k.val).regDue.filter (p < ·) }
    s.enabled 2 = true ∧ pointOf s t ∈ (s.conv k.val).regDue ∧ (s.conv k.val).cfg.regSeq = e :: es ∧ x.test = none ∧ x.regRun = none ∧ x.freeAt = none ∧ x.cur = none) ∧
  (∃ s : State, ∃ k : Fin 32, ∃ t : Instant, ∃ e : SeqEntry, ∃ es : List SeqEntry,
    let p := pointOf s t
    let x : Converter := { s.conv k.val with regDue := (s.conv k.val).regDue.filter (p < ·) }
    s.enabled 2 = true ∧ pointOf s t ∈ (s.conv k.val).regDue ∧ (s.conv k.val).cfg.regSeq = e :: es ∧ x.test = none ∧ x.regRun = none ∧ x.freeAt ≠ some p ∧ x.cur.isSome = true ∧ endsAt x p = false ∧ x.regHeld = false) ∧
  (∃ s : State, ∃ k : Fin 32, ∃ t : Instant, ∃ e : SeqEntry, ∃ es : List SeqEntry,
    let p := pointOf s t
    let x : Converter := { s.conv k.val with regDue := (s.conv k.val).regDue.filter (p < ·) }
    s.enabled 2 = true ∧ pointOf s t ∈ (s.conv k.val).regDue ∧ (s.conv k.val).cfg.regSeq = e :: es ∧ x.test = none ∧ x.regRun = none ∧ (x.freeAt = some p ∨ endsAt x p = true)) ∧
  (∃ s : State, ∃ k : Fin 32, ∃ t : Instant, ∃ e : SeqEntry, ∃ es : List SeqEntry,
    let p := pointOf s t
    let x : Converter := { s.conv k.val with regDue := (s.conv k.val).regDue.filter (p < ·) }
    ∃ r,
    s.enabled 2 = true ∧ pointOf s t ∈ (s.conv k.val).regDue ∧ (s.conv k.val).cfg.regSeq = e :: es ∧ x.test = none ∧ x.regRun = some r ∧ x.cur.map (·.inj) = some false ∧ endsAt x p = true ∧ lastOf x r = true) ∧
  (∃ s : State, ∃ k : Fin 32, ∃ t : Instant, ∃ e : SeqEntry, ∃ es : List SeqEntry,
    let p := pointOf s t
    let x : Converter := { s.conv k.val with regDue := (s.conv k.val).regDue.filter (p < ·) }
    s.enabled 2 = true ∧ pointOf s t ∈ (s.conv k.val).regDue ∧ (s.conv k.val).cfg.regSeq = e :: es ∧ x.test = none ∧ x.regRun = none ∧ x.freeAt ≠ some p ∧ x.cur.isSome = true ∧ endsAt x p = false ∧ x.regHeld = true) ∧
  (∃ s : State, ∃ k : Fin 32, ∃ t : Instant, ∃ e : SeqEntry, ∃ es : List SeqEntry,
    let p := pointOf s t
    let x : Converter := { s.conv k.val with regDue := (s.conv k.val).regDue.filter (p < ·) }
    s.enabled 2 = true ∧ pointOf s t ∈ (s.conv k.val).regDue ∧ (s.conv k.val).cfg.regSeq = e :: es ∧ x.regRun.isSome = true ∧ endsAt x p = false) ∧
  (∃ s : State, ∃ k : Fin 32, ∃ t : Instant, ∃ e : SeqEntry, ∃ es : List SeqEntry,
    let p := pointOf s t
    let x : Converter := { s.conv k.val with regDue := (s.conv k.val).regDue.filter (p < ·) }
    ∃ v,
    s.enabled 2 = true ∧ pointOf s t ∈ (s.conv k.val).regDue ∧ (s.conv k.val).cfg.regSeq = e :: es ∧ x.test = some v ∧ v.start + 25600 ≠ p) ∧
  (∃ s : State, ∃ k : Fin 32, ∃ t : Instant, (s.enabled 2 = false ∨ pointOf s t ∉ (s.conv k.val).regDue ∨ (s.conv k.val).cfg.regSeq = [])) :=
  ⟨⟨{ st .run 4095 with acq.conv := [(31, { regDue := [5, 400000100, 400000900], cfg := { regSeq := [{ input := 3, shift := 2, avg := 4 }, {}] } })] }, 31, ⟨100, 0⟩, ({ input := 3, shift := 2, avg := 4 } : SeqEntry), ([{}] : List SeqEntry), by decide +kernel⟩,
   ⟨{ st .run 4095 with acq.conv := [(31, { regDue := [5, 400000100, 400000900], cur := some {}, cfg := { regSeq := [{ input := 3, shift := 2, avg := 4 }, {}] } })] }, 31, ⟨100, 0⟩, ({ input := 3, shift := 2, avg := 4 } : SeqEntry), ([{}] : List SeqEntry), by decide +kernel⟩,
   ⟨{ st .run 4095 with acq.conv := [(31, { regDue := [5, 400000100, 400000900], freeAt := some 400000100, cfg := { regSeq := [{ input := 3, shift := 2, avg := 4 }, {}] } })] }, 31, ⟨100, 0⟩, ({ input := 3, shift := 2, avg := 4 } : SeqEntry), ([{}] : List SeqEntry), by decide +kernel⟩,
   ⟨{ st .run 4095 with acq.conv := [(31, { regDue := [5, 400000100, 400000900], cur := some { start := 399999700, taken := 3, cfg := { avg := 4 } }, regRun := some { entries := ([{}] : List SeqEntry), next := 1 }, cfg := { regSeq := [{ input := 3, shift := 2, avg := 4 }, {}] } })] }, 31, ⟨100, 0⟩, ({ input := 3, shift := 2, avg := 4 } : SeqEntry), ([{}] : List SeqEntry), { entries := ([{}] : List SeqEntry), next := 1 }, by decide +kernel⟩,
   ⟨{ st .run 4095 with acq.conv := [(31, { regDue := [5, 400000100, 400000900], regOvr := 6, regHeld := true, cur := some {}, cfg := { regSeq := [{ input := 3, shift := 2, avg := 4 }, {}] } })] }, 31, ⟨100, 0⟩, ({ input := 3, shift := 2, avg := 4 } : SeqEntry), ([{}] : List SeqEntry), by decide +kernel⟩,
   ⟨{ st .run 4095 with acq.conv := [(31, { regDue := [5, 400000100, 400000900], regOvr := 65535, regRun := some {}, cfg := { regSeq := [{ input := 3, shift := 2, avg := 4 }, {}] } })] }, 31, ⟨100, 0⟩, ({ input := 3, shift := 2, avg := 4 } : SeqEntry), ([{}] : List SeqEntry), by decide +kernel⟩,
   ⟨{ st .run 4095 with acq.conv := [(31, { regDue := [5, 400000100, 400000900], test := some { start := 399974501 }, cfg := { regSeq := [{ input := 3, shift := 2, avg := 4 }, {}] } })] }, 31, ⟨100, 0⟩, ({ input := 3, shift := 2, avg := 4 } : SeqEntry), ([{}] : List SeqEntry), { start := 399974501 }, by decide +kernel⟩,
   ⟨st .run 4095, 31, ⟨100, 0⟩, by decide +kernel⟩⟩

theorem meets_InjectedTriggersStartSequences :
  (∃ s : State, ∃ k : Fin 32, ∃ t : Instant, ∃ e : SeqEntry, ∃ es : List SeqEntry,
    let p := pointOf s t
    let x : Converter := { s.conv k.val with injDue := (s.conv k.val).injDue.filter (p < ·) }
    s.enabled 2 = true ∧ pointOf s t ∈ (s.conv k.val).injDue ∧ (s.conv k.val).cfg.injSeq = e :: es ∧ x.test = none ∧ x.freeAt ≠ some p ∧ x.cur = none) ∧
  (∃ s : State, ∃ k : Fin 32, ∃ t : Instant, ∃ e : SeqEntry, ∃ es : List SeqEntry,
    let p := pointOf s t
    let x : Converter := { s.conv k.val with injDue := (s.conv k.val).injDue.filter (p < ·) }
    ∃ v,
    s.enabled 2 = true ∧ pointOf s t ∈ (s.conv k.val).injDue ∧ (s.conv k.val).cfg.injSeq = e :: es ∧ x.test = none ∧ x.freeAt ≠ some p ∧ x.cur = some v ∧ endsAt x p = false ∧ v.inj = false ∧ v.start = p ∧ v.taken = 0 ∧ v.entry = 0) ∧
  (∃ s : State, ∃ k : Fin 32, ∃ t : Instant, ∃ e : SeqEntry, ∃ es : List SeqEntry,
    let p := pointOf s t
    let x : Converter := { s.conv k.val with injDue := (s.conv k.val).injDue.filter (p < ·) }
    ∃ v, ∃ r,
    s.enabled 2 = true ∧ pointOf s t ∈ (s.conv k.val).injDue ∧ (s.conv k.val).cfg.injSeq = e :: es ∧ x.test = none ∧ x.freeAt ≠ some p ∧ x.cur = some v ∧ endsAt x p = false ∧ v.inj = false ∧ v.start = p ∧ v.taken = 0 ∧ v.entry ≠ 0 ∧ x.regRun = some r) ∧
  (∃ s : State, ∃ k : Fin 32, ∃ t : Instant, ∃ e : SeqEntry, ∃ es : List SeqEntry,
    let p := pointOf s t
    let x : Converter := { s.conv k.val with injDue := (s.conv k.val).injDue.filter (p < ·) }
    ∃ v,
    s.enabled 2 = true ∧ pointOf s t ∈ (s.conv k.val).injDue ∧ (s.conv k.val).cfg.injSeq = e :: es ∧ x.test = none ∧ x.freeAt ≠ some p ∧ x.cur = some v ∧ endsAt x p = false ∧ (v.start < p ∨ v.taken ≠ 0 ∨ v.inj = true) ∧ x.injHeld = false) ∧
  (∃ s : State, ∃ k : Fin 32, ∃ t : Instant, ∃ e : SeqEntry, ∃ es : List SeqEntry,
    let p := pointOf s t
    let x : Converter := { s.conv k.val with injDue := (s.conv k.val).injDue.filter (p < ·) }
    ∃ v,
    s.enabled 2 = true ∧ pointOf s t ∈ (s.conv k.val).injDue ∧ (s.conv k.val).cfg.injSeq = e :: es ∧ x.test = none ∧ x.freeAt ≠ some p ∧ x.cur = some v ∧ endsAt x p = false ∧ (v.start < p ∨ v.taken ≠ 0 ∨ v.inj = true) ∧ x.injHeld = true) ∧
  (∃ s : State, ∃ k : Fin 32, ∃ t : Instant, ∃ e : SeqEntry, ∃ es : List SeqEntry,
    let p := pointOf s t
    let x : Converter := { s.conv k.val with injDue := (s.conv k.val).injDue.filter (p < ·) }
    s.enabled 2 = true ∧ pointOf s t ∈ (s.conv k.val).injDue ∧ (s.conv k.val).cfg.injSeq = e :: es ∧ x.test = none ∧ x.injRun = none ∧ (x.freeAt = some p ∨ endsAt x p = true)) ∧
  (∃ s : State, ∃ k : Fin 32, ∃ t : Instant, ∃ e : SeqEntry, ∃ es : List SeqEntry,
    let p := pointOf s t
    let x : Converter := { s.conv k.val with injDue := (s.conv k.val).injDue.filter (p < ·) }
    ∃ r,
    s.enabled 2 = true ∧ pointOf s t ∈ (s.conv k.val).injDue ∧ (s.conv k.val).cfg.injSeq = e :: es ∧ x.test = none ∧ x.injRun = some r ∧ x.cur.map (·.inj) = some true ∧ endsAt x p = true ∧ lastOf x r = true) ∧
  (∃ s : State, ∃ k : Fin 32, ∃ t : Instant, ∃ e : SeqEntry, ∃ es : List SeqEntry,
    let p := pointOf s t
    let x : Converter := { s.conv k.val with injDue := (s.conv k.val).injDue.filter (p < ·) }
    ∃ v,
    s.enabled 2 = true ∧ pointOf s t ∈ (s.conv k.val).injDue ∧ (s.conv k.val).cfg.injSeq = e :: es ∧ x.test = some v ∧ v.start + 25600 ≠ p) ∧
  (∃ s : State, ∃ k : Fin 32, ∃ t : Instant, (s.enabled 2 = false ∨ pointOf s t ∉ (s.conv k.val).injDue ∨ (s.conv k.val).cfg.injSeq = [])) :=
  ⟨⟨{ st .run 4095 with acq.conv := [(31, { injDue := [5, 400000100, 400000900], cfg := { injSeq := [{ input := 3, shift := 2, avg := 4 }, {}] } })] }, 31, ⟨100, 0⟩, ({ input := 3, shift := 2, avg := 4 } : SeqEntry), ([{}] : List SeqEntry), by decide +kernel⟩,
   ⟨{ st .run 4095 with acq.conv := [(31, { injDue := [5, 400000100, 400000900], cur := some { start := 400000100 }, regRun := some { entries := [{}, {}], next := 1 }, cfg := { injSeq := [{ input := 3, shift := 2, avg := 4 }, {}] } })] }, 31, ⟨100, 0⟩, ({ input := 3, shift := 2, avg := 4 } : SeqEntry), ([{}] : List SeqEntry), { start := 400000100 }, by decide +kernel⟩,
   ⟨{ st .run 4095 with acq.conv := [(31, { injDue := [5, 400000100, 400000900], cur := some { start := 400000100, entry := 1 }, regRun := some { entries := [{}, {}], next := 2 }, cfg := { injSeq := [{ input := 3, shift := 2, avg := 4 }, {}] } })] }, 31, ⟨100, 0⟩, ({ input := 3, shift := 2, avg := 4 } : SeqEntry), ([{}] : List SeqEntry), { start := 400000100, entry := 1 }, { entries := [{}, {}], next := 2 }, by decide +kernel⟩,
   ⟨{ st .run 4095 with acq.conv := [(31, { injDue := [5, 400000100, 400000900], cur := some { start := 400000100, inj := true }, cfg := { injSeq := [{ input := 3, shift := 2, avg := 4 }, {}] } })] }, 31, ⟨100, 0⟩, ({ input := 3, shift := 2, avg := 4 } : SeqEntry), ([{}] : List SeqEntry), { start := 400000100, inj := true }, by decide +kernel⟩,
   ⟨{ st .run 4095 with acq.conv := [(31, { injDue := [5, 400000100, 400000900], injHeld := true, cur := some { start := 400000099 }, cfg := { injSeq := [{ input := 3, shift := 2, avg := 4 }, {}] } })] }, 31, ⟨100, 0⟩, ({ input := 3, shift := 2, avg := 4 } : SeqEntry), ([{}] : List SeqEntry), { start := 400000099 }, by decide +kernel⟩,
   ⟨{ st .run 4095 with acq.conv := [(31, { injDue := [5, 400000100, 400000900], freeAt := some 400000100, cfg := { injSeq := [{ input := 3, shift := 2, avg := 4 }, {}] } })] }, 31, ⟨100, 0⟩, ({ input := 3, shift := 2, avg := 4 } : SeqEntry), ([{}] : List SeqEntry), by decide +kernel⟩,
   ⟨{ st .run 4095 with acq.conv := [(31, { injDue := [5, 400000100, 400000900], cur := some { inj := true, start := 399999700, taken := 3, cfg := { avg := 4 } }, injRun := some { entries := ([{}] : List SeqEntry), next := 1 }, cfg := { injSeq := [{ input := 3, shift := 2, avg := 4 }, {}] } })] }, 31, ⟨100, 0⟩, ({ input := 3, shift := 2, avg := 4 } : SeqEntry), ([{}] : List SeqEntry), { entries := ([{}] : List SeqEntry), next := 1 }, by decide +kernel⟩,
   ⟨{ st .run 4095 with acq.conv := [(31, { injDue := [5, 400000100, 400000900], test := some { start := 399974501 }, cfg := { injSeq := [{ input := 3, shift := 2, avg := 4 }, {}] } })] }, 31, ⟨100, 0⟩, ({ input := 3, shift := 2, avg := 4 } : SeqEntry), ([{}] : List SeqEntry), { start := 399974501 }, by decide +kernel⟩,
   ⟨st .run 4095, 31, ⟨100, 0⟩, by decide +kernel⟩⟩

theorem meets_FreeConvertersTakeTheWorkInOrder :
  (∃ s : State, ∃ k : Fin 32, ∃ t : Instant,
    let x : Converter := { s.conv k.val with freeAt := none }
    ∃ r,
    (s.conv k.val).freeAt = some (pointOf s t) ∧ x.injRun = some r ∧ x.injArr = false ∧ x.regArr = false) ∧
  (∃ s : State, ∃ k : Fin 32, ∃ t : Instant,
    let x : Converter := { s.conv k.val with freeAt := none }
    ∃ e, ∃ es,
    (s.conv k.val).freeAt = some (pointOf s t) ∧ x.injRun = none ∧ x.cfg.injSeq = e :: es ∧ x.injHeld = true ∧ x.injArr = false ∧ x.regArr = false) ∧
  (∃ s : State, ∃ k : Fin 32, ∃ t : Instant,
    let x : Converter := { s.conv k.val with freeAt := none }
    ∃ e, ∃ es,
    (s.conv k.val).freeAt = some (pointOf s t) ∧ x.injRun = none ∧ x.cfg.injSeq = e :: es ∧ x.injHeld = true ∧ x.injArr = true ∧ x.regArr = false) ∧
  (∃ s : State, ∃ k : Fin 32, ∃ t : Instant,
    let x : Converter := { s.conv k.val with freeAt := none }
    ∃ e, ∃ es,
    (s.conv k.val).freeAt = some (pointOf s t) ∧ x.injRun = none ∧ x.cfg.injSeq = e :: es ∧ x.injHeld = false ∧ x.injArr = true ∧ x.regArr = false) ∧
  (∃ s : State, ∃ k : Fin 32, ∃ t : Instant,
    let x : Converter := { s.conv k.val with freeAt := none }
    ∃ e, ∃ es,
    (s.conv k.val).freeAt = some (pointOf s t) ∧ x.injRun = none ∧ x.cfg.injSeq = e :: es ∧ (x.injHeld = true ∨ x.injArr = true) ∧ x.regArr = true ∧ x.regHeld = false) ∧
  (∃ s : State, ∃ k : Fin 32, ∃ t : Instant,
    let x : Converter := { s.conv k.val with freeAt := none }
    ∃ r,
    (s.conv k.val).freeAt = some (pointOf s t) ∧ x.injRun = none ∧ x.injHeld = false ∧ x.injArr = false ∧ x.regRun = some r) ∧
  (∃ s : State, ∃ k : Fin 32, ∃ t : Instant,
    let x : Converter := { s.conv k.val with freeAt := none }
    ∃ e, ∃ es,
    (s.conv k.val).freeAt = some (pointOf s t) ∧ x.injRun = none ∧ x.injHeld = false ∧ x.injArr = false ∧ x.regRun = none ∧ x.cfg.regSeq = e :: es ∧ x.regHeld = true ∧ x.regArr = false) ∧
  (∃ s : State, ∃ k : Fin 32, ∃ t : Instant,
    let x : Converter := { s.conv k.val with freeAt := none }
    ∃ e, ∃ es,
    (s.conv k.val).freeAt = some (pointOf s t) ∧ x.injRun = none ∧ x.injHeld = false ∧ x.injArr = false ∧ x.regRun = none ∧ x.cfg.regSeq = e :: es ∧ x.regHeld = false ∧ x.regArr = true) ∧
  (∃ s : State, ∃ k : Fin 32, ∃ t : Instant,
    let x : Converter := { s.conv k.val with freeAt := none }
    ∃ e, ∃ es,
    (s.conv k.val).freeAt = some (pointOf s t) ∧ x.injRun = none ∧ x.injHeld = false ∧ x.injArr = false ∧ x.regRun = none ∧ x.cfg.regSeq = e :: es ∧ x.regHeld = true ∧ x.regArr = true) ∧
  (∃ s : State, ∃ k : Fin 32, ∃ t : Instant,
    let x : Converter := { s.conv k.val with freeAt := none }
    (s.conv k.val).freeAt = some (pointOf s t) ∧ x.injRun = none ∧ x.injHeld = false ∧ x.injArr = false ∧ x.regRun = none ∧ x.regHeld = false ∧ x.regArr = false) ∧
  (∃ s : State, ∃ k : Fin 32, ∃ t : Instant, (s.conv k.val).freeAt ≠ some (pointOf s t)) :=
  ⟨⟨{ st .run 4095 with acq.conv := [(31, { freeAt := some 400000100, injRun := some { entries := [{}, { input := 2 }], next := 1 } })] }, 31, ⟨100, 0⟩, { entries := [{}, { input := 2 }], next := 1 }, by decide +kernel⟩,
   ⟨{ st .run 4095 with acq.conv := [(31, { freeAt := some 400000100, injHeld := true, regHeld := true, cfg := { injSeq := [{ input := 3, shift := 2, avg := 4 }, {}] } })] }, 31, ⟨100, 0⟩, ({ input := 3, shift := 2, avg := 4 } : SeqEntry), ([{}] : List SeqEntry), by decide +kernel⟩,
   ⟨{ st .run 4095 with acq.conv := [(31, { freeAt := some 400000100, injHeld := true, injArr := true, cfg := { injSeq := [{ input := 3, shift := 2, avg := 4 }, {}] } })] }, 31, ⟨100, 0⟩, ({ input := 3, shift := 2, avg := 4 } : SeqEntry), ([{}] : List SeqEntry), by decide +kernel⟩,
   ⟨{ st .run 4095 with acq.conv := [(31, { freeAt := some 400000100, injArr := true, cfg := { injSeq := [{ input := 3, shift := 2, avg := 4 }, {}] } })] }, 31, ⟨100, 0⟩, ({ input := 3, shift := 2, avg := 4 } : SeqEntry), ([{}] : List SeqEntry), by decide +kernel⟩,
   ⟨{ st .run 4095 with acq.conv := [(31, { freeAt := some 400000100, injArr := true, injHeld := true, regArr := true, cfg := { injSeq := [{ input := 3, shift := 2, avg := 4 }, {}] } })] }, 31, ⟨100, 0⟩, ({ input := 3, shift := 2, avg := 4 } : SeqEntry), ([{}] : List SeqEntry), by decide +kernel⟩,
   ⟨{ st .run 4095 with acq.conv := [(31, { freeAt := some 400000100, regRun := some { entries := [{}, { input := 2 }], next := 1 } })] }, 31, ⟨100, 0⟩, { entries := [{}, { input := 2 }], next := 1 }, by decide +kernel⟩,
   ⟨{ st .run 4095 with acq.conv := [(31, { freeAt := some 400000100, regHeld := true, cfg := { regSeq := [{ input := 3, shift := 2, avg := 4 }, {}] } })] }, 31, ⟨100, 0⟩, ({ input := 3, shift := 2, avg := 4 } : SeqEntry), ([{}] : List SeqEntry), by decide +kernel⟩,
   ⟨{ st .run 4095 with acq.conv := [(31, { freeAt := some 400000100, regArr := true, cfg := { regSeq := [{ input := 3, shift := 2, avg := 4 }, {}] } })] }, 31, ⟨100, 0⟩, ({ input := 3, shift := 2, avg := 4 } : SeqEntry), ([{}] : List SeqEntry), by decide +kernel⟩,
   ⟨{ st .run 4095 with acq.conv := [(31, { freeAt := some 400000100, regHeld := true, regArr := true, cfg := { regSeq := [{ input := 3, shift := 2, avg := 4 }, {}] } })] }, 31, ⟨100, 0⟩, ({ input := 3, shift := 2, avg := 4 } : SeqEntry), ([{}] : List SeqEntry), by decide +kernel⟩,
   ⟨{ st .run 4095 with acq.conv := [(31, { freeAt := some 400000100 })] }, 31, ⟨100, 0⟩, by decide +kernel⟩,
   ⟨st .run 4095, 31, ⟨100, 0⟩, by decide +kernel⟩⟩

theorem meets_CodesAreRounded :
  (∃ a : AnalogIn, ∃ n : Nat, n ≤ 4095 ∧ (2 * n - 1) * 2500000000000 ≤ 8192 * (a.ain - a.ainn) ∧ 8192 * (a.ain - a.ainn) < (2 * n + 1) * 2500000000000) ∧
  (∃ a : AnalogIn, a.ain < a.ainn) ∧
  (∃ a : AnalogIn, 8191 * 2500000000000 ≤ 8192 * (a.ain - a.ainn)) :=
  ⟨⟨⟨0, 305175781⟩, 0, by decide +kernel⟩,
   ⟨⟨-1, 0⟩, by decide +kernel⟩,
   ⟨⟨2500000000000, 0⟩, by decide +kernel⟩⟩

theorem meets_SlotEndsGiveResults :
  (∃ s : State, ∃ k : Fin 32, ∃ a : AnalogIn, ∃ b : AnalogIn, ∃ t : Instant, ∃ v : Conversion, (s.conv k.val).test = none ∧ (s.conv k.val).cur = some v ∧ v.start + 400 = pointOf s t ∧ t.lp ≤ 5850 ∧ (s.pair.st ≠ 1 ∨ s.md.mode = .degraded ∨ max (Adc.codeOf a) (Adc.codeOf b) - min (Adc.codeOf a) (Adc.codeOf b) ≤ (s.conv k.val).cfg.tol) ∧ v.taken + 1 < v.cfg.avg) ∧
  (∃ s : State, ∃ k : Fin 32, ∃ a : AnalogIn, ∃ b : AnalogIn, ∃ t : Instant, ∃ v : Conversion, ∃ r, (s.conv k.val).test = none ∧ (s.conv k.val).cur = some v ∧ v.start + 400 = pointOf s t ∧ t.lp ≤ 5850 ∧ (s.pair.st ≠ 1 ∨ s.md.mode = .degraded ∨ max (Adc.codeOf a) (Adc.codeOf b) - min (Adc.codeOf a) (Adc.codeOf b) ≤ (s.conv k.val).cfg.tol) ∧ v.cfg.avg ≤ v.taken + 1 ∧ v.inj = false ∧ (s.conv k.val).regRun = some r) ∧
  (∃ s : State, ∃ k : Fin 32, ∃ a : AnalogIn, ∃ b : AnalogIn, ∃ t : Instant, ∃ v : Conversion, ∃ r, (s.conv k.val).test = none ∧ (s.conv k.val).cur = some v ∧ v.start + 400 = pointOf s t ∧ t.lp ≤ 5850 ∧ (s.pair.st ≠ 1 ∨ s.md.mode = .degraded ∨ max (Adc.codeOf a) (Adc.codeOf b) - min (Adc.codeOf a) (Adc.codeOf b) ≤ (s.conv k.val).cfg.tol) ∧ v.cfg.avg ≤ v.taken + 1 ∧ v.inj = true ∧ (s.conv k.val).injRun = some r) ∧
  (∃ s : State, ∃ k : Fin 32, ∃ a : AnalogIn, ∃ b : AnalogIn, ∃ t : Instant, ∃ v : Conversion, (s.conv k.val).test = none ∧ (s.conv k.val).cur = some v ∧ v.start + 400 = pointOf s t ∧ v.taken + 1 < v.cfg.avg ∧ s.pair.st = 1 ∧ s.md.mode ≠ .degraded ∧ (s.conv k.val).cfg.tol < max (Adc.codeOf a) (Adc.codeOf b) - min (Adc.codeOf a) (Adc.codeOf b)) ∧
  (∃ s : State, ∃ k : Fin 32, ∃ t : Instant, (s.conv k.val).test = none ∧ ((s.conv k.val).cur = none ∨ ∃ v, (s.conv k.val).cur = some v ∧ v.start + 400 ≠ pointOf s t)) ∧
  (∃ s : State, ∃ k : Fin 32, ∃ t : Instant, ∃ v : ConvTest, (s.conv k.val).test = some v ∧ v.start + 400 * (v.taken + 1) = pointOf s t) :=
  ⟨⟨{ st .run 4095 with acq.conv := [(31, { cur := some { start := 399999700, cfg := { input := 3, avg := 2 } } })] }, 31, ⟨2500000000000, 0⟩, ⟨2495000000000, 0⟩, ⟨100, 0⟩, { start := 399999700, cfg := { input := 3, avg := 2 } }, by decide +kernel⟩,
   ⟨{ st .run 4095 with acq.conv := [(31, { regRun := some { entries := ([{}] : List SeqEntry), next := 1 }, cur := some { start := 399999700, cfg := { input := 3, avg := 1 } } })] }, 31, ⟨2500000000000, 0⟩, ⟨2495000000000, 0⟩, ⟨100, 0⟩, { start := 399999700, cfg := { input := 3, avg := 1 } }, { entries := ([{}] : List SeqEntry), next := 1 }, by decide +kernel⟩,
   ⟨{ st .run 4095 with acq.conv := [(31, { injRun := some { entries := ([{}] : List SeqEntry), next := 1 }, cur := some { inj := true, start := 399999700, cfg := { input := 3, avg := 1 } } })] }, 31, ⟨2500000000000, 0⟩, ⟨2495000000000, 0⟩, ⟨100, 0⟩, { inj := true, start := 399999700, cfg := { input := 3, avg := 1 } }, { entries := ([{}] : List SeqEntry), next := 1 }, by decide +kernel⟩,
   ⟨{ st .run 4095 with acq.conv := [(31, { mismatchRun := 14, cur := some { start := 399999700, cfg := { input := 3, avg := 2 } } })] }, 31, ⟨0, 0⟩, ⟨5800000000, 0⟩, ⟨100, 0⟩, { start := 399999700, cfg := { input := 3, avg := 2 } }, by decide +kernel⟩,
   ⟨st .run 4095, 31, ⟨100, 0⟩, by decide +kernel⟩,
   ⟨{ st .run 4095 with acq.conv := [(31, { test := some { start := 400000100 - 400 * 63, taken := 62, sumA := 5 } })] }, 31, ⟨100, 0⟩, { start := 400000100 - 400 * 63, taken := 62, sumA := 5 }, by decide +kernel⟩⟩

theorem meets_ConverterTestsAreJudged :
  (∃ s : State, ∃ k : Fin 32, (s.conv k.val).tested = none) ∧
  (∃ s : State, ∃ k : Fin 32, ∃ v : ConvTest, (s.conv k.val).tested = some v ∧ (2044 * 64 ≤ v.sumA ∧ v.sumA ≤ 2052 * 64 ∨ Pair.runs s 1 = false) ∧ (2044 * 64 ≤ v.sumB ∧ v.sumB ≤ 2052 * 64 ∨ Pair.runs s 2 = false)) ∧
  (∃ s : State, ∃ k : Fin 32, ∃ t : Instant, ∃ v : ConvTest, (s.conv k.val).tested = some v ∧ s.pair.st = 1 ∧ (v.sumA < 2044 * 64 ∨ 2052 * 64 < v.sumA) ∧ 2044 * 64 ≤ v.sumB ∧ v.sumB ≤ 2052 * 64 ∧ t.lp ≤ 6150) ∧
  (∃ s : State, ∃ k : Fin 32, ∃ t : Instant, ∃ v : ConvTest, (s.conv k.val).tested = some v ∧ s.pair.st = 1 ∧ (v.sumA < 2044 * 64 ∨ 2052 * 64 < v.sumA) ∧ 2044 * 64 ≤ v.sumB ∧ v.sumB ≤ 2052 * 64 ∧ 6150 < t.lp) ∧
  (∃ s : State, ∃ k : Fin 32, ∃ t : Instant, ∃ v : ConvTest, (s.conv k.val).tested = some v ∧ s.pair.st = 1 ∧ 2044 * 64 ≤ v.sumA ∧ v.sumA ≤ 2052 * 64 ∧ (v.sumB < 2044 * 64 ∨ 2052 * 64 < v.sumB) ∧ t.lp ≤ 6150) ∧
  (∃ s : State, ∃ k : Fin 32, ∃ t : Instant, ∃ v : ConvTest, (s.conv k.val).tested = some v ∧ s.pair.st = 1 ∧ 2044 * 64 ≤ v.sumA ∧ v.sumA ≤ 2052 * 64 ∧ (v.sumB < 2044 * 64 ∨ 2052 * 64 < v.sumB) ∧ 6150 < t.lp) :=
  ⟨⟨st .run 4095, 31, by decide +kernel⟩,
   ⟨{ st .run 4095 with acq.conv := [(31, { tested := some { sumA := 2044 * 64, sumB := 2052 * 64 } })] }, 31, { sumA := 2044 * 64, sumB := 2052 * 64 }, by decide +kernel⟩,
   ⟨{ st .run 4095 with acq.conv := [(31, { tested := some { sumA := 2052 * 64 + 1, sumB := 2052 * 64 } })] }, 31, ⟨6150, 0⟩, { sumA := 2052 * 64 + 1, sumB := 2052 * 64 }, by decide +kernel⟩,
   ⟨{ st .run 4095 with acq.conv := [(31, { tested := some { sumA := 2052 * 64 + 1, sumB := 2052 * 64 } })] }, 31, ⟨6151, 0⟩, { sumA := 2052 * 64 + 1, sumB := 2052 * 64 }, by decide +kernel⟩,
   ⟨{ st .run 4095 with acq.conv := [(31, { tested := some { sumB := 2052 * 64 + 1, sumA := 2052 * 64 } })] }, 31, ⟨6150, 0⟩, { sumB := 2052 * 64 + 1, sumA := 2052 * 64 }, by decide +kernel⟩,
   ⟨{ st .run 4095 with acq.conv := [(31, { tested := some { sumB := 2043 * 64, sumA := 2052 * 64 } })] }, 31, ⟨6151, 0⟩, { sumB := 2043 * 64, sumA := 2052 * 64 }, by decide +kernel⟩⟩

theorem meets_TapsAreConfigured :
  (∃ c : Cmd, ∃ s : State, Names c s 3 ∧ c.unit = 0 ∧ s.md.mode = .configure ∧ s.enabled 3 = false ∧ Rest c 10 ∧ locDefined (Arg.u c 4 4) = true ∧ 3840 ≤ Arg.u c 0 2 ∧ Arg.u c 0 2 ≤ 4095 ∧ Arg.u c 2 1 ≤ 3 ∧ (if Arg.u c 2 1 = 1 ∨ Arg.u c 2 1 = 2 then locDie (Arg.u c 4 4) = 1 ∧ locRegion (Arg.u c 4 4) = 2 ∧ locNode (Arg.u c 4 4) = s.nodeId ∧ locUnit (Arg.u c 4 4) < 832 ∧ 1 ≤ locItem (Arg.u c 4 4) ∧ locItem (Arg.u c 4 4) ≤ 8 else Arg.u c 4 4 = 0) ∧ Arg.u c 8 2 ≤ 1023 ∧ (Arg.u c 2 1 = 3 ∨ Arg.u c 8 2 = 0)) ∧
  (∃ c : Cmd, ∃ s : State, Names c s 3 ∧ c.unit = 0 ∧ s.md.mode ∉ [Mode.reset, .boot] ∧ s.enabled 3 = false ∧ Rest c 8 ∧ Arg.u c 5 1 < 4 ∧ 1 ≤ Arg.u c 2 2 ∧ Arg.u c 0 2 + Arg.u c 2 2 ≤ 4096 ∧ 3 ≤ Arg.u c 4 1 ∧ Arg.u c 4 1 ≤ 16 ∧ Arg.u c 6 1 ≤ 8 ∧ Arg.u c 7 1 ≤ 31 ∧ s.hbd.isStream (Arg.u c 7 1) = true ∧ ((Arg.u c 5 1).testBit 1 = true → ∀ i < Arg.u c 2 2, (Taps.tap s (Arg.u c 0 2 + i)).fmt ≠ 7 ∧ (Taps.tap s (Arg.u c 0 2 + i)).fmt ≠ 8)) :=
  ⟨⟨cmd 3 0 [(0, 2, 4095), (2, 1, 2), (3, 1, 255), (4, 4, (mkLoc 0 1 2 5 8 : Nat))], st .configure 0, by decide +kernel⟩,
   ⟨cmd 3 0 [(0, 2, 4094), (2, 2, 2), (4, 1, 16), (5, 1, 1), (6, 1, 8), (7, 1, 31)], { st .run 0 with hbd.rings := [(63, { size := 0x20005 })] }, by decide +kernel⟩⟩

theorem meets_CaptureEnginesAreCommanded :
  (∃ c : Cmd, ∃ s : State,
    let x := capOf s (c.unit - 32)
    ∃ n : Nat,
    let g : CapCfg :=
      { given := true, taps := (List.range n).map fun j => Arg.u c (2 * j) 2, meas := Arg.u c 17 1
        div := Arg.u c 18 2, pre := Arg.u c 20 4, post := Arg.u c 24 4, dma := Arg.u c 28 1, sizeLog2 := Arg.u c 29 1
        ring := Arg.u c 30 1, base := Arg.u c 32 4 }
    Names c s 3 ∧ 32 ≤ c.unit ∧ c.unit < 96 ∧ s.md.mode ∉ [Mode.reset, .boot] ∧ Arg.u c 16 1 = n ∧ Arg.u c 31 1 = 0 ∧ Rest c 36 ∧ x.arm = none ∧ s.enabled 3 = false ∧ 1 ≤ n ∧ n ≤ 8 ∧ (∀ j < n, Arg.u c (2 * j) 2 ≤ 4095) ∧ Arg.u c 17 1 < 2 ^ n ∧ 1 ≤ Arg.u c 18 2 ∧ Arg.u c 20 4 ≤ 65535 ∧ 1 ≤ Arg.u c 24 4 ∧ Arg.u c 20 4 + Arg.u c 24 4 ≤ 65536 ∧ Arg.u c 28 1 ≤ 31 ∧ 8 ≤ Arg.u c 29 1 ∧ Arg.u c 29 1 ≤ 24 ∧ Arg.u c 30 1 ≤ 31 ∧ s.hbd.isStream (Arg.u c 30 1) = true ∧ (∀ j < n, (Arg.u c 17 1).testBit j = true → (Taps.tap s (Arg.u c (2 * j) 2)).fmt ≠ 7 ∧ (Taps.tap s (Arg.u c (2 * j) 2)).fmt ≠ 8) ∧ (Arg.u c 20 4 + Arg.u c 24 4) * AcqOps.rowSize s g ≤ 2 ^ Arg.u c 29 1) ∧
  (∃ c : Cmd, ∃ s : State,
    let x := capOf s (c.unit - 32)
    Names c s 3 ∧ 32 ≤ c.unit ∧ c.unit < 96 ∧ s.md.mode ∉ [Mode.reset, .boot] ∧ Arg.u c 1 1 < 8 ∧ Rest c 36 ∧ x.arm = none ∧ s.enabled 3 = false ∧ Arg.u c 0 1 ≤ 4 ∧ Arg.u c 2 2 ≤ 4095 ∧ Arg.u c 4 2 ≤ Arg.u c 6 2 ∧ (Arg.u c 0 1 = 2 → Arg.s c 8 8 ≤ Arg.s c 16 8) ∧ 0 ≤ Arg.s c 24 8 ∧ (Taps.tap s (Arg.u c 2 2)).fmt ≠ 7 ∧ (Taps.tap s (Arg.u c 2 2)).fmt ≠ 8) ∧
  (∃ c : Cmd, ∃ s : State,
    let x := capOf s (c.unit - 32)
    Names c s 3 ∧ 32 ≤ c.unit ∧ c.unit < 96 ∧ s.md.mode ∉ [Mode.reset, .boot] ∧ Arg.u c 0 1 < 2 ∧ Rest c 1 ∧ s.enabled 3 = true ∧ x.arm = none ∧ x.cfg.given = true ∧ s.hbd.compls.length < 61440) ∧
  (∃ c : Cmd, ∃ s : State,
    let x := capOf s (c.unit - 32)
    Names c s 3 ∧ 32 ≤ c.unit ∧ c.unit < 96 ∧ s.md.mode ∉ [Mode.reset, .boot] ∧ Rest c 0 ∧ s.enabled 3 = true ∧ x.arm = none) ∧
  (∃ c : Cmd, ∃ s : State,
    let x := capOf s (c.unit - 32)
    ∃ o,
    Names c s 3 ∧ 32 ≤ c.unit ∧ c.unit < 96 ∧ s.md.mode ∉ [Mode.reset, .boot] ∧ Rest c 0 ∧ s.enabled 3 = true ∧ x.arm = some o ∧ x.hit = none ∧ x.records = 0 ∧ x.stops = [] ∧ o.sq < 32 ∧ s.tm.due x.cfg.div 0 = false) :=
  ⟨⟨cmd 3 95 [(0, 2, 4095), (2, 2, 1), (16, 1, 2), (17, 1, 3), (18, 2, 1), (20, 4, 10), (24, 4, 20), (28, 1, 31), (29, 1, 12), (30, 1, 31), (32, 4, 4096)], { st .run 0 with hbd.rings := [(63, { size := 0x20005 })] }, 2, by decide +kernel⟩,
   ⟨cmd 3 95 [(0, 1, 4), (1, 1, 7), (2, 2, 4095), (4, 2, 5), (6, 2, 5), (8, 8, -5), (16, 8, -5), (32, 2, 9), (34, 2, 65535)], st .run 0, by decide +kernel⟩,
   ⟨cmd 3 95 [(0, 1, 1)], { st .run 4095 with acq.cap := [(63, { cfg := { given := true } })] }, by decide +kernel⟩,
   ⟨cmd 3 95 [], st .run 4095, by decide +kernel⟩,
   ⟨cmd 3 95 [], { st .run 4095 with acq.cap := [(63, { arm := some { tag := 3, sq := 31 }, taken := 4, lastTrig := 9, cfg := { given := true, div := 7 } })] }, { tag := 3, sq := 31 }, by decide +kernel⟩⟩

theorem meets_CapturesAndIntervals :
  (∃ s : State, ∃ e : Fin 64, ((capOf s e.val).arm = none ∨ s.enabled 3 = false ∨ (capOf s e.val).lastB = s.tm.frame + 1 ∨ s.tm.due (capOf s e.val).cfg.div 0 = false)) ∧
  (∃ s : State, ∃ e : Fin 64,
    let x := capOf s e.val
    let row := x.cfg.taps.map (Taps.tap s)
    let bs := AcqOps.rowBytes row
    let size := 2 ^ x.cfg.sizeLog2
    (capOf s e.val).arm.isSome = true ∧ s.enabled 3 = true ∧ s.tm.due (capOf s e.val).cfg.div 0 = true ∧ (capOf s e.val).lastB ≠ s.tm.frame + 1 ∧ (capOf s e.val).ends = [] ∧ (capOf s e.val).stops = [] ∧ Tab.wf s.deck = true ∧ bs.length ≤ size) ∧
  (∃ s : State, ∃ k : Fin 4096, (Tab.get s.acq.red k.val).ended = none) ∧
  (∃ s : State, ∃ k : Fin 4096, ∃ a : RedAcc, (Tab.get s.acq.red k.val).ended = some a) :=
  ⟨⟨{ st .run 4095 with acq.cap := [(63, { arm := none })] }, 63, by decide +kernel⟩,
   ⟨{ st .run 4095 with deck := [(0, 1), (33554431, 9)], acq.cap := [(63, { arm := some {}, total := 5, hit := some (7, 4), rows := [[{}]], cfg := { given := true, taps := [0, 1], pre := 2, post := 6, sizeLog2 := 8, base := 33554432 - 256 } })] }, 63, by decide +kernel⟩,
   ⟨st .run 4095, 4095, by decide +kernel⟩,
   ⟨{ st .run 4095 with acq.red := [(4095, { ended := some { n := 3 } })] }, 4095, { n := 3 }, by decide +kernel⟩⟩

theorem meets_CountersAreConfigured :
  (∃ c : Cmd, ∃ s : State, c.flags = 1 ∧ c.rsv3 = 0 ∧ c.rsv12 = 0 ∧ locDefined c.locN = true ∧ locNode c.locN = s.nodeId ∧ locDie c.locN = 1 ∧ locUnit c.locN = 0 ∧ locItem c.locN = 0 ∧ s.md.mode ∉ [Mode.reset, .boot] ∧ Rest c 17 ∧ (∀ j < 8, Arg.u c (2 * j) 2 ≤ 7 ∨ 16 ≤ Arg.u c (2 * j) 2 ∧ Arg.u c (2 * j) 2 ≤ RecOps.selMax 1 (locRegion c.locN))) ∧
  (∃ c : Cmd, ∃ s : State, Names c s 7 ∧ c.unit = 5 ∧ s.md.mode ∉ [Mode.reset, .boot] ∧ Rest c 3 ∧ Arg.u c 0 1 ≤ 1 ∧ 6 ≤ Arg.u c 1 1 ∧ Arg.u c 1 1 ≤ 16 ∧ Arg.u c 2 1 ≤ 31 ∧ s.hbd.isStream (Arg.u c 2 1) = true) ∧
  (∃ c : Cmd, ∃ s : State, Names c s 7 ∧ c.unit = 5 ∧ s.md.mode ∉ [Mode.reset, .boot] ∧ Rest c 6 ∧ Arg.u c 1 1 = 0 ∧ Arg.u c 0 1 ≤ 1 ∧ (Arg.u c 2 2 ≤ 1023 ∨ Arg.u c 2 2 = 0xFFFF) ∧ 1 ≤ Arg.u c 4 2) :=
  ⟨⟨{ cmd 3 0 [(0, 2, 7), (2, 2, 16), (4, 2, 3), (16, 1, 4)] with loc := BitVec.ofNat 32 (mkLoc 0 1 3 0 0) }, { st .run 4095 with log.counters := [(11, { busy := 4, sel := [7, 5, 3, 0, 0, 0, 0, 0], cnt := [9, 8, 7, 6, 5, 4, 3, 2] })] }, by decide +kernel⟩,
   ⟨cmd 7 5 [(0, 1, 1), (1, 1, 16), (2, 1, 31)], { st .run 0 with hbd.rings := [(63, { size := 0x20005 })] }, by decide +kernel⟩,
   ⟨cmd 7 5 [(0, 1, 1), (2, 2, 65535), (4, 2, 1)], st .run 0, by decide +kernel⟩⟩

theorem meets_CountersAreDumped :
  (∃ s : State, (s.log.dumpEn = false ∨ s.tm.due (2 ^ s.log.dumpN) 0 = false ∨ s.log.captureFrame = s.tm.frame + 1)) ∧
  (∃ s : State, s.log.dumpEn = true ∧ s.tm.due (2 ^ s.log.dumpN) 0 = true ∧ s.log.captureFrame ≠ s.tm.frame + 1) ∧
  (∃ s : State, s.hbd.mayWrite = false) :=
  ⟨⟨st .run 4095, by decide +kernel⟩,
   ⟨{ st .run 4095 with log.dumpEn := true, log.dumpN := 9 }, by decide +kernel⟩,
   ⟨{ st .run 4095 with hbd.pollEn := false }, by decide +kernel⟩⟩

theorem meets_RecipesAreLoaded :
  (∃ c : Cmd, ∃ s : State, Names c s 4 ∧ 16 ≤ c.unit ∧ s.md.mode = .configure ∧ s.enabled 5 = false ∧ Rest c 6 ∧ 12 ≤ Arg.u c 4 1 ∧ Arg.u c 4 1 ≤ 24) ∧
  (∃ c : Cmd, ∃ s : State, ∃ bs : Bytes, Names c s 4 ∧ 16 ≤ c.unit ∧ s.md.mode ∈ [Mode.configure, .run, .hold] ∧ s.enabled 5 = true ∧ Rest c 12 ∧ (s.seqr (c.unit - 16)).given = true ∧ Arg.u c 8 4 ≤ 2 ^ (s.seqr (c.unit - 16)).sizeLog2 ∧ (s.seqr (c.unit - 16)).st = 0 ∧ Seq.checkTable s (s.seqr (c.unit - 16)) bs = none) ∧
  (∃ c : Cmd, ∃ s : State, ∃ bs : Bytes, ∃ r, Names c s 4 ∧ 16 ≤ c.unit ∧ s.md.mode ∈ [Mode.configure, .run, .hold] ∧ s.enabled 5 = true ∧ Rest c 12 ∧ (s.seqr (c.unit - 16)).given = true ∧ Arg.u c 8 4 ≤ 2 ^ (s.seqr (c.unit - 16)).sizeLog2 ∧ (s.seqr (c.unit - 16)).st = 0 ∧ Seq.checkTable s (s.seqr (c.unit - 16)) bs = some r) ∧
  (∃ c : Cmd, ∃ s : State, Names c s 4 ∧ 16 ≤ c.unit ∧ s.md.mode ∉ [Mode.reset, .boot] ∧ Rest c 0 ∧ s.enabled 5 = true) :=
  ⟨⟨cmd 4 31 [(0, 4, 4096), (4, 1, 12), (5, 1, 255)], { st .configure 0 with prog.seqs := [(15, { given := true, base := 4096, sizeLog2 := 12, loaded := true })] }, by decide +kernel⟩,
   ⟨cmd 4 31 [(0, 8, 64), (8, 4, 64)], { st .hold 4095 with prog.seqs := [(15, { given := true, base := 4096, sizeLog2 := 12 })] }, recipeFile, by decide +kernel⟩,
   ⟨cmd 4 31 [(0, 8, 64), (8, 4, 64)], { st .hold 4095 with prog.seqs := [(15, { given := true, base := 4096, sizeLog2 := 12 })] }, recipeFile.take 63, 0x82, by decide +kernel⟩,
   ⟨cmd 4 31 [], { st .run 4095 with prog.seqs := [(15, { loaded := true, recipe := 4294967295, running := true, cur := 4095, st := 1, lastK := 77 })] }, by decide +kernel⟩⟩

theorem meets_RecipesStartAndResume :
  (∃ c : Cmd, ∃ s : State,
    let x := s.seqr (c.unit - 16)
    Names c s 4 ∧ 16 ≤ c.unit ∧ s.md.mode = .run ∧ s.enabled 5 = true ∧ Arg.u c 2 2 = 0 ∧ Rest c 16 ∧ Arg.u c 12 4 < 10 ^ 9 ∧ Arg.u c 12 4 % 15625 = 0 ∧ s.hbd.compls.length < 61440 ∧ x.st = 0 ∧ x.given = true ∧ x.loaded = true ∧ x.group = 0 ∧ Arg.u c 0 2 < x.steps) ∧
  (∃ c : Cmd, ∃ s : State,
    let x := s.seqr (c.unit - 16)
    Names c s 4 ∧ 16 ≤ c.unit ∧ s.md.mode = .run ∧ s.enabled 5 = true ∧ Rest c 0 ∧ x.st = 2 ∧ x.group = 0) ∧
  (∃ c : Cmd, ∃ s : State, Names c s 4 ∧ 16 ≤ c.unit ∧ s.md.mode = .run ∧ s.enabled 5 = true ∧ Rest c 0 ∧ (s.seqr (c.unit - 16)).st ≠ 2) :=
  ⟨⟨cmd 4 31 [(4, 8, 1), (12, 4, 999984375)], { st .run 4095 with deck := recipeDeck [dirEntry 200 1 5 9 0xFFFF] [], prog.seqs := [(15, { given := true, loaded := true, steps := 1, sizeLog2 := 12 })] }, by decide +kernel⟩,
   ⟨cmd 4 31 [], { st .run 4095 with deck := recipeDeck [dirEntry 200 1 5 9 0xFFFF] [], prog.seqs := [(15, { given := true, loaded := true, steps := 1, sizeLog2 := 12, st := 2, cause := 3 })] }, by decide +kernel⟩,
   ⟨cmd 4 31 [], { st .run 4095 with deck := recipeDeck [dirEntry 200 1 5 9 0xFFFF] [], prog.seqs := [(15, { given := true, loaded := true, steps := 1, sizeLog2 := 12 })] }, by decide +kernel⟩⟩

theorem meets_StepsPrepareAndCommit :
  (∃ s : State, ∃ q : Fin 16, ((s.seqr q.val).st ≠ 1 ∨ (s.seqr q.val).pend = false ∨ (s.seqr q.val).prepDone = true)) ∧
  (∃ s : State, ∃ q : Fin 16,
    let x := s.seqr q.val
    let r := Seq.wouldFail s (Seq.actions s x (Seq.step s x x.nxt))
    (s.seqr q.val).st = 1 ∧ (s.seqr q.val).pend = true ∧ (s.seqr q.val).prepDone = false ∧ r = 0) ∧
  (∃ s : State, ∃ q : Fin 16,
    let x := s.seqr q.val
    let r := Seq.wouldFail s (Seq.actions s x (Seq.step s x x.nxt))
    (s.seqr q.val).st = 1 ∧ (s.seqr q.val).pend = true ∧ (s.seqr q.val).prepDone = false ∧ r ≠ 0 ∧ x.running = false ∧ x.org.sq < 32 ∧ s.hbd.compls.length < 61440) ∧
  (∃ s : State, ∃ q : Fin 16, ∃ k : Nat,
    let x := s.seqr q.val
    s.enabled 5 = true ∧ (s.seqr q.val).st = 1 ∧ (s.seqr q.val).pend = true ∧ (s.seqr q.val).group = 0 ∧ (s.seqr q.val).k = some k ∧ (k = s.tm.frame ∨ k < s.tm.frame ∧ k < s.tm.first) ∧ s.permMode ≠ .hold ∧ (s.seqr q.val).org.sq < 32 ∧ s.hbd.compls.length < 61440 ∧ x.prepDone = true ∧ x.prepMissed = false ∧ x.prepFail = 0 ∧ Seq.actions s x (Seq.step s x x.nxt) = []) ∧
  (∃ s : State, ∃ q : Fin 16, ∃ k : Nat,
    let x := s.seqr q.val
    ∃ a,
    s.enabled 5 = true ∧ (s.seqr q.val).st = 1 ∧ (s.seqr q.val).pend = true ∧ (s.seqr q.val).group = 0 ∧ (s.seqr q.val).k = some k ∧ (k = s.tm.frame ∨ k < s.tm.frame ∧ k < s.tm.first) ∧ s.permMode ≠ .hold ∧ (s.seqr q.val).org.sq < 32 ∧ s.hbd.compls.length < 61440 ∧ x.prepDone = true ∧ x.prepMissed = false ∧ x.prepFail = 0 ∧ Seq.actions s x (Seq.step s x x.nxt) = [a] ∧ a.kind = 2 ∧ (s.valve a.target).cfg.drive = 1) ∧
  (∃ s : State, ∃ q : Fin 16, ∃ k : Nat,
    let x := s.seqr q.val
    ∃ a,
    s.enabled 5 = true ∧ (s.seqr q.val).st = 1 ∧ (s.seqr q.val).pend = true ∧ (s.seqr q.val).group = 0 ∧ (s.seqr q.val).k = some k ∧ (k = s.tm.frame ∨ k < s.tm.frame ∧ k < s.tm.first) ∧ s.permMode ≠ .hold ∧ (s.seqr q.val).org.sq < 32 ∧ s.hbd.compls.length < 61440 ∧ x.prepDone = true ∧ x.prepMissed = false ∧ x.prepFail = 0 ∧ Seq.actions s x (Seq.step s x x.nxt) = [a] ∧ a.kind = 2 ∧ (s.valve a.target).cfg.drive ≠ 1) ∧
  (∃ s : State, ∃ q : Fin 16, ∃ k : Nat,
    let x := s.seqr q.val
    ∃ a,
    s.enabled 5 = true ∧ (s.seqr q.val).st = 1 ∧ (s.seqr q.val).pend = true ∧ (s.seqr q.val).group = 0 ∧ (s.seqr q.val).k = some k ∧ (k = s.tm.frame ∨ k < s.tm.frame ∧ k < s.tm.first) ∧ s.permMode ≠ .hold ∧ (s.seqr q.val).org.sq < 32 ∧ s.hbd.compls.length < 61440 ∧ x.prepDone = true ∧ x.prepMissed = false ∧ x.prepFail = 0 ∧ Seq.actions s x (Seq.step s x x.nxt) = [a] ∧ a.kind = 1 ∧ s.enabled 1 = true ∧ (s.slot (locUnit a.target)).cfg.inUse = true ∧ (s.slot (locUnit a.target)).cfg.src.getD 0 0 / 2 ^ 28 % 16 = 1) ∧
  (∃ s : State, ∃ q : Fin 16, ∃ k : Nat,
    let x := s.seqr q.val
    s.enabled 5 = true ∧ (s.seqr q.val).st = 1 ∧ (s.seqr q.val).pend = true ∧ (s.seqr q.val).group = 0 ∧ (s.seqr q.val).k = some k ∧ (k = s.tm.frame ∨ k < s.tm.frame ∧ k < s.tm.first) ∧ s.permMode ≠ .hold ∧ (s.seqr q.val).org.sq < 32 ∧ s.hbd.compls.length < 61440 ∧ (x.prepDone = false ∨ x.prepMissed = true)) ∧
  (∃ s : State, ∃ q : Fin 16, ∃ k : Nat, s.enabled 5 = true ∧ (s.seqr q.val).st = 1 ∧ (s.seqr q.val).pend = true ∧ (s.seqr q.val).group = 0 ∧ (s.seqr q.val).k = some k ∧ s.tm.first ≤ k ∧ k < s.tm.frame ∧ s.permMode ≠ .hold ∧ (s.seqr q.val).org.sq < 32 ∧ (s.seqr q.val).prepDone = true ∧ (s.seqr q.val).prepMissed = false ∧ (s.seqr q.val).prepFail = 0 ∧ Seq.actions s (s.seqr q.val) (Seq.step s (s.seqr q.val) (s.seqr q.val).nxt) = []) ∧
  (∃ s : State, ∃ q : Fin 16, ∃ k : Nat, (s.seqr q.val).group = 0 ∧ (s.seqr q.val).k = some k ∧ s.tm.frame < k) ∧
  (∃ s : State, ∃ q : Fin 16, (s.enabled 5 = false ∨ (s.seqr q.val).pend = false)) :=
  ⟨⟨st .run 4095, 15, by decide +kernel⟩,
   ⟨{ st .run 4095 with deck := recipeDeck [dirEntry 0 1 5 9 0xFFFF] [], prog.seqs := [(15, { st := 1, pend := true, steps := 1 })] }, 15, by decide +kernel⟩,
   ⟨{ st .run 4095 with deck := recipeDeck [dirEntry 1 1 5 9 0xFFFF] (action 1 (mkLoc 0 1 2 3 0) 5), prog.seqs := [(15, { st := 1, pend := true, steps := 1, org := { tag := 3, sq := 31 } })] }, 15, by decide +kernel⟩,
   ⟨{ st .run 4095 with deck := recipeDeck [dirEntry 0 1 5 9 0xFFFF, dirEntry 0 1 5 9 0xFFFF] [], prog.seqs := [(15, { st := 1, pend := true, steps := 2, k := some 64000, prepDone := true, deferrals := 3 })] }, 15, 64000, by decide +kernel⟩,
   ⟨{ st .run 4095 with out.valves := [(63, { cfg := { drive := 1 } })], deck := recipeDeck [dirEntry 1 1 5 9 0xFFFF] (action 2 63 1), prog.seqs := [(15, { st := 1, pend := true, steps := 1, k := some 64000, prepDone := true })] }, 15, 64000, ⟨0, 2, 63, 1, 0, true⟩, by decide +kernel⟩,
   ⟨{ st .run 4095 with deck := recipeDeck [dirEntry 1 1 5 9 0xFFFF] (action 2 63 1), prog.seqs := [(15, { st := 1, pend := true, steps := 1, k := some 64000, prepDone := true })] }, 15, 64000, ⟨0, 2, 63, 1, 0, true⟩, by decide +kernel⟩,
   ⟨{ st .run 4095 with loop.slots := [(3, { cfg := { inUse := true, src := [0x10000000] } })], deck := recipeDeck [dirEntry 1 1 5 9 0xFFFF] (action 1 (mkLoc 0 1 2 3 0) 0x800000), prog.seqs := [(15, { st := 1, pend := true, steps := 1, k := some 64000, prepDone := true })] }, 15, 64000, ⟨0, 1, mkLoc 0 1 2 3 0, 0x800000, 0, true⟩, by decide +kernel⟩,
   ⟨{ st .run 4095 with prog.seqs := [(15, { st := 1, pend := true, steps := 1, k := some 64000, deferrals := 65535 })] }, 15, 64000, by decide +kernel⟩,
   ⟨{ st .run 4095 with tm.first := 63990, deck := recipeDeck [dirEntry 0 1 5 9 0xFFFF, dirEntry 0 1 5 9 0xFFFF] [], prog.seqs := [(15, { st := 1, pend := true, steps := 2, k := some 63998, prepDone := true, deferrals := 3 })] }, 15, 63998, by decide +kernel⟩,
   ⟨{ st .run 4095 with prog.seqs := [(15, { st := 1, pend := true, k := some 64001 })] }, 15, 64001, by decide +kernel⟩,
   ⟨st .run 4095, 15, by decide +kernel⟩⟩

theorem meets_StepsEndAndTimeOut :
  (∃ s : State, ∃ q : Fin 16, ((s.seqr q.val).st ≠ 1 ∨ (s.seqr q.val).running = false)) ∧
  (∃ s : State, ∃ q : Fin 16, ((s.seqr q.val).st ≠ 1 ∨ (s.seqr q.val).running = false)) ∧
  (∃ s : State, ∃ q : Fin 16,
    let x := s.seqr q.val
    let d := Seq.step s x x.cur
    (s.seqr q.val).st = 1 ∧ (s.seqr q.val).running = true ∧ d.kind = 1 ∧ s.prog.conds.testBit d.a ≠ decide (d.b = 0)) ∧
  (∃ s : State, ∃ q : Fin 16,
    let x := s.seqr q.val
    let d := Seq.step s x x.cur
    (s.seqr q.val).st = 1 ∧ (s.seqr q.val).running = true ∧ d.kind = 1 ∧ s.prog.conds.testBit d.a = decide (d.b = 0) ∧ x.pend = false ∧ x.org.sq < 32) ∧
  (∃ s : State, ∃ q : Fin 16,
    let x := s.seqr q.val
    let d := Seq.step s x x.cur
    (s.seqr q.val).st = 1 ∧ (s.seqr q.val).running = true ∧ d.kind = 1 ∧ s.prog.conds.testBit d.a = decide (d.b = 0) ∧ x.pend = true ∧ x.actionFail = false ∧ s.md.mode ≠ .degraded ∧ (x.prepDone = false ∨ x.prepFail = 0) ∧ x.group = 0) ∧
  (∃ s : State, ∃ q : Fin 16,
    let x := s.seqr q.val
    let d := Seq.step s x x.cur
    (s.seqr q.val).st = 1 ∧ (s.seqr q.val).running = true ∧ d.kind = 1 ∧ s.prog.conds.testBit d.a ≠ decide (d.b = 0) ∧ d.timeout ≠ 0 ∧ d.timeout ≤ x.cnt ∧ d.onTimeout ≠ 0xFFFF ∧ x.group = 0) ∧
  (∃ s : State, ∃ q : Fin 16,
    let x := s.seqr q.val
    let d := Seq.step s x x.cur
    (s.seqr q.val).st = 1 ∧ (s.seqr q.val).running = true ∧ d.kind = 1 ∧ s.prog.conds.testBit d.a ≠ decide (d.b = 0) ∧ d.timeout ≠ 0 ∧ d.timeout ≤ x.cnt ∧ d.onTimeout = 0xFFFF ∧ x.org.sq < 32 ∧ s.hbd.compls.length < 61440) ∧
  (∃ s : State, ∃ q : Fin 16,
    let x := s.seqr q.val
    let d := Seq.step s x x.cur
    (s.seqr q.val).st = 1 ∧ (s.seqr q.val).running = true ∧ (d.timeout = 0 ∨ x.cnt < d.timeout)) :=
  ⟨⟨st .run 4095, 15, by decide +kernel⟩,
   ⟨st .run 4095, 15, by decide +kernel⟩,
   ⟨{ st .run 4095 with deck := recipeDeck [dirEntry 0 1 5 9 0xFFFF] [], prog.seqs := [(15, { st := 1, running := true, steps := 1 })] }, 15, by decide +kernel⟩,
   ⟨{ st .run 4095 with prog.conds := 32, deck := recipeDeck [dirEntry 0 1 5 9 0xFFFF] [], prog.seqs := [(15, { st := 1, running := true, steps := 1, actionFail := true, deferrals := 70000, org := { tag := 9, sq := 31 } })] }, 15, by decide +kernel⟩,
   ⟨{ st .run 4095 with prog.conds := 32, deck := recipeDeck [dirEntry 0 1 5 9 0xFFFF, dirEntry 200 1 5 9 0xFFFF] [], prog.seqs := [(15, { st := 1, running := true, steps := 2, pend := true, nxt := 1, prepP := 63999 })] }, 15, by decide +kernel⟩,
   ⟨{ st .run 4095 with deck := recipeDeck [dirEntry 0 1 5 9 1, dirEntry 200 1 5 9 0xFFFF] [], prog.seqs := [(15, { st := 1, running := true, steps := 2, cnt := 9, pend := true, nxt := 1 })] }, 15, by decide +kernel⟩,
   ⟨{ st .run 4095 with deck := recipeDeck [dirEntry 0 1 5 9 0xFFFF] [], prog.seqs := [(15, { st := 1, running := true, steps := 1, cnt := 9 })] }, 15, by decide +kernel⟩,
   ⟨{ st .run 4095 with deck := recipeDeck [dirEntry 0 1 5 9 0xFFFF] [], prog.seqs := [(15, { st := 1, running := true, steps := 1, cnt := 8 })] }, 15, by decide +kernel⟩⟩

theorem meets_ProgramsAreLoaded :
  (∃ c : Cmd, ∃ s : State, Names c s 4 ∧ c.unit = 0 ∧ s.md.mode = .configure ∧ s.enabled 4 = false ∧ Rest c 5 ∧ 16 ≤ Arg.u c 4 1 ∧ Arg.u c 4 1 ≤ 24) ∧
  (∃ c : Cmd, ∃ s : State, Names c s 4 ∧ c.unit = 0 ∧ s.md.mode = .configure ∧ s.enabled 4 = false ∧ Rest c 5 ∧ (Arg.u c 4 1 < 16 ∨ 24 < Arg.u c 4 1)) ∧
  (∃ c : Cmd, ∃ s : State, ∃ bs : Bytes, Names c s 4 ∧ c.unit = 0 ∧ s.md.mode = .configure ∧ s.enabled 4 = false ∧ Rest c 12 ∧ LintisCode.check bs (Arg.u c 8 4) s.prog.sizeLog2 = none) ∧
  (∃ c : Cmd, ∃ s : State, ∃ bs : Bytes, ∃ code, ∃ off, ∃ no, Names c s 4 ∧ c.unit = 0 ∧ s.md.mode = .configure ∧ s.enabled 4 = false ∧ Rest c 12 ∧ LintisCode.check bs (Arg.u c 8 4) s.prog.sizeLog2 = some (code, off, no)) ∧
  (∃ c : Cmd, ∃ s : State, Names c s 4 ∧ c.unit = 0 ∧ s.md.mode = .configure ∧ Rest c 12) ∧
  (∃ c : Cmd, ∃ s : State, Names c s 4 ∧ c.unit = 0 ∧ s.md.mode = .configure ∧ s.enabled 4 = false ∧ Rest c 40 ∧ Arg.u c 23 1 = 0 ∧ Arg.u c 22 1 < 4 ∧ s.prog.image.given = false ∧ Arg.u c 0 2 ≤ 1023 ∧ (taskOf c).prio ≤ 15 ∧ 1 ≤ (taskOf c).budget ∧ 1 ≤ (taskOf c).skipLimit ∧ (taskOf c).skipLimit ≤ 16 ∧ (taskOf c).faultAction ≤ 2 ∧ ((taskOf c).rate ≤ 7 ∧ (taskOf c).phase < 2 ^ ((taskOf c).rate + 3) ∧ (taskOf c).deadline = 0 ∧ (taskOf c).mask.testBit 0 = true ∨ (taskOf c).rate = 255 ∧ (taskOf c).phase = 0 ∧ 1 ≤ (taskOf c).deadline ∧ (taskOf c).mask.testBit 0 = false)) ∧
  (∃ c : Cmd, ∃ s : State, Names c s 4 ∧ c.unit = 0 ∧ s.md.mode = .configure ∧ s.enabled 4 = false ∧ Rest c 24 ∧ Arg.u c 3 1 = 0 ∧ Arg.u c 8 4 = 0 ∧ Arg.u c 0 2 ≤ 1023 ∧ Arg.u c 18 2 < 64 ∧ Arg.u c 20 4 = 0 ∧ Arg.u c 2 1 = 0 ∧ Arg.u c 16 1 = 3 ∧ Arg.u c 17 1 = 5) ∧
  (∃ c : Cmd, ∃ s : State, Names c s 4 ∧ c.unit = 0 ∧ s.md.mode = .configure ∧ s.enabled 4 = false ∧ Rest c 24 ∧ Arg.u c 3 1 = 0 ∧ Arg.u c 8 4 = 0 ∧ Arg.u c 0 2 ≤ 1023 ∧ Arg.u c 18 2 < 64 ∧ Arg.u c 20 4 = 0 ∧ Arg.u c 2 1 = 1 ∧ Arg.u c 16 1 = 16 ∧ Arg.u c 17 1 = 5 ∧ (∀ q ∈ s.prog.tasks, q.2.outMap = [])) ∧
  (∃ c : Cmd, ∃ s : State, Names c s 4 ∧ c.unit = 0 ∧ s.md.mode = .configure ∧ s.enabled 4 = false ∧ Rest c 12 ∧ Arg.u c 1 1 = 0 ∧ Arg.u c 7 1 = 0 ∧ Arg.u c 2 2 ≤ 1023 ∧ Arg.u c 4 2 ≤ 1023 ∧ Arg.u c 6 1 ≤ 4 ∧ 2 ≤ Arg.u c 8 4 / 2 ^ 28 ∧ Arg.u c 8 4 / 2 ^ 28 ≤ 3 ∧ Arg.u c 8 4 % 4 = 0 ∧ s.prog.recipeVars = [] ∧ s.prog.recNums = [] ∧ Arg.u c 0 1 = 1) ∧
  (∃ c : Cmd, ∃ s : State, Names c s 4 ∧ c.unit = 0 ∧ s.md.mode = .configure ∧ s.enabled 4 = false ∧ Rest c 12 ∧ Arg.u c 1 1 = 0 ∧ Arg.u c 7 1 = 0 ∧ Arg.u c 2 2 ≤ 1023 ∧ Arg.u c 4 2 ≤ 1023 ∧ Arg.u c 6 1 ≤ 4 ∧ 2 ≤ Arg.u c 8 4 / 2 ^ 28 ∧ Arg.u c 8 4 / 2 ^ 28 ≤ 3 ∧ Arg.u c 8 4 % 4 = 0 ∧ s.prog.recipeVars = [] ∧ s.prog.recNums = [] ∧ Arg.u c 0 1 = 2) :=
  ⟨⟨cmd 4 0 [(0, 4, 0x10000), (4, 1, 24)], { st .configure 0 with prog.image := { given := true } }, by decide +kernel⟩,
   ⟨cmd 4 0 [(0, 4, 0x10000), (4, 1, 25)], st .configure 0, by decide +kernel⟩,
   ⟨cmd 4 0 [(0, 8, 64), (8, 4, 112)], { st .configure 0 with prog.base := 4096, prog.sizeLog2 := 16 }, programFile, by decide +kernel⟩,
   ⟨cmd 4 0 [(0, 8, 64), (8, 4, 112)], { st .configure 0 with prog.base := 4096, prog.sizeLog2 := 16 }, 0 :: programFile.tail, 67, 0, 1, by decide +kernel⟩,
   ⟨cmd 4 0 [(0, 8, 64), (8, 4, 112)], st .configure 0, by decide +kernel⟩,
   ⟨cmd 4 0 [(0, 2, 1023), (2, 1, 15), (3, 1, 7), (4, 2, 1023), (8, 4, 1), (16, 4, 1), (20, 1, 16), (21, 1, 2), (22, 1, 3)], st .configure 0, by decide +kernel⟩,
   ⟨cmd 4 0 [(0, 2, 1023), (4, 4, 60), (12, 4, 32), (16, 1, 3), (17, 1, 5), (18, 2, 63)], st .configure 0, by decide +kernel⟩,
   ⟨cmd 4 0 [(0, 2, 1023), (2, 1, 1), (4, 4, 60), (12, 4, 32), (16, 1, 16), (17, 1, 5), (18, 2, 63)], { st .configure 0 with prog.tasks := [(2, { started := true })] }, by decide +kernel⟩,
   ⟨cmd 4 0 [(0, 1, 1), (2, 2, 1023), (4, 2, 1023), (6, 1, 4), (8, 4, 0x3FFFFFFC)], st .configure 0, by decide +kernel⟩,
   ⟨cmd 4 0 [(0, 1, 2), (2, 2, 1023), (4, 2, 1023), (6, 1, 2), (8, 4, 0x20000000)], st .configure 0, by decide +kernel⟩⟩

theorem meets_ProgramsAreChangedAndForced :
  (∃ c : Cmd, ∃ s : State, Names c s 4 ∧ c.unit = 0 ∧ s.md.mode ∈ [Mode.commission, .run, .hold, .degraded] ∧ s.enabled 4 = true ∧ s.hbd.compls.length < 61440 ∧ Arg.u c 2 1 = 1 ∧ Arg.u c 0 2 ≤ 1023 ∧ Arg.u c 3 3 = 0 ∧ Arg.u c 11 1 = 0 ∧ Arg.u c 10 1 ≤ 4 ∧ Rest c 20 ∧ (s.task (Arg.u c 0 2)).cfg.given = true ∧ Prog.changeReason s (Arg.u c 0 2) (Arg.u c 6 4, Arg.u c 10 1, Arg.u c 12 8) = none) ∧
  (∃ c : Cmd, ∃ s : State, ∃ r, Names c s 4 ∧ c.unit = 0 ∧ s.md.mode ∈ [Mode.commission, .run, .hold, .degraded] ∧ s.enabled 4 = true ∧ s.hbd.compls.length < 61440 ∧ Arg.u c 2 1 = 1 ∧ Arg.u c 0 2 ≤ 1023 ∧ Arg.u c 3 3 = 0 ∧ Arg.u c 11 1 = 0 ∧ Arg.u c 10 1 ≤ 4 ∧ Rest c 20 ∧ (s.task (Arg.u c 0 2)).cfg.given = true ∧ Prog.changeReason s (Arg.u c 0 2) (Arg.u c 6 4, Arg.u c 10 1, Arg.u c 12 8) = some r) ∧
  (∃ c : Cmd, ∃ s : State,
    let x := s.task (Arg.u c 2 2)
    let old := Tab.get s.prog.forces (Arg.u c 0 1)
    let f : Force := { inUse := true, kind := Arg.u c 1 1, task := Arg.u c 2 2, addr := Arg.u c 4 4, typ := Arg.u c 8 1
                       value := Arg.u c 16 8, app := s.tm.frame }
    Names c s 4 ∧ c.unit = 0 ∧ s.md.mode ∈ [Mode.commission, .run, .hold, .degraded] ∧ s.enabled 4 = true ∧ Rest c 24 ∧ Arg.u c 1 1 ≤ 1 ∧ Arg.u c 2 2 ≤ 1023 ∧ Arg.u c 8 1 ≤ 6 ∧ Arg.u c 9 7 = 0 ∧ (Tab.get (if Arg.u c 1 1 = 0 then x.inMap else x.outMap) (Arg.u c 4 4)).kind ≠ 0 ∧ (∀ q ∈ s.prog.forces, q.1 ≠ Arg.u c 0 1 → q.2.kind = Arg.u c 1 1 → q.2.task = Arg.u c 2 2 → q.2.addr ≠ Arg.u c 4 4) ∧ (old.kind = 1 → (s.task old.task).outAt ≠ s.tm.frame + 1) ∧ (f.kind = 1 → x.outAt ≠ s.tm.frame + 1)) ∧
  (∃ c : Cmd, ∃ s : State,
    let x := s.task (Arg.u c 2 2)
    let e := Tab.get x.outMap (Arg.u c 4 4)
    Names c s 4 ∧ c.unit = 0 ∧ s.md.mode ∈ [Mode.commission, .run, .hold, .degraded] ∧ s.enabled 4 = true ∧ Rest c 24 ∧ Arg.u c 1 1 = 1 ∧ Arg.u c 2 2 ≤ 1023 ∧ Arg.u c 8 1 ≤ 6 ∧ Arg.u c 9 7 = 0 ∧ e.kind = 16 ∧ x.outAt = s.tm.frame + 1 ∧ s.prog.forces = [] ∧ s.prog.ending = []) ∧
  (∃ c : Cmd, ∃ s : State,
    let old := Tab.get s.prog.forces (Arg.u c 0 1)
    Names c s 4 ∧ c.unit = 0 ∧ s.md.mode ∈ [Mode.commission, .run, .hold, .degraded] ∧ s.enabled 4 = true ∧ Rest c 1 ∧ old.inUse = true ∧ (old.kind = 1 → (s.task old.task).outAt ≠ s.tm.frame + 1)) ∧
  (∃ c : Cmd, ∃ s : State,
    let old := Tab.get s.prog.forces (Arg.u c 0 1)
    Names c s 4 ∧ c.unit = 0 ∧ s.md.mode ∈ [Mode.commission, .run, .hold, .degraded] ∧ s.enabled 4 = true ∧ Rest c 1 ∧ old.inUse = false) ∧
  (∃ c : Cmd, ∃ s : State, Names c s 4 ∧ c.unit = 0 ∧ s.md.mode ∉ [Mode.reset, .boot] ∧ Rest c 1) :=
  ⟨⟨cmd 4 0 [(0, 2, 1023), (2, 1, 1), (6, 4, 0x10000010), (10, 1, 4), (12, 8, -5)], { st .run 4095 with prog.image := { given := true, vars := [(0x10000010, 4)] }, prog.tasks := [(1023, { cfg := { given := true } })] }, by decide +kernel⟩,
   ⟨cmd 4 0 [(0, 2, 1023), (2, 1, 1), (6, 4, 0x10000010), (10, 1, 2), (12, 8, -5)], { st .run 4095 with prog.image := { given := true, vars := [(0x10000010, 4)] }, prog.tasks := [(1023, { cfg := { given := true } })] }, 0x45, by decide +kernel⟩,
   ⟨cmd 4 0 [(0, 1, 255), (1, 1, 1), (2, 2, 1023), (4, 4, 32), (8, 1, 6), (16, 8, -1)], { st .run 4095 with prog.tasks := [(1023, { outMap := [(32, { kind := 16, typ := 5 })] })], prog.forces := [(255, { inUse := true, active := true, value := 7 })] }, by decide +kernel⟩,
   ⟨cmd 4 0 [(0, 1, 255), (1, 1, 1), (2, 2, 1023), (4, 4, 32), (8, 1, 6), (16, 8, -1)], { st .run 4095 with prog.tasks := [(1023, { outAt := 64001, outMap := [(32, { kind := 16, typ := 5, index := 63 })] })] }, by decide +kernel⟩,
   ⟨cmd 4 0 [(0, 1, 255)], { st .hold 4095 with prog.forces := [(255, { inUse := true, active := true, value := 7 })] }, by decide +kernel⟩,
   ⟨cmd 4 0 [(0, 1, 255)], st .hold 4095, by decide +kernel⟩,
   ⟨cmd 4 0 [(0, 1, 255)], { st .hold 0 with prog.forces := [(255, { inUse := true, changed := true, value := 7, addr := 4294967295 })] }, by decide +kernel⟩⟩

theorem meets_TasksAreControlledAndDispatched :
  (∃ c : Cmd, ∃ s : State,
    let t := Arg.u c 0 2
    let x := s.task t
    Names c s 4 ∧ c.unit = 0 ∧ s.md.mode ∈ [Mode.commission, .run, .hold, .degraded, .safeStop] ∧ s.enabled 4 = true ∧ Rest c 3 ∧ Arg.u c 0 2 < 1024 ∧ Arg.u c 2 1 = 0 ∧ (∀ d, x.cyc = some d → d.engine ≠ none)) ∧
  (∃ c : Cmd, ∃ s : State,
    let t := Arg.u c 0 2
    let x := s.task t
    Names c s 4 ∧ c.unit = 0 ∧ s.md.mode ∈ [Mode.commission, .run, .hold, .degraded, .safeStop] ∧ s.enabled 4 = true ∧ Rest c 3 ∧ Arg.u c 0 2 < 1024 ∧ Arg.u c 2 1 = 1 ∧ x.faulted = true) ∧
  (∃ c : Cmd, ∃ s : State,
    let t := Arg.u c 0 2
    let x := s.task t
    Names c s 4 ∧ c.unit = 0 ∧ s.md.mode ∈ [Mode.commission, .run, .hold, .degraded, .safeStop] ∧ s.enabled 4 = true ∧ Rest c 3 ∧ Arg.u c 0 2 < 1024 ∧ Arg.u c 2 1 = 1 ∧ x.faulted = false ∧ x.started = true) ∧
  (∃ c : Cmd, ∃ s : State,
    let t := Arg.u c 0 2
    let x := s.task t
    Names c s 4 ∧ c.unit = 0 ∧ s.md.mode ∈ [Mode.commission, .run, .hold, .degraded, .safeStop] ∧ s.enabled 4 = true ∧ Rest c 3 ∧ Arg.u c 0 2 < 1024 ∧ Arg.u c 2 1 = 1 ∧ x.faulted = false ∧ x.started = false ∧ x.cfg.given = true) ∧
  (∃ c : Cmd, ∃ s : State,
    let t := Arg.u c 0 2
    let x := s.task t
    Names c s 4 ∧ c.unit = 0 ∧ s.md.mode ∈ [Mode.commission, .run, .hold, .degraded, .safeStop] ∧ s.enabled 4 = true ∧ Rest c 3 ∧ Arg.u c 0 2 < 1024 ∧ Arg.u c 2 1 = 2 ∧ x.cfg.given = true) ∧
  (∃ c : Cmd, ∃ s : State, Names c s 4 ∧ c.unit = 0 ∧ s.md.mode ∈ [Mode.commission, .run, .hold, .degraded, .safeStop] ∧ s.enabled 4 = true ∧ Rest c 8 ∧ Arg.u c 0 2 < 1024 ∧ Arg.u c 2 2 = 0 ∧ (s.task (Arg.u c 0 2)).cfg.given = true ∧ Arg.u c 4 4 &&& 0xFFFFFE = Arg.u c 4 4) ∧
  (∃ c : Cmd, ∃ s : State, Names c s 4 ∧ c.unit = 0 ∧ s.md.mode ∈ [Mode.commission, .run, .hold, .degraded, .safeStop] ∧ s.enabled 4 = true ∧ Rest c 8 ∧ Arg.u c 0 2 < 1024 ∧ Arg.u c 2 2 = 0 ∧ (s.task (Arg.u c 0 2)).cfg.given = true ∧ Arg.u c 4 4 &&& 0xFFFFFE ≠ Arg.u c 4 4) ∧
  (∃ c : Cmd, ∃ s : State,
    let x := s.task (Arg.u c 0 2)
    Names c s 4 ∧ c.unit = 0 ∧ s.md.mode ∉ [Mode.reset, .boot] ∧ Rest c 2 ∧ Arg.u c 0 2 < 1024 ∧ x.faulted = true ∧ x.cyc = none ∧ 0 < x.next ∧ x.next < 2 ^ 32) ∧
  (∃ c : Cmd, ∃ s : State,
    let x := s.task (Arg.u c 0 2)
    ∃ d,
    Names c s 4 ∧ c.unit = 0 ∧ s.md.mode ∉ [Mode.reset, .boot] ∧ Rest c 2 ∧ Arg.u c 0 2 < 1024 ∧ x.faulted = false ∧ x.cyc = some d ∧ d.engine = none ∧ 0 < x.next) ∧
  (∃ c : Cmd, ∃ s : State,
    let x := s.task (Arg.u c 0 2)
    ∃ d, ∃ e,
    Names c s 4 ∧ c.unit = 0 ∧ s.md.mode ∉ [Mode.reset, .boot] ∧ Rest c 2 ∧ Arg.u c 0 2 < 1024 ∧ x.faulted = false ∧ x.cyc = some d ∧ d.engine = some e) ∧
  (∃ c : Cmd, ∃ s : State,
    let x := s.task (Arg.u c 0 2)
    Names c s 4 ∧ c.unit = 0 ∧ s.md.mode ∉ [Mode.reset, .boot] ∧ Rest c 2 ∧ Arg.u c 0 2 < 1024 ∧ x.faulted = false ∧ x.cyc = none ∧ x.started = false ∧ x.next = 0) ∧
  (∃ c : Cmd, ∃ s : State,
    let x := s.task (Arg.u c 0 2)
    Names c s 4 ∧ c.unit = 0 ∧ s.md.mode ∉ [Mode.reset, .boot] ∧ Rest c 2 ∧ Arg.u c 0 2 < 1024 ∧ x.faulted = false ∧ x.cyc = none ∧ x.started = true ∧ x.next = 0 ∧ x.flags &&& x.cfg.mask = 0) ∧
  (∃ c : Cmd, ∃ s : State, Names c s 4 ∧ c.unit = 0 ∧ s.md.mode ∉ [Mode.reset, .boot] ∧ Rest c 2 ∧ Arg.u c 0 2 < 1024 ∧ (s.task (Arg.u c 0 2)).fault = none) ∧
  (∃ c : Cmd, ∃ s : State, ∃ f, Names c s 4 ∧ c.unit = 0 ∧ s.md.mode ∉ [Mode.reset, .boot] ∧ Rest c 2 ∧ Arg.u c 0 2 < 1024 ∧ (s.task (Arg.u c 0 2)).fault = some f) ∧
  (∃ s : State, waitingTasks s = []) ∧
  (∃ s : State, ∃ t : Nat, ∃ e : Nat, ∃ x : Task, s.enabled 4 = true ∧ s.md.mode ∈ [Mode.commission, .run, .hold, .degraded, .safeStop] ∧ s.task t = x ∧ x.cfg.prio < 16 ∧ (t, x) ∈ waitingTasks s ∧ (∀ q ∈ waitingTasks s, q = (t, x) ∨ x.cfg.prio < q.2.cfg.prio) ∧ e < 16 ∧ Prog.engineBusy s e = false ∧ (∀ e' < e, Prog.engineBusy s e' = true)) :=
  ⟨⟨cmd 4 0 [(0, 2, 1023)], { st .run 4095 with prog.tasks := [(1023, { cfg := { given := true }, started := true })] }, by decide +kernel⟩,
   ⟨cmd 4 0 [(0, 2, 1023), (2, 1, 1)], { st .run 4095 with prog.tasks := [(1023, { cfg := { given := true }, faulted := true })] }, by decide +kernel⟩,
   ⟨cmd 4 0 [(0, 2, 1023), (2, 1, 1)], { st .run 4095 with prog.tasks := [(1023, { cfg := { given := true }, started := true, next := 4 })] }, by decide +kernel⟩,
   ⟨cmd 4 0 [(0, 2, 1023), (2, 1, 1)], { st .run 4095 with prog.tasks := [(1023, { cfg := { given := true }, next := 4 })] }, by decide +kernel⟩,
   ⟨cmd 4 0 [(0, 2, 1023), (2, 1, 2)], { st .safeStop 4095 with prog.tasks := [(1023, { cfg := { given := true }, next := 4, faulted := true, actionDue := true })] }, by decide +kernel⟩,
   ⟨cmd 4 0 [(0, 2, 1023), (4, 4, 0xFFFFFE)], { st .run 4095 with prog.tasks := [(1023, { cfg := { given := true }, flags := 5 })] }, by decide +kernel⟩,
   ⟨cmd 4 0 [(0, 2, 1023), (4, 4, 1)], { st .run 4095 with prog.tasks := [(1023, { cfg := { given := true } })] }, by decide +kernel⟩,
   ⟨cmd 4 0 [(0, 2, 1023)], { st .run 0 with prog.tasks := [(1023, { faulted := true, next := 4294967295, skips := 300, overruns := 70000, maxOps := 4294967297 })] }, by decide +kernel⟩,
   ⟨cmd 4 0 [(0, 2, 1023)], { st .run 0 with prog.tasks := [(1023, { started := true, next := 5, cyc := some { num := 4 } })] }, { num := 4 }, by decide +kernel⟩,
   ⟨cmd 4 0 [(0, 2, 1023)], { st .run 0 with prog.tasks := [(1023, { started := true, next := 5, cyc := some { num := 4, engine := some 15 } })] }, { num := 4, engine := some 15 }, 15, by decide +kernel⟩,
   ⟨cmd 4 0 [(0, 2, 1023)], st .run 0, by decide +kernel⟩,
   ⟨cmd 4 0 [(0, 2, 1023)], { st .run 0 with prog.tasks := [(1023, { started := true, flags := 6, cfg := { mask := 9 } })] }, by decide +kernel⟩,
   ⟨cmd 4 0 [(0, 2, 1023)], st .run 0, by decide +kernel⟩,
   ⟨cmd 4 0 [(0, 2, 1023)], { st .run 0 with prog.tasks := [(1023, { fault := some { cause := 3, access := 1, codeAddr := 5, dataAddr := 4294967295, cycle := 4294967295, frame := 64000, engine := 15 } })] }, { cause := 3, access := 1, codeAddr := 5, dataAddr := 4294967295, cycle := 4294967295, frame := 64000, engine := 15 }, by decide +kernel⟩,
   ⟨{ st .run 4095 with prog.tasks := [(3, { cyc := some { engine := some 0 } })] }, by decide +kernel⟩,
   ⟨{ st .run 4095 with prog.tasks := [(3, { cfg := { prio := 9 }, cyc := some {} }), (4, { cfg := { prio := 8, mask := 3, entry := 64 }, flags := 7, lastEngine := some 1, cyc := some { num := 2, stack := [1] } }), (5, { cyc := some { engine := some 0 } })] }, 4, 1, { cfg := { prio := 8, mask := 3, entry := 64 }, flags := 7, lastEngine := some 1, cyc := some { num := 2, stack := [1] } }, by decide +kernel⟩⟩

theorem meets_NetworkConfigurationAndSending :
  (∃ c : Cmd, ∃ s : State,
    let g : NetSys := { given := true, cycleN := Arg.u c 0 1, staticLen := Arg.u c 2 2, ns := Arg.u c 4 2, nm := Arg.u c 6 2
                        slotNs := Arg.u c 8 4, miniNs := Arg.u c 12 4, guard := Arg.u c 16 2, depth := Arg.u c 18 1
                        cable := Arg.u c 20 2, timeMaster := Arg.u c 22 2, casc := Arg.u c 24 2, backup := Arg.u c 26 2
                        stnLoss := Arg.u c 28 1, nodes := Arg.u c 30 2, raw := Arg.u c 0 48 }
    Names c s 5 ∧ c.unit = 0 ∧ s.md.mode = .configure ∧ s.enabled 6 = false ∧ Rest c 32 ∧ Arg.u c 1 1 = 0 ∧ Arg.u c 19 1 = 0 ∧ Arg.u c 29 1 = 0 ∧ 1 ≤ g.cycleN ∧ g.cycleN ≤ 8 ∧ g.staticLen % 8 = 0 ∧ 8 ≤ g.staticLen ∧ g.staticLen ≤ 256 ∧ 8 ≤ g.ns ∧ g.ns ≤ 1024 ∧ g.nm ≤ 4096 ∧ (g.nm = 0 → g.miniNs = 0) ∧ 20 ≤ g.guard ∧ g.guard ≤ 1000 ∧ 1 ≤ g.depth ∧ g.depth ≤ 4 ∧ g.cable ≤ 1000 ∧ g.timeMaster ≤ 511 ∧ g.casc ≤ 511 ∧ (g.backup ≤ 511 ∨ g.backup = 0xFFFF) ∧ 1 ≤ g.stnLoss ∧ g.stnLoss ≤ 8 ∧ 1 ≤ g.nodes ∧ g.nodes ≤ 512) ∧
  (∃ c : Cmd, ∃ s : State, Names c s 5 ∧ c.unit = 0 ∧ s.md.mode = .configure ∧ s.enabled 6 = false ∧ Arg.u c 0 1 = 1 ∧ Arg.u c 1 7 = 0 ∧ Arg.u c 13 1 < 4 ∧ Rest c 14 ∧ Arg.u c 8 2 ≤ 511 ∧ (Arg.u c 10 2 ≤ 511 ∨ Arg.u c 10 2 = 0xFFFF) ∧ (Arg.u c 12 1 ≤ 7 ∨ Arg.u c 12 1 = 0xFF)) ∧
  (∃ c : Cmd, ∃ s : State, Names c s 5 ∧ c.unit = 0 ∧ s.md.mode = .configure ∧ s.enabled 6 = false ∧ Arg.u c 2 2 = 1 ∧ Rest c 6 ∧ (Arg.u c 4 2 ≤ 511 ∨ Arg.u c 4 2 = 0xFFFF) ∧ Arg.u c 0 2 < 1024) ∧
  (∃ c : Cmd, ∃ s : State, Names c s 5 ∧ c.unit = 0 ∧ s.md.mode = .configure ∧ s.enabled 6 = false ∧ Arg.u c 2 2 = 1 ∧ Rest c 6 ∧ (Arg.u c 4 2 ≤ 511 ∨ Arg.u c 4 2 = 0xFFFF) ∧ 0x8000 ≤ Arg.u c 0 2 ∧ Arg.u c 0 2 < 0x9000) ∧
  (∃ c : Cmd, ∃ s : State, Names c s 5 ∧ c.unit = 0 ∧ s.md.mode = .configure ∧ s.enabled 6 = false ∧ Arg.u c 0 1 = 1 ∧ Arg.u c 1 3 = 0 ∧ Rest c 16 ∧ Arg.u c 4 2 ≤ 511 ∧ Arg.u c 6 1 ∈ [5, 6] ∧ Arg.u c 10 2 = 0 ∧ Arg.u c 12 4 = 0 ∧ s.net.pubs = [] ∧ s.mot.remote = [] ∧ Arg.u c 8 2 ≤ 1023) ∧
  (∃ c : Cmd, ∃ s : State, Names c s 5 ∧ c.unit = 0 ∧ s.md.mode = .configure ∧ s.enabled 6 = false ∧ Arg.u c 0 1 = 1 ∧ Arg.u c 1 3 = 0 ∧ Rest c 16 ∧ Arg.u c 4 2 ≤ 511 ∧ Arg.u c 6 1 ∈ [5, 6] ∧ Arg.u c 10 2 = 0 ∧ Arg.u c 12 4 = 0 ∧ s.net.pubs = [] ∧ s.mot.remote = [] ∧ Arg.u c 8 2 = 0xFFFF) ∧
  (∃ c : Cmd, ∃ s : State, Names c s 5 ∧ c.unit = 0 ∧ s.md.mode = .configure ∧ s.enabled 6 = false ∧ Rest c 1 ∧ (Arg.u c 0 1 ≤ 31 ∨ Arg.u c 0 1 = 0xFF)) ∧
  (∃ c : Cmd, ∃ s : State, Names c s 5 ∧ c.unit = 0 ∧ s.md.mode = .configure ∧ s.enabled 6 = false ∧ Rest c 1 ∧ 31 < Arg.u c 0 1 ∧ Arg.u c 0 1 ≠ 0xFF) ∧
  (∃ c : Cmd, ∃ s : State, ∃ m : Nat, Names c s 5 ∧ c.unit = 0 ∧ s.md.mode ∉ [Mode.reset, .boot] ∧ Rest c 12 ∧ s.enabled 6 = true ∧ s.hbd.compls.length < 61440 ∧ 1 ≤ Arg.u c 8 2 ∧ Arg.u c 8 2 ≤ 1024 ∧ 1 ≤ Arg.u c 10 1 ∧ Arg.u c 10 1 ≤ 3 ∧ Arg.u c 11 1 < 2 ∧ FirstMini s m ∧ m + Net.minislots s.net.sys (Arg.u c 8 2) ≤ s.net.sys.nm ∧ s.net.sends.length < 16) ∧
  (∃ c : Cmd, ∃ s : State, Names c s 5 ∧ c.unit = 0 ∧ s.md.mode ∉ [Mode.reset, .boot] ∧ Rest c 1 ∧ s.enabled 6 = true ∧ Arg.u c 0 1 ≤ 3) ∧
  (∃ c : Cmd, ∃ s : State, Names c s 5 ∧ c.unit = 0 ∧ s.md.mode ∉ [Mode.reset, .boot] ∧ Rest c 1 ∧ s.enabled 6 = false) ∧
  (∃ c : Cmd, ∃ s : State, c.flags = 0 ∧ c.rsv3 = 0 ∧ c.rsv12 = 0 ∧ locDefined c.locN = true ∧ locNode c.locN = s.nodeId ∧ locDie c.locN = 3 ∧ locRegion c.locN ∈ [4, 5] ∧ locItem c.locN = 0 ∧ s.md.mode ∉ [Mode.reset, .boot] ∧ Rest c 0 ∧ s.enabled 6 = true) ∧
  (∃ c : Cmd, ∃ s : State, c.flags = 0 ∧ c.rsv3 = 0 ∧ c.rsv12 = 0 ∧ locDefined c.locN = true ∧ locNode c.locN = s.nodeId ∧ locDie c.locN = 3 ∧ locRegion c.locN ∈ [4, 5] ∧ locItem c.locN = 0 ∧ s.md.mode ∉ [Mode.reset, .boot] ∧ Rest c 0 ∧ s.enabled 6 = false) :=
  ⟨⟨cmd 5 0 [(0, 1, 8), (2, 2, 256), (4, 2, 1024), (6, 2, 4096), (8, 4, 4000), (12, 4, 500), (16, 2, 1000), (18, 1, 4), (20, 2, 1000), (22, 2, 511), (24, 2, 511), (26, 2, 0xFFFF), (28, 1, 8), (30, 2, 512)], st .configure 0, by decide +kernel⟩,
   ⟨cmd 5 0 [(0, 1, 1), (8, 2, 511), (10, 2, 0xFFFF), (12, 1, 0xFF), (13, 1, 3)], { st .configure 0 with net.nodes := [(3, { given := true })] }, by decide +kernel⟩,
   ⟨cmd 5 0 [(0, 2, 1023), (2, 2, 1), (4, 2, 511)], st .configure 0, by decide +kernel⟩,
   ⟨cmd 5 0 [(0, 2, 0x8FFF), (2, 2, 1), (4, 2, 0xFFFF)], { st .configure 0 with net.minis := [(4095, 3)] }, by decide +kernel⟩,
   ⟨cmd 5 0 [(0, 1, 1), (4, 2, 511), (6, 1, 6), (7, 1, 63), (8, 2, 1023)], st .configure 0, by decide +kernel⟩,
   ⟨cmd 5 0 [(0, 1, 1), (4, 2, 511), (6, 1, 6), (7, 1, 63), (8, 2, 0xFFFF)], st .configure 0, by decide +kernel⟩,
   ⟨cmd 5 0 [(0, 1, 31)], st .configure 0, by decide +kernel⟩,
   ⟨cmd 5 0 [(0, 1, 32)], st .configure 0, by decide +kernel⟩,
   ⟨cmd 5 0 [(0, 8, 64), (8, 2, 1024), (10, 1, 3), (11, 1, 1)], { st .run 4095 with net.sys := { given := true, ns := 8, nm := 4096, slotNs := 1000, miniNs := 500, depth := 1, guard := 20, cycleN := 2 }, net.minis := [(3, 2), (4, 1), (9, 1)] }, 4, by decide +kernel⟩,
   ⟨cmd 5 0 [(0, 1, 3)], { st .run 4095 with net.map := 2 ^ 511 + 5 }, by decide +kernel⟩,
   ⟨cmd 5 0 [(0, 1, 3)], st .run 0, by decide +kernel⟩,
   ⟨{ cmd 5 8 [] with flags := 0, loc := BitVec.ofNat 32 (mkLoc 0 3 5 8 0) }, { st .run 4095 with net.portsShown := [(24, 77)] }, by decide +kernel⟩,
   ⟨{ cmd 5 8 [] with flags := 0, loc := BitVec.ofNat 32 (mkLoc 0 3 4 7 0) }, st .run 0, by decide +kernel⟩⟩

theorem meets_FramesAreSentAndReceived :
  (∃ s : State, ∃ k : Fin 1024, (k.val ≥ s.net.sys.ns ∨ Tab.get s.net.slots k.val ≠ s.nodeId + 1 ∨ k.val ∈ s.net.sent)) ∧
  (∃ s : State, ∃ k : Fin 1024, ∃ bs, k.val < s.net.sys.ns ∧ Tab.get s.net.slots k.val = s.nodeId + 1 ∧ k.val ∉ s.net.sent ∧ k.val * s.net.sys.slotNs / 15625 = s.tm.frame % 2 ^ s.net.sys.cycleN ∧ s.net.state = 4 ∧ s.net.offering = false ∧ Tab.get s.net.formed k.val = some bs) ∧
  (∃ s : State, ∃ k : Fin 1024, k.val < s.net.sys.ns ∧ Tab.get s.net.slots k.val = s.nodeId + 1 ∧ k.val ∉ s.net.sent ∧ k.val * s.net.sys.slotNs / 15625 = s.tm.frame % 2 ^ s.net.sys.cycleN ∧ s.net.state = 4 ∧ s.net.offering = false ∧ Tab.get s.net.formed k.val = none) ∧
  (∃ s : State, ∃ m : Fin 4096, (s.net.state ≠ 4 ∨ Tab.get s.net.minis m.val ≠ s.nodeId + 1 ∨ s.net.sends = [])) ∧
  (∃ s : State, ∃ m : Fin 4096, ∃ r : NetSendReq, s.net.state = 4 ∧ m.val < s.net.sys.nm ∧ Tab.get s.net.minis m.val = s.nodeId + 1 ∧ (s.net.sys.ns * s.net.sys.slotNs + m.val * s.net.sys.miniNs) / 15625 = s.tm.frame % 2 ^ s.net.sys.cycleN ∧ 2 * m.val ∉ s.net.dynSent ∧ Net.occupied (s.net.occA ++ s.net.pierA.occ) m.val = false ∧ s.net.sends = [r] ∧ r.waitA = true ∧ r.waitB = false ∧ r.ts = false ∧ r.org.sq < 32 ∧ r.id = none ∧ m.val + Net.minislots s.net.sys r.payload.length ≤ s.net.sys.nm) ∧
  (∃ s : State, s.net.state = 0) ∧
  (∃ s : State, ∃ rx : RxFrame, s.net.state ≠ 0 ∧ rx.header.length = 32 ∧ rx.payload.length = Bits.leAt rx.header 8 2 ∧ rx.crcOk = false) ∧
  (∃ s : State, ∃ rx : RxFrame,
    let src := Bits.leAt rx.header 4 2
    let slot := Bits.leAt rx.header 6 2
    s.net.state = 4 ∧ rx.header.length = 32 ∧ rx.payload.length = Bits.leAt rx.header 8 2 ∧ rx.crcOk = true ∧ Bits.leAt rx.header 20 8 = s.net.hash ∧ Bits.leAt rx.header 0 1 % 16 = 0 ∧ (Bits.leAt rx.header 0 1).testBit 5 = false ∧ Bits.leAt rx.header 8 2 = s.net.sys.staticLen ∧ slot < s.net.sys.ns ∧ Tab.get s.net.slots slot = src + 1 ∧ Bits.leAt rx.header 12 8 = s.tm.frame - s.tm.frame % 2 ^ s.net.sys.cycleN ∧ src ≠ s.nodeId ∧ s.net.ref ≠ src + 1 ∧ s.net.integ = 0) ∧
  (∃ s : State, (s.net.state = 0 ∨ s.net.lastCycle = s.tm.frame + 1)) ∧
  (∃ s : State, s.net.state = 1 ∧ s.net.integ = 0 ∧ s.tm.due (2 ^ s.net.sys.cycleN) 0 = true ∧ s.net.lastCycle ≠ s.tm.frame + 1 ∧ s.net.schedDue = false ∧ s.net.offering = false) ∧
  (∃ s : State, s.net.state = 2 ∧ s.net.integ = 0 ∧ s.net.own = true ∧ 1 ≤ s.net.ownRun ∧ s.tm.due (2 ^ s.net.sys.cycleN) 0 = true ∧ s.net.lastCycle ≠ s.tm.frame + 1 ∧ s.net.schedDue = false ∧ s.net.pubs = []) ∧
  (∃ s : State, s.net.state = 1 ∧ (Tab.get s.net.nodes s.nodeId).coldstart = true ∧ (4 + 2 * s.nodeId) * 2 ^ s.net.sys.cycleN ≤ s.net.quiet) ∧
  (∃ s : State, (s.net.state ≠ 1 ∨ (Tab.get s.net.nodes s.nodeId).coldstart = false ∨ s.net.quiet < (4 + 2 * s.nodeId) * 2 ^ s.net.sys.cycleN)) ∧
  (∃ s : State, s.net.state = 2 ∧ 8 ≤ s.net.lonely) ∧
  (∃ s : State, (s.net.state ≠ 2 ∨ s.net.lonely < 8)) :=
  ⟨⟨{ st .run 4095 with nodeId := 5, net.state := 4, net.sys := { given := true, ns := 1024, nm := 4096, slotNs := 15, miniNs := 100, depth := 1, guard := 20, cycleN := 2, staticLen := 8 }, net.slots := [(1022, 3), (1023, 6)], net.minis := [(2, 6)], net.ref := 6 }, 1022, by decide +kernel⟩,
   ⟨{ st .run 4095 with nodeId := 5, net.state := 4, net.sys := { given := true, ns := 1024, nm := 4096, slotNs := 15, miniNs := 10, depth := 1, guard := 20, cycleN := 2, staticLen := 8 }, net.slots := [(1022, 3), (1023, 6)], net.nextId := 65535, net.formed := [(1023, some [1, 2, 3])] }, 1023, [1, 2, 3], by decide +kernel⟩,
   ⟨{ st .run 4095 with nodeId := 5, net.state := 4, net.sys := { given := true, ns := 1024, nm := 4096, slotNs := 15, miniNs := 100, depth := 1, guard := 20, cycleN := 2, staticLen := 8 }, net.slots := [(1022, 3), (1023, 6)], net.minis := [(2, 6)], net.ref := 6 }, 1023, by decide +kernel⟩,
   ⟨{ st .run 4095 with nodeId := 5, net.state := 4, net.sys := { given := true, ns := 1024, nm := 4096, slotNs := 15, miniNs := 100, depth := 1, guard := 20, cycleN := 2, staticLen := 8 }, net.slots := [(1022, 3), (1023, 6)], net.minis := [(2, 6)], net.ref := 6 }, 3, by decide +kernel⟩,
   ⟨{ st .run 4095 with nodeId := 5, net.state := 4, net.sys := { given := true, ns := 8, nm := 4096, slotNs := 1000, miniNs := 500, depth := 1, guard := 20, cycleN := 2, staticLen := 8 }, net.minis := [(2, 6)], net.ref := 6, net.nextId := 65535, net.sends := [{ org := { tag := 9, sq := 31 }, payload := [1], waitA := true }] }, 2, { org := { tag := 9, sq := 31 }, payload := [1], waitA := true }, by decide +kernel⟩,
   ⟨st .run 0, by decide +kernel⟩,
   ⟨{ st .run 4095 with nodeId := 5, net.state := 4, net.sys := { given := true, ns := 1024, nm := 4096, slotNs := 15, miniNs := 100, depth := 1, guard := 20, cycleN := 2, staticLen := 8 }, net.slots := [(1022, 3), (1023, 6)], net.minis := [(2, 6)], net.ref := 6 }, { header := header [(8, 2, 2)], payload := [1, 2], crcOk := false, slot := 0, t := { lp := 5, ph := 7 } }, by decide +kernel⟩,
   ⟨{ st .run 4095 with nodeId := 5, net.state := 4, net.sys := { given := true, ns := 1024, nm := 4096, slotNs := 15, miniNs := 100, depth := 1, guard := 20, cycleN := 2, staticLen := 8 }, net.slots := [(1022, 3), (1023, 6)], net.minis := [(2, 6)], net.ref := 6 }, { header := header [(0, 1, 0), (1, 1, 1), (2, 2, 9), (4, 2, 2), (6, 2, 1022), (8, 2, 8), (12, 8, 64000), (20, 8, 0)], payload := [1, 2, 3, 4, 5, 6, 7, 8], crcOk := true, slot := 0, t := { lp := 5, ph := 7 } }, by decide +kernel⟩,
   ⟨st .run 0, by decide +kernel⟩,
   ⟨{ st .run 4095 with nodeId := 5, net.pierB := { mode := 2, ports := [(8, { viols := 2, dp := 77, forwarded := 4294967295, violTotal := 65535, headerErr := 5, codeErr := 9 })] }, net.state := 1, net.sys := { cycleN := 2, ns := 8 }, net.seen := 6, net.sent := [2], net.occA := [(1, 1)] }, by decide +kernel⟩,
   ⟨{ st .run 4095 with nodeId := 5, net.state := 2, net.sys := { cycleN := 2, ns := 8 }, net.own := true, net.ownRun := 1 }, by decide +kernel⟩,
   ⟨{ st .run 4095 with nodeId := 5, net.state := 1, net.sys := { cycleN := 2, ns := 8 }, net.nodes := [(5, { given := true, coldstart := true })], net.quiet := 56, net.own := true }, by decide +kernel⟩,
   ⟨{ st .run 4095 with nodeId := 5, net.state := 1, net.sys := { cycleN := 2, ns := 8 }, net.nodes := [(5, { given := true, coldstart := true })], net.quiet := 55, net.own := true }, by decide +kernel⟩,
   ⟨{ st .run 4095 with nodeId := 5, net.state := 2, net.lonely := 8 }, by decide +kernel⟩,
   ⟨{ st .run 4095 with nodeId := 5, net.state := 2, net.lonely := 7 }, by decide +kernel⟩⟩

theorem meets_PiersForwardInTheirWindows :
  (∃ s : State, ∃ b : Bool, ∃ n : Fin 9, ((pierOf s b).mode = 0 ∨ n.val ≠ 8 ∧ (Tab.get (pierOf s b).ports n.val).admitted = false)) ∧
  (∃ s : State, ∃ b : Bool, ∃ n : Fin 9, ∃ h : Bytes, (pierOf s b).mode = 1 ∧ (n.val = 8 ∨ (Tab.get (pierOf s b).ports n.val).admitted = true) ∧ Bits.leAt h 0 1 % 16 ∉ [5, 6] ∧ (Tab.get (pierOf s b).ports n.val).isolated = false ∧ Tab.wf (pierOf s b).ports = true ∧ (Bits.leAt h 1 1).testBit 0 = true) ∧
  (∃ s : State, ∃ b : Bool, ∃ n : Fin 9, ∃ h : Bytes, ∃ m, (pierOf s b).mode = 1 ∧ (n.val = 8 ∨ (Tab.get (pierOf s b).ports n.val).admitted = true) ∧ Bits.leAt h 0 1 % 16 ∉ [5, 6] ∧ (Tab.get (pierOf s b).ports n.val).isolated = false ∧ Tab.wf (pierOf s b).ports = true ∧ (Bits.leAt h 1 1).testBit 0 = false ∧ Bits.leAt h 0 1 % 16 = 3 ∧ (pierOf s b).uplink = some m ∧ m ≠ n.val ∧ m < 8 ∧ (Tab.get (pierOf s b).ports m).admitted = true ∧ (Net.parent s).isSome = true ∧ (pierOf s b).lock = none) ∧
  (∃ s : State, ∃ b : Bool, ∃ n : Fin 9, ∃ h : Bytes, (pierOf s b).mode = 1 ∧ (n.val = 8 ∨ (Tab.get (pierOf s b).ports n.val).admitted = true) ∧ Bits.leAt h 0 1 % 16 ∉ [5, 6] ∧ (Tab.get (pierOf s b).ports n.val).isolated = false ∧ Tab.wf (pierOf s b).ports = true ∧ (Bits.leAt h 1 1).testBit 0 = false ∧ Bits.leAt h 0 1 % 16 ≠ 3 ∧ (pierOf s b).uplink ≠ some n.val) ∧
  (∃ s : State, ∃ b : Bool, ∃ n : Fin 9, ∃ h : Bytes, ∃ t : Instant, ∃ q : Nat × Int,
    let x := Tab.get (pierOf s b).ports n.val
    let at_ : Int := referenceOf s t - (if n.val = 8 then 0 else 64 * Bits.leAt h 28 2 + x.dp : Nat)
    (pierOf s b).mode = 2 ∧ (n.val = 8 ∨ (Tab.get (pierOf s b).ports n.val).admitted = true) ∧ Bits.leAt h 0 1 % 16 = 0 ∧ Bits.leAt h 28 2 ^^^ Bits.leAt h 30 2 = 0xFFFF ∧ Tab.wf (pierOf s b).ports = true ∧ Pier.nearest s false (Pier.portOwns s b n.val false) at_ = some q ∧ q.2.natAbs ≤ s.net.sys.guard * 256 ∧ x.isolated = false) ∧
  (∃ s : State, ∃ b : Bool, ∃ n : Fin 9, ∃ h : Bytes, ∃ t : Instant, ∃ q : Nat × Int,
    let x := Tab.get (pierOf s b).ports n.val
    let at_ : Int := referenceOf s t - (if n.val = 8 then 0 else 64 * Bits.leAt h 28 2 + x.dp : Nat)
    (pierOf s b).mode = 2 ∧ (n.val = 8 ∨ (Tab.get (pierOf s b).ports n.val).admitted = true) ∧ Bits.leAt h 0 1 % 16 = 0 ∧ Bits.leAt h 28 2 ^^^ Bits.leAt h 30 2 = 0xFFFF ∧ Tab.wf (pierOf s b).ports = true ∧ Pier.nearest s false (Pier.portOwns s b n.val false) at_ = some q ∧ s.net.sys.guard * 256 < q.2.natAbs) ∧
  (∃ s : State, ∃ b : Bool, ∃ n : Fin 9, (Tab.get (pierOf s b).ports n.val).fwd = none) ∧
  (∃ s : State, ∃ b : Bool, ∃ n : Fin 9, ∃ t : Instant, ∃ f : NetFwd, ∃ k, (Tab.get (pierOf s b).ports n.val).fwd = some f ∧ f.cutAt = some k ∧ k ≤ referenceOf s t ∧ f.cut = false) ∧
  (∃ s : State, ∃ b : Bool, ∃ n : Fin 9, ∃ f : NetFwd, (Tab.get (pierOf s b).ports n.val).fwd = some f ∧ (f.cutAt = none ∨ f.cut = true)) ∧
  (∃ s : State, ∃ b : Bool, ∃ n : Fin 9, ∃ t : Instant, ∃ f : NetFwd, ∃ k, (Tab.get (pierOf s b).ports n.val).fwd = some f ∧ f.cutAt = some k ∧ referenceOf s t < k) ∧
  (∃ s : State, ∃ b : Bool, (pierOf s b).lock = none) ∧
  (∃ s : State, ∃ b : Bool, ∃ t : Instant, ∃ l : NetLock, (pierOf s b).lock = some l ∧ l.time + 2 * 2 ^ s.net.sys.cycleN * frame256 ≤ controlOf s t) ∧
  (∃ s : State, ∃ b : Bool, ∃ t : Instant, ∃ l : NetLock, (pierOf s b).lock = some l ∧ controlOf s t < l.time + 2 * 2 ^ s.net.sys.cycleN * frame256) :=
  ⟨⟨{ st .run 4095 with nodeId := 5, net.state := 4, net.pierB.mode := 1, net.sys := { given := true, ns := 8, nm := 4, slotNs := 1000, miniNs := 100, depth := 1, guard := 20, cycleN := 2, staticLen := 8 }, net.slots := [(0, 3), (1, 6)], net.nodes := [(5, { given := true, parent := 1 }), (2, { given := true, parent := 5, port := 7 })] }, true, 7, by decide +kernel⟩,
   ⟨{ st .run 4095 with nodeId := 5, net.state := 4, net.pierB.mode := 1, net.sys := { given := true, ns := 8, nm := 4, slotNs := 1000, miniNs := 100, depth := 1, guard := 20, cycleN := 2, staticLen := 8 }, net.slots := [(0, 3), (1, 6)], net.nodes := [(5, { given := true, parent := 1 }), (2, { given := true, parent := 5, port := 7 })] }, true, 8, header [(0, 1, 0), (1, 1, 1), (28, 2, 65535)], by decide +kernel⟩,
   ⟨{ st .run 4095 with nodeId := 5, net.state := 4, net.pierB := { mode := 1, uplink := some 0, ports := [(0, { admitted := true }), (7, { admitted := true, dp := 9 })] }, net.sys := { given := true, ns := 8, nm := 4, slotNs := 1000, miniNs := 100, depth := 1, guard := 20, cycleN := 2, staticLen := 8 }, net.slots := [(0, 3), (1, 6)], net.nodes := [(5, { given := true, parent := 1 }), (2, { given := true, parent := 5, port := 7 })] }, true, 7, header [(0, 1, 3), (4, 2, 77)], 0, by decide +kernel⟩,
   ⟨{ st .run 4095 with nodeId := 5, net.state := 4, net.pierB.mode := 1, net.sys := { given := true, ns := 8, nm := 4, slotNs := 1000, miniNs := 100, depth := 1, guard := 20, cycleN := 2, staticLen := 8 }, net.slots := [(0, 3), (1, 6)], net.nodes := [(5, { given := true, parent := 1 }), (2, { given := true, parent := 5, port := 7 })] }, true, 8, header [(0, 1, 0)], by decide +kernel⟩,
   ⟨{ st .run 4095 with nodeId := 5, net.state := 4, net.ref := 6, net.pierB.mode := 2, net.sys := { given := true, ns := 8, nm := 4, slotNs := 1000, miniNs := 100, depth := 1, guard := 20, cycleN := 2, staticLen := 8 }, net.slots := [(0, 3), (1, 6)], net.nodes := [(5, { given := true, parent := 1 }), (2, { given := true, parent := 5, port := 7 })] }, true, 8, header [(28, 2, 0), (30, 2, 65535)], { lp := 400, ph := 0 }, (1, 0), by decide +kernel⟩,
   ⟨{ st .run 4095 with nodeId := 5, net.state := 4, net.ref := 6, net.pierB.mode := 2, net.sys := { given := true, ns := 8, nm := 4, slotNs := 1000, miniNs := 100, depth := 1, guard := 20, cycleN := 2, staticLen := 8 }, net.slots := [(0, 3), (1, 6)], net.nodes := [(5, { given := true, parent := 1 }), (2, { given := true, parent := 5, port := 7 })] }, true, 8, header [(28, 2, 0), (30, 2, 65535)], { lp := 408, ph := 1 }, (1, 5200), by decide +kernel⟩,
   ⟨{ st .run 4095 with nodeId := 5, net.state := 4, net.pierB.mode := 1, net.sys := { given := true, ns := 8, nm := 4, slotNs := 1000, miniNs := 100, depth := 1, guard := 20, cycleN := 2, staticLen := 8 }, net.slots := [(0, 3), (1, 6)], net.nodes := [(5, { given := true, parent := 1 }), (2, { given := true, parent := 5, port := 7 })] }, true, 8, by decide +kernel⟩,
   ⟨{ st .run 4095 with net.pierB := { mode := 1, ports := [(8, { fwd := some { cutAt := some 256000000000, outs := 3 } })] } }, true, 8, { lp := 7, ph := 3 }, { cutAt := some 256000000000, outs := 3 }, 256000000000, by decide +kernel⟩,
   ⟨{ st .run 4095 with net.pierB := { mode := 1, ports := [(8, { fwd := some { outs := 3 } })] } }, true, 8, { outs := 3 }, by decide +kernel⟩,
   ⟨{ st .run 4095 with net.pierB := { mode := 1, ports := [(8, { fwd := some { cutAt := some 257000000000, outs := 3 } })] } }, true, 8, { lp := 7, ph := 3 }, { cutAt := some 257000000000, outs := 3 }, 257000000000, by decide +kernel⟩,
   ⟨{ st .run 4095 with nodeId := 5, net.state := 4, net.pierB.mode := 1, net.sys := { given := true, ns := 8, nm := 4, slotNs := 1000, miniNs := 100, depth := 1, guard := 20, cycleN := 2, staticLen := 8 }, net.slots := [(0, 3), (1, 6)], net.nodes := [(5, { given := true, parent := 1 }), (2, { given := true, parent := 5, port := 7 })] }, true, by decide +kernel⟩,
   ⟨{ st .run 4095 with net.sys.cycleN := 2, net.pierB := { mode := 1, lock := some ⟨3, 256000000000 + 4720 - 32000000, 1, true⟩ } }, true, { lp := 7, ph := 3 }, ⟨3, 256000000000 + 4720 - 32000000, 1, true⟩, by decide +kernel⟩,
   ⟨{ st .run 4095 with net.sys.cycleN := 2, net.pierB := { mode := 1, lock := some ⟨3, 256000000000, 1, true⟩ } }, true, { lp := 7, ph := 3 }, ⟨3, 256000000000, 1, true⟩, by decide +kernel⟩⟩

theorem meets_PortsAreProbedAndAdmitted :
  (∃ s : State, ∃ b : Bool, (pierOf s b).mode = 0) ∧
  (∃ s : State, ∃ b : Bool, (pierOf s b).mode = 0) ∧
  (∃ s : State, ∃ b : Bool, (pierOf s b).mode = 0) ∧
  (∃ s : State, ∃ b : Bool, ∃ n : Fin 8, ∃ t : Instant, ∃ k : Nat,
    let x := Tab.get (pierOf s b).ports n.val
    let at_ := controlOf s t
    ∃ l,
    (pierOf s b).mode ≠ 0 ∧ Net.childAt s n.val = some k ∧ (pierOf s b).mode = 1 ∧ x.lastReq = some l ∧ l + 100000 * 256 ≤ at_) ∧
  (∃ s : State, ∃ b : Bool, ∃ n : Fin 8, ∃ t : Instant, ∃ k : Nat,
    let x := Tab.get (pierOf s b).ports n.val
    let at_ := controlOf s t
    ∃ l,
    (pierOf s b).mode ≠ 0 ∧ Net.childAt s n.val = some k ∧ (pierOf s b).mode = 1 ∧ x.lastReq = some l ∧ at_ < l + 100000 * 256) ∧
  (∃ s : State, ∃ b : Bool, ∃ n : Fin 8, ∃ k : Nat,
    let x := Tab.get (pierOf s b).ports n.val
    (pierOf s b).mode ≠ 0 ∧ Net.childAt s n.val = some k ∧ (pierOf s b).mode = 1 ∧ x.lastReq = none) ∧
  (∃ s : State, ∃ b : Bool, ∃ n : Fin 8, ∃ t : Instant, ∃ k : Nat,
    let x := Tab.get (pierOf s b).ports n.val
    let at_ := controlOf s t
    let gap : Int := ((s.tm.frame - s.tm.frame % 2 ^ s.net.sys.cycleN) * frame256 +
      (s.net.sys.ns * s.net.sys.slotNs + s.net.sys.nm * s.net.sys.miniNs) * 256 : Nat) - s.tm.steps
    ∃ l,
    (pierOf s b).mode ≠ 0 ∧ Net.childAt s n.val = some k ∧ (pierOf s b).mode = 2 ∧ x.lastReq = some l ∧ l < gap ∧ gap ≤ at_) ∧
  (∃ s : State, ∃ b : Bool, ∃ n : Fin 8, ∃ t : Instant, ∃ k : Nat,
    let x := Tab.get (pierOf s b).ports n.val
    let at_ := controlOf s t
    let gap : Int := ((s.tm.frame - s.tm.frame % 2 ^ s.net.sys.cycleN) * frame256 +
      (s.net.sys.ns * s.net.sys.slotNs + s.net.sys.nm * s.net.sys.miniNs) * 256 : Nat) - s.tm.steps
    ∃ l,
    (pierOf s b).mode ≠ 0 ∧ Net.childAt s n.val = some k ∧ (pierOf s b).mode = 2 ∧ x.lastReq = some l ∧ (gap ≤ l ∨ at_ < gap)) ∧
  (∃ s : State, ∃ b : Bool, ∃ n : Fin 8, ∃ src : BitVec 16, (pierOf s b).mode ≠ 0 ∧ Net.childAt s n.val = some src.toNat ∧ Tab.wf (pierOf s b).ports = true) ∧
  (∃ s : State, ∃ b : Bool, ∃ n : Fin 8, ∃ src : BitVec 16, ∃ k : Nat, (pierOf s b).mode ≠ 0 ∧ Net.childAt s n.val = some k ∧ k ≠ src.toNat ∧ Tab.wf (pierOf s b).ports = true ∧ Tab.wf (pierOf s (!b)).ports = true) ∧
  (∃ s : State, ∃ b : Bool, ∃ n : Fin 8, ∃ t : Instant, ∃ src : BitVec 16, ∃ turn : BitVec 32, ∃ d : Int,
    let x := Tab.get (pierOf s b).ports n.val
    let m2 : Int := controlOf s t - d - turn.toNat
    (pierOf s b).mode ≠ 0 ∧ Net.childAt s n.val = some src.toNat ∧ Tab.wf (pierOf s b).ports = true ∧ x.req = some d ∧ 0 ≤ m2 ∧ (x.meas = [] ∨ (m2 - 2 * (x.dp : Int)).natAbs ≤ 2560) ∧ (x.admitted = true ∨ x.meas.length < 15)) ∧
  (∃ s : State, ∃ b : Bool, ∃ n : Fin 8, ∃ t : Instant, ∃ src : BitVec 16, ∃ turn : BitVec 32, ∃ d : Int,
    let x := Tab.get (pierOf s b).ports n.val
    let m2 : Int := controlOf s t - d - turn.toNat
    (pierOf s b).mode ≠ 0 ∧ Net.childAt s n.val = some src.toNat ∧ Tab.wf (pierOf s b).ports = true ∧ x.req = some d ∧ 0 ≤ m2 ∧ (x.meas = [] ∨ (m2 - 2 * (x.dp : Int)).natAbs ≤ 2560) ∧ x.admitted = false ∧ 15 ≤ x.meas.length ∧ (Tab.get (pierOf s (!b)).ports n.val).mismatch = false ∧ (Bits.roundDiv ((x.meas ++ [m2]).drop (x.meas.length - 15)).sum 32).toNat ≤ s.net.sys.cable * 256) ∧
  (∃ s : State, ∃ b : Bool, ∃ n : Fin 8, ∃ cause : PortDown, ((Tab.get (pierOf s b).ports n.val).admitted = false ∨ cause = .probesUnanswered ∧ (Tab.get (pierOf s b).ports n.val).unanswered < 4)) ∧
  (∃ s : State, ∃ b : Bool, ∃ n : Fin 8, ∃ cause : PortDown, (Tab.get (pierOf s b).ports n.val).admitted = true ∧ (cause ≠ .probesUnanswered ∨ 4 ≤ (Tab.get (pierOf s b).ports n.val).unanswered)) :=
  ⟨⟨st .run 4095, true, by decide +kernel⟩,
   ⟨st .run 4095, true, by decide +kernel⟩,
   ⟨st .run 4095, true, by decide +kernel⟩,
   ⟨{ st .run 4095 with nodeId := 5, net.pierB := { mode := 1, ports := [(7, { lastReq := some (256000000000 + 4720 - 25600000), req := some 3 })] }, net.sys := { given := true, ns := 8, nm := 4, slotNs := 1000, miniNs := 100, depth := 1, guard := 20, cycleN := 2, staticLen := 8 }, net.slots := [(0, 3), (1, 6)], net.nodes := [(5, { given := true, parent := 1 }), (2, { given := true, parent := 5, port := 7 })] }, true, 7, { lp := 7, ph := 3 }, 2, 256000000000 + 4720 - 25600000, by decide +kernel⟩,
   ⟨{ st .run 4095 with nodeId := 5, net.pierB := { mode := 1, ports := [(7, { lastReq := some 256000000000, req := some 3 })] }, net.sys := { given := true, ns := 8, nm := 4, slotNs := 1000, miniNs := 100, depth := 1, guard := 20, cycleN := 2, staticLen := 8 }, net.slots := [(0, 3), (1, 6)], net.nodes := [(5, { given := true, parent := 1 }), (2, { given := true, parent := 5, port := 7 })] }, true, 7, { lp := 7, ph := 3 }, 2, 256000000000, by decide +kernel⟩,
   ⟨{ st .run 4095 with nodeId := 5, net.pierB := { mode := 1, ports := [(7, { unanswered := 3 })] }, net.sys := { given := true, ns := 8, nm := 4, slotNs := 1000, miniNs := 100, depth := 1, guard := 20, cycleN := 2, staticLen := 8 }, net.slots := [(0, 3), (1, 6)], net.nodes := [(5, { given := true, parent := 1 }), (2, { given := true, parent := 5, port := 7 })] }, true, 7, 2, by decide +kernel⟩,
   ⟨{ st .run 4095 with nodeId := 5, net.pierB := { mode := 2, ports := [(7, { lastReq := some 256000000000, req := some 3 })] }, net.sys := { given := true, ns := 8, nm := 4, slotNs := 1000, miniNs := 100, depth := 1, guard := 20, cycleN := 2, staticLen := 8 }, net.slots := [(0, 3), (1, 6)], net.nodes := [(5, { given := true, parent := 1 }), (2, { given := true, parent := 5, port := 7 })] }, true, 7, { lp := 3360, ph := 0 }, 2, 256000000000, by decide +kernel⟩,
   ⟨{ st .run 4095 with nodeId := 5, net.pierB := { mode := 2, ports := [(7, { lastReq := some 256000000000, req := some 3 })] }, net.sys := { given := true, ns := 8, nm := 4, slotNs := 1000, miniNs := 100, depth := 1, guard := 20, cycleN := 2, staticLen := 8 }, net.slots := [(0, 3), (1, 6)], net.nodes := [(5, { given := true, parent := 1 }), (2, { given := true, parent := 5, port := 7 })] }, true, 7, { lp := 3359, ph := 0 }, 2, 256000000000, by decide +kernel⟩,
   ⟨{ st .run 4095 with nodeId := 5, net.pierB := { mode := 2, ports := [(7, { req := some 256000000000, unanswered := 2, mismatch := true })] }, net.nodes := [(5, { given := true, parent := 1 }), (2, { given := true, parent := 5, port := 7 })] }, true, 7, 2, by decide +kernel⟩,
   ⟨{ st .run 4095 with nodeId := 5, net.pierB := { mode := 2, ports := [(7, { req := some 256000000000, unanswered := 2, mismatch := true })] }, net.nodes := [(5, { given := true, parent := 1 }), (2, { given := true, parent := 5, port := 7 })] }, true, 7, 3, 2, by decide +kernel⟩,
   ⟨{ st .run 4095 with nodeId := 5, net.pierB := { mode := 2, ports := [(7, { req := some 256000000000, unanswered := 2, meas := List.replicate 14 (2400 : Int), dp := 1200 })] }, net.nodes := [(2, { given := true, parent := 5, port := 7 })] }, true, 7, { lp := 7, ph := 3 }, 2, 100, 256000000000, by decide +kernel⟩,
   ⟨{ st .run 4095 with nodeId := 5, net.sys.cable := 1000, net.pierB := { mode := 2, ports := [(7, { req := some 256000000000, unanswered := 2, meas := List.replicate 15 (2400 : Int), dp := 1200 })] }, net.nodes := [(2, { given := true, parent := 5, port := 7 })] }, true, 7, { lp := 7, ph := 3 }, 2, 100, 256000000000, by decide +kernel⟩,
   ⟨st .run 4095, true, 7, .codeErrors, by decide +kernel⟩,
   ⟨{ st .run 4095 with net.pierB := { mode := 2, ports := [(7, { admitted := true, codeErr := 65530, fwd := some { outs := 5 } })] } }, true, 7, .codeErrors, by decide +kernel⟩⟩

theorem meets_OutputsAreConfiguredAndTested :
  (∃ c : Cmd, ∃ s : State,
    let g := valveOf c
    Names c s 7 ∧ c.unit = 0 ∧ s.md.mode = .configure ∧ s.enabled 8 = false ∧ Arg.u c 1 1 = 1 ∧ Arg.u c 2 2 = 0 ∧ Arg.u c 5 1 < 4 ∧ Arg.u c 15 1 = 0 ∧ Rest c 16 ∧ Arg.u c 0 1 ≤ 63 ∧ (valveOf c).drive ≤ 2 ∧ (g.testEn = false ∨ g.rbEn = true ∧ 10 ≤ g.periodMs ∧ g.periodMs ≤ 10000 ∧ 200 ≤ g.offUs ∧ g.offUs ≤ 1000 ∧ 50 ≤ g.onUs ∧ g.onUs ≤ 200 ∧ 100 ≤ g.gapUs ∧ g.gapUs ≤ 10000 ∧ 1 ≤ g.rbUs ∧ g.rbUs < g.onUs)) ∧
  (∃ c : Cmd, ∃ s : State,
    let g := valveOf c
    Names c s 7 ∧ c.unit = 0 ∧ s.md.mode = .configure ∧ s.enabled 8 = false ∧ Arg.u c 1 1 = 1 ∧ Arg.u c 2 2 = 0 ∧ Arg.u c 5 1 < 4 ∧ Arg.u c 15 1 = 0 ∧ Rest c 16 ∧ Arg.u c 0 1 ≤ 63 ∧ (valveOf c).drive ≤ 2 ∧ g.testEn = true ∧ (g.rbEn = false ∨ g.onUs ≤ g.rbUs)) ∧
  (∃ c : Cmd, ∃ s : State, Names c s 7 ∧ c.unit = 0 ∧ s.md.mode = .configure ∧ s.enabled 9 = false ∧ Arg.u c 1 1 = 1 ∧ Arg.u c 2 2 = 0 ∧ Arg.u c 5 1 < 2 ∧ Arg.u c 7 1 = 0 ∧ Rest c 12 ∧ Arg.u c 0 1 ≤ 31 ∧ Arg.u c 4 1 ≤ 3 ∧ Arg.u c 6 1 ≤ 10 ∧ (Arg.u c 4 1 = 0 ∨ 8 ≤ Arg.u c 8 4 ∧ Arg.u c 8 4 ≤ 2 ^ 24)) ∧
  (∃ c : Cmd, ∃ s : State, Names c s 7 ∧ c.unit = 0 ∧ s.md.mode = .configure ∧ s.enabled 9 = false ∧ Arg.u c 1 1 = 1 ∧ Arg.u c 2 2 = 0 ∧ Arg.u c 5 1 < 2 ∧ Arg.u c 7 1 = 0 ∧ Rest c 12 ∧ Arg.u c 0 1 ≤ 31 ∧ Arg.u c 4 1 ≤ 3 ∧ Arg.u c 6 1 ≤ 10 ∧ Arg.u c 4 1 ≠ 0 ∧ (Arg.u c 8 4 < 8 ∨ 2 ^ 24 < Arg.u c 8 4)) ∧
  (∃ s : State, ∃ o : TestedOut, (s.out.live = false ∨ s.stepsOn = false ∨ Out.clusterBusy s o = true)) ∧
  (∃ s : State, ∃ v : Fin 64, ∃ t : Instant,
    let x := s.valve v.val
    let p := s.tm.lp + t.lp
    s.enabled 8 = true ∧ x.cfg.testEn = true ∧ x.cfg.drive ≠ 0 ∧ s.out.live = true ∧ s.stepsOn = true ∧ x.locked = false ∧ x.test.run = none ∧ Out.clusterBusy s (.valve v) = false ∧ x.test.last + x.cfg.periodMs * 200000 ≤ p ∧ x.test.change + (if p < x.test.last + x.cfg.periodMs * 400000 then 10 else 1) * (x.cfg.gapUs * 400) ≤ p) ∧
  (∃ s : State, ∃ v : Fin 64, ∃ i : Instant, ∃ p : Nat,
    let x := s.valve v.val
    let fin := p + (if x.on then x.cfg.offUs else x.cfg.onUs) * 400 + x.cfg.rbUs * 400
    x.test.run = some p ∧ s.tm.lp + i.lp < fin) ∧
  (∃ s : State, ∃ v : Fin 64, ∃ i : Instant, ∃ p : Nat,
    let x := s.valve v.val
    let fin := p + (if x.on then x.cfg.offUs else x.cfg.onUs) * 400 + x.cfg.rbUs * 400
    x.test.run = some p ∧ fin ≤ s.tm.lp + i.lp) ∧
  (∃ s : State, ∃ v : Fin 64, ∃ i : Instant, ∃ p : Nat, ∃ a : Bool, ∃ b : Bool,
    let x := s.valve v.val
    let fin := p + (if x.on then x.cfg.offUs else x.cfg.onUs) * 400 + x.cfg.rbUs * 400
    x.test.run = some p ∧ fin ≤ s.tm.lp + i.lp ∧ Tab.wf s.out.valves = true ∧ (a && b) = false) ∧
  (∃ s : State, ∃ v : Fin 64, (s.valve v.val).test.run = none) ∧
  (∃ s : State, ∃ v : Fin 64, ∃ i : Instant,
    let x := s.valve v.val
    s.enabled 8 = true ∧ x.cfg.rbEn = true ∧ x.cfg.drive ≠ 0 ∧ x.test.run = none ∧ x.locked = false ∧ x.test.change + 2 * (x.cfg.rbUs * 400) ≤ s.tm.lp + i.lp) ∧
  (∃ s : State, ∃ v : Fin 64, ∃ i : Instant,
    let x := s.valve v.val
    (x.locked = true ∨ x.test.run.isSome = true ∨ s.tm.lp + i.lp < x.test.change + 2 * (x.cfg.rbUs * 400))) ∧
  (∃ s : State, ∃ k : Fin 8, ∃ b2 : Bool, ∃ i : Instant,
    let x := s.safeOut k.val
    let w := Tab.get s.saf.cfg (17 + k.val)
    s.enabled 7 = true ∧ w % 256 ≠ 0 ∧ w.testBit 9 = true ∧ (if b2 then x.test2 else x.test1).run = none ∧ x.lockTest = false ∧ x.lockEdm = false ∧ (if b2 then x.test2 else x.test1).change + 2 * (Tab.get s.saf.cfg 0 / 2 ^ 96 % 2 ^ 8 * 400) ≤ s.tm.lp + i.lp) ∧
  (∃ s : State, ∃ v : Fin 64, ∃ i : Instant,
    let x := s.valve v.val
    s.enabled 8 = true ∧ x.cfg.testEn = true ∧ x.cfg.drive ≠ 0 ∧ s.out.live = true ∧ x.test.untested = false ∧ x.test.last + x.cfg.periodMs * 800000 ≤ s.tm.lp + i.lp) ∧
  (∃ s : State, ∃ v : Fin 64, ∃ i : Instant,
    let x := s.valve v.val
    s.enabled 8 = true ∧ x.cfg.testEn = true ∧ x.cfg.drive ≠ 0 ∧ s.out.live = true ∧ (x.test.untested = true ∨ s.tm.lp + i.lp < x.test.last + x.cfg.periodMs * 800000)) ∧
  (∃ s : State, s.md.mode ∉ [Mode.reset, .boot] ∧ FieldAnswers s) :=
  ⟨⟨cmd 7 0 [(0, 1, 63), (1, 1, 1), (4, 1, 2), (5, 1, 3), (6, 2, 10000), (8, 2, 1000), (10, 2, 200), (12, 2, 10000), (14, 1, 199)], st .configure 0, by decide +kernel⟩,
   ⟨cmd 7 0 [(0, 1, 63), (1, 1, 1), (4, 1, 2), (5, 1, 3), (6, 2, 10000), (8, 2, 1000), (10, 2, 200), (12, 2, 10000), (14, 1, 200)], st .configure 0, by decide +kernel⟩,
   ⟨cmd 7 0 [(0, 1, 31), (1, 1, 1), (4, 1, 3), (5, 1, 1), (6, 1, 10), (8, 4, 16777216)], st .configure 0, by decide +kernel⟩,
   ⟨cmd 7 0 [(0, 1, 31), (1, 1, 1), (4, 1, 3), (5, 1, 1), (6, 1, 10), (8, 4, 16777217)], st .configure 0, by decide +kernel⟩,
   ⟨st .run 4095, .safety 7 true, by decide +kernel⟩,
   ⟨{ st .run 4095 with out := { live := true, valves := [(63, { cfg := { drive := 2, testEn := true, periodMs := 10, gapUs := 100 }, test := { last := 398000040, change := 399600040 } })] } }, 63, { lp := 40, ph := 0 }, by decide +kernel⟩,
   ⟨{ st .run 4095 with out.valves := [(63, { on := true, cfg := { offUs := 200, onUs := 50, rbUs := 1 }, test := { run := some 399925850 } })] }, 63, ⟨6249, 0⟩, 399925850, by decide +kernel⟩,
   ⟨{ st .run 4095 with out.valves := [(63, { on := true, cfg := { offUs := 200, onUs := 50, rbUs := 1 }, test := { run := some 399925849, untested := true } })] }, 63, ⟨6249, 0⟩, 399925849, by decide +kernel⟩,
   ⟨{ st .run 4095 with out.valves := [(63, { cfg := { offUs := 200, onUs := 50, rbUs := 1 }, test := { run := some 399985849, untested := true } })] }, 63, ⟨6249, 0⟩, 399985849, true, false, by decide +kernel⟩,
   ⟨st .run 4095, 63, by decide +kernel⟩,
   ⟨{ st .run 4095 with out.valves := [(63, { cfg := { drive := 2, rbEn := true, rbUs := 1 }, test := { change := 399999999 } })] }, 63, ⟨799, 0⟩, by decide +kernel⟩,
   ⟨{ st .run 4095 with out.valves := [(63, { cfg := { drive := 2, rbEn := true, rbUs := 1 }, test := { change := 399999999 } })] }, 63, ⟨798, 0⟩, by decide +kernel⟩,
   ⟨{ st .run 4095 with saf.cfg := [(0, 2 ^ 96), (24, 2 + 512)], saf.outs := [(7, { test2 := { change := 400000000 } })] }, 7, true, ⟨800, 0⟩, by decide +kernel⟩,
   ⟨{ st .run 4095 with out := { live := true, valves := [(63, { cfg := { drive := 2, testEn := true, periodMs := 10 }, test := { last := 392006249 } })] } }, 63, ⟨6249, 0⟩, by decide +kernel⟩,
   ⟨{ st .run 4095 with out := { live := true, valves := [(63, { cfg := { drive := 2, testEn := true, periodMs := 10 }, test := { last := 392006250 } })] } }, 63, ⟨6249, 0⟩, by decide +kernel⟩,
   ⟨{ st .run 4095 with out := { readback := 2 ^ 62, valves := [(31, { locked := true }), (32, { locked := true }), (62, { locked := true }), (63, { locked := true })] } }, by decide +kernel⟩⟩

theorem meets_PwmPeriodsAndTriggerEdges :
  (∃ s : State, ∃ n : Fin 32, (s.enabled 9 = false ∨ (s.pwm n.val).drive = 0)) ∧
  (∃ s : State, ∃ n : Fin 32, ∃ t : Instant,
    let x := s.pwm n.val
    s.enabled 9 = true ∧ (s.pwm n.val).drive ≠ 0 ∧ s.enabled 2 = false ∧ x.start = none ∧ t.lp = 0) ∧
  (∃ s : State, ∃ n : Fin 32, ∃ t : Instant,
    let x := s.pwm n.val
    s.enabled 9 = true ∧ (s.pwm n.val).drive ≠ 0 ∧ s.enabled 2 = false ∧ x.start = none ∧ t.lp ≠ 0) ∧
  (∃ s : State, ∃ n : Fin 32, ∃ t : Instant,
    let x := s.pwm n.val
    let p := s.tm.lp + t.lp
    let sync := x.sync = true ∧ t.lp = 0 ∧ s.tm.due (2 ^ x.syncN) 0 = true
    ∃ q,
    s.enabled 9 = true ∧ (s.pwm n.val).drive ≠ 0 ∧ s.enabled 2 = false ∧ x.start = some q ∧ q ≠ p ∧ sync) ∧
  (∃ s : State, ∃ n : Fin 32, ∃ t : Instant,
    let x := s.pwm n.val
    let p := s.tm.lp + t.lp
    let sync := x.sync = true ∧ t.lp = 0 ∧ s.tm.due (2 ^ x.syncN) 0 = true
    ∃ q,
    s.enabled 9 = true ∧ (s.pwm n.val).drive ≠ 0 ∧ s.enabled 2 = false ∧ x.start = some q ∧ q + x.period ≤ p ∧ ¬ sync) ∧
  (∃ s : State, ∃ n : Fin 32, ∃ t : Instant,
    let x := s.pwm n.val
    let p := s.tm.lp + t.lp
    let sync := x.sync = true ∧ t.lp = 0 ∧ s.tm.due (2 ^ x.syncN) 0 = true
    ∃ q,
    s.enabled 9 = true ∧ (s.pwm n.val).drive ≠ 0 ∧ s.enabled 2 = false ∧ x.start = some q ∧ p < q + x.period ∧ ¬ sync) ∧
  (∃ s : State, ∃ n : Fin 32, ∃ t : Instant, ∃ p : Nat,
    let x := s.pwm n.val
    (s.pwm n.val).start = some p ∧ s.enabled 2 = false ∧ x.high = true ∧ x.cur < x.period ∧ p + x.cur ≤ s.tm.lp + t.lp) ∧
  (∃ s : State, ∃ n : Fin 32, ∃ t : Instant, ∃ p : Nat,
    let x := s.pwm n.val
    (s.pwm n.val).start = some p ∧ s.enabled 2 = false ∧ (x.high = false ∨ x.period ≤ x.cur ∨ s.tm.lp + t.lp < p + x.cur)) ∧
  (∃ s : State, s.tm.lock = false) ∧
  (∃ s : State, ∃ n : Fin 8, ∃ level : Bool,
    let x := Tab.get s.out.trigIn n.val
    s.tm.lock = true ∧ x.cand = none ∧ level ≠ x.now) ∧
  (∃ s : State, ∃ n : Fin 8, ∃ level : Bool, ∃ t : Instant,
    let x := Tab.get s.out.trigIn n.val
    let p := s.tm.lp + t.lp
    ∃ q, ∃ d,
    s.tm.lock = true ∧ x.cand = some (q, d) ∧ p < q ∧ level = x.now) ∧
  (∃ s : State, ∃ n : Fin 8, ∃ level : Bool, ∃ t : Instant,
    let x := Tab.get s.out.trigIn n.val
    let p := s.tm.lp + t.lp
    ∃ q, ∃ d,
    s.tm.lock = true ∧ x.cand = some (q, d) ∧ q ≤ p ∧ d.level ≠ x.now ∧ level = x.now) :=
  ⟨⟨st .run 4095, 31, by decide +kernel⟩,
   ⟨{ st .run 0xAFB with out.pwm := [(31, { drive := 3, period := 8, h := 3 })] }, 31, { lp := 0, ph := 1 }, by decide +kernel⟩,
   ⟨{ st .run 0xAFB with out.pwm := [(31, { drive := 3, period := 8, h := 3 })] }, 31, { lp := 5, ph := 1 }, by decide +kernel⟩,
   ⟨{ st .run 0xAFB with out.pwm := [(31, { drive := 3, sync := true, period := 3, h := 2, start := some 399999997, cur := 5, high := true })] }, 31, { lp := 0, ph := 1 }, 399999997, by decide +kernel⟩,
   ⟨{ st .run 0xAFB with out.pwm := [(31, { drive := 3, period := 8, h := 7, start := some 399999996, cur := 5, high := true })] }, 31, { lp := 5, ph := 1 }, 399999996, by decide +kernel⟩,
   ⟨{ st .run 0xAFB with out.pwm := [(31, { drive := 3, period := 8, h := 0, start := some 399999998, cur := 5, high := true })] }, 31, { lp := 5, ph := 1 }, 399999998, by decide +kernel⟩,
   ⟨{ st .run 0xAFB with out.pwm := [(31, { drive := 3, period := 8, h := 0, start := some 400000000, cur := 5, high := true, pin := true })] }, 31, { lp := 5, ph := 1 }, 400000000, by decide +kernel⟩,
   ⟨{ st .run 0xAFB with out.pwm := [(31, { drive := 3, period := 8, h := 0, start := some 400000000, cur := 6, high := true })] }, 31, { lp := 5, ph := 1 }, 400000000, by decide +kernel⟩,
   ⟨{ st .run 0 with tm.lock := false }, by decide +kernel⟩,
   ⟨{ st .run 0 with out.trigIn := [(7, {})] }, 7, true, by decide +kernel⟩,
   ⟨{ st .run 0 with out.trigIn := [(7, { cand := some (400000006, { level := true, time := 5 }) })] }, 7, false, { lp := 5, ph := 1 }, 400000006, { level := true, time := 5 }, by decide +kernel⟩,
   ⟨{ st .run 0 with out.trigIn := [(7, { cand := some (400000005, { level := true, time := 5 }) })] }, 7, false, { lp := 5, ph := 1 }, 400000005, { level := true, time := 5 }, by decide +kernel⟩⟩

theorem meets_SafetySessionsAreGuarded :
  (∃ c : Cmd, ∃ s : State, Names c s 6 ∧ c.unit = 0 ∧ s.md.mode ∈ [Mode.configure, .commission] ∧ Arg.u c 1 3 = 0 ∧ Rest c 40 ∧ s.saf.lockout ≠ none) ∧
  (∃ c : Cmd, ∃ s : State, Names c s 6 ∧ c.unit = 0 ∧ s.md.mode ∈ [Mode.configure, .commission] ∧ Arg.u c 1 3 = 0 ∧ Rest c 40 ∧ s.saf.lockout = none ∧ PwdOk c 8 ∧ s.saf.store.password = some (pwdHash c 8) ∧ s.saf.session = none) ∧
  (∃ c : Cmd, ∃ s : State, Names c s 6 ∧ c.unit = 0 ∧ s.md.mode ∈ [Mode.configure, .commission] ∧ Arg.u c 1 3 = 0 ∧ Rest c 40 ∧ s.saf.lockout = none ∧ PwdOk c 8 ∧ s.saf.store.password = some (pwdHash c 8) ∧ s.saf.session ≠ none) ∧
  (∃ c : Cmd, ∃ s : State, Names c s 6 ∧ c.unit = 0 ∧ s.md.mode ∈ [Mode.configure, .commission] ∧ Arg.u c 1 3 = 0 ∧ Rest c 40 ∧ s.saf.lockout = none ∧ s.saf.session = none ∧ (PwdOk c 8 → s.saf.store.password ≠ some (pwdHash c 8))) ∧
  (∃ s : State, ∃ t, s.saf.lockout = some t ∧ t + 60 * (sec256 : Int) ≤ s.tm.control + frame256) ∧
  (∃ s : State, ∃ t, s.saf.lockout = some t ∧ s.tm.control + frame256 < t + 60 * (sec256 : Int)) ∧
  (∃ s : State, s.saf.lockout = none) ∧
  (∃ s : State, ∃ q, s.saf.session = some q ∧ q.last + 600 * (sec256 : Int) ≤ s.tm.control + frame256) ∧
  (∃ s : State, ∃ q, s.saf.session = some q ∧ s.tm.control + frame256 < q.last + 600 * (sec256 : Int)) ∧
  (∃ s : State, s.saf.session = none) ∧
  (∃ c : Cmd, ∃ s : State, Names c s 6 ∧ c.unit = 0 ∧ s.md.mode ∈ [Mode.configure, .commission] ∧ Rest c 0 ∧ s.saf.session = none) ∧
  (∃ c : Cmd, ∃ s : State, Names c s 6 ∧ c.unit = 0 ∧ s.md.mode ∈ [Mode.configure, .commission] ∧ Rest c 0 ∧ s.saf.session = none) ∧
  (∃ c : Cmd, ∃ s : State, ∃ q, Names c s 6 ∧ c.unit = 0 ∧ s.md.mode ∈ [Mode.configure, .commission] ∧ Rest c 0 ∧ s.saf.session = some q) ∧
  (∃ c : Cmd, ∃ s : State, ∃ q, ∃ r, Names c s 6 ∧ c.unit = 0 ∧ s.md.mode ∈ [Mode.configure, .commission] ∧ Rest c 0 ∧ s.saf.session = some q ∧ Safe.checkFormat s.nodeId q.edit = some r) ∧
  (∃ c : Cmd, ∃ s : State, ∃ q, Names c s 6 ∧ c.unit = 0 ∧ s.md.mode ∈ [Mode.configure, .commission] ∧ Rest c 0 ∧ s.saf.session = some q ∧ Safe.checkFormat s.nodeId q.edit = none ∧ Safe.checkRefs s (s.enabled 0) q.edit = none ∧ Mot.allStill s = true ∧ (∀ k ∈ s.saf.outs, k.2.ss1 = none) ∧ (s.pair.cda.channel = false ∨ s.pair.cdb.channel = false ∨ s.saf.crc1 = s.saf.crc2)) ∧
  (∃ c : Cmd, ∃ s : State, Names c s 6 ∧ c.unit = 0 ∧ s.md.mode ∈ [Mode.configure, .commission] ∧ Arg.u c 1 3 = 0 ∧ Rest c 36 ∧ (s.saf.session ≠ none ∨ s.saf.store.password = none) ∧ PwdOk c 4) ∧
  (∃ c : Cmd, ∃ s : State, Names c s 6 ∧ c.unit = 0 ∧ s.md.mode ∈ [Mode.configure, .commission] ∧ Arg.u c 1 3 = 0 ∧ Rest c 36 ∧ (s.saf.session ≠ none ∨ s.saf.store.password = none) ∧ ¬ PwdOk c 4) ∧
  (∃ c : Cmd, ∃ s : State, Names c s 6 ∧ c.unit = 0 ∧ s.md.mode ∉ [Mode.reset, .boot] ∧ Rest c 2 ∧ Arg.u c 1 1 < 2) :=
  ⟨⟨cmd 6 0 [(0, 1, 8), (4, 4, 4294967295), (8, 8, 0x7E20313233343536)], { st .configure 0 with saf := { lockout := some 5, session := some { last := 7 } } }, by decide +kernel⟩,
   ⟨unlockCmd, { st .commission 0 with saf := { wrong := 4, cfg := [(0, 7)], store := { password := some (pwdHash unlockCmd 8) } } }, by decide +kernel⟩,
   ⟨unlockCmd, { st .commission 0 with saf := { wrong := 4, session := some {}, store := { password := some (pwdHash unlockCmd 8) } } }, by decide +kernel⟩,
   ⟨cmd 6 0 [(0, 1, 7), (4, 4, 4294967295), (8, 8, 0x7E20313233343536)], { st .commission 0 with saf := { wrong := 4 } }, by decide +kernel⟩,
   ⟨{ st .configure 0 with saf := { lockout := some (256000000000 - 60 * 256000000000 + 4000000) } }, 256000000000 - 60 * 256000000000 + 4000000, by decide +kernel⟩,
   ⟨{ st .configure 0 with saf := { lockout := some (256000000000 - 60 * 256000000000 + 4000001) } }, 256000000000 - 60 * 256000000000 + 4000001, by decide +kernel⟩,
   ⟨st .configure 0, by decide +kernel⟩,
   ⟨{ st .configure 0 with saf := { session := some { last := 256000000000 - 600 * 256000000000 + 4000000 } } }, { last := 256000000000 - 600 * 256000000000 + 4000000 }, by decide +kernel⟩,
   ⟨{ st .configure 0 with saf := { session := some { last := 256000000000 - 600 * 256000000000 + 4000001 } } }, { last := 256000000000 - 600 * 256000000000 + 4000001 }, by decide +kernel⟩,
   ⟨st .configure 0, by decide +kernel⟩,
   ⟨cmd 6 0 [], st .configure 0, by decide +kernel⟩,
   ⟨cmd 6 0 [], st .configure 0, by decide +kernel⟩,
   ⟨cmd 6 0 [], { st .configure 0 with saf := { session := some {} } }, {}, by decide +kernel⟩,
   ⟨cmd 6 0 [], { st .configure 0 with saf := { session := some {} } }, {}, (0x64, mkLoc 0 1 6 0 0), by decide +kernel⟩,
   ⟨cmd 6 0 [], { st .configure 0 with saf := { crc1 := 9, crc2 := 9, session := some goodEdit } }, goodEdit, by decide +kernel⟩,
   ⟨cmd 6 0 [(0, 1, 32), (4, 32, 0x7E203132333435367E203132333435367E203132333435367E20313233343536)], { st .commission 0 with saf := { session := some {} } }, by decide +kernel⟩,
   ⟨cmd 6 0 [(0, 1, 8), (4, 8, 0x7F20313233343536)], st .commission 0, by decide +kernel⟩,
   ⟨cmd 6 0 [(0, 1, 1), (1, 1, 1)], { st .run 0 with saf := { session := some {}, store := { log := [{}, { seq := 1, sec := 2, ns := 3, operator := 4, oldCrc := 5, newCrc := 4294967295 }] } } }, by decide +kernel⟩⟩

theorem meets_SafetyElementsAreEdited :
  (∃ c : Cmd, ∃ s : State, ∃ q : SafeSession,
    let w := c.args.toNat
    Names c s 6 ∧ s.md.mode ∈ [Mode.configure, .commission] ∧ s.saf.session = some q ∧ c.unit = 0 ∧ Rest c 13 ∧ Safe.globalOk w = true) ∧
  (∃ c : Cmd, ∃ s : State, ∃ q : SafeSession,
    let f (off len : Nat) : Nat := Arg.u c off len
    Names c s 6 ∧ s.md.mode ∈ [Mode.configure, .commission] ∧ s.saf.session = some q ∧ c.unit = 0 ∧ Rest c 13 ∧ (f 0 1 = 0 ∨ 30 < f 0 1)) ∧
  (∃ c : Cmd, ∃ s : State, ∃ q : SafeSession,
    let f (off len : Nat) : Nat := Arg.u c off len
    Names c s 6 ∧ s.md.mode ∈ [Mode.configure, .commission] ∧ s.saf.session = some q ∧ c.unit < 16 ∧ Rest c 16 ∧ f 7 1 < 4 ∧ ((f 0 1 = 0 ∧ f 1 1 ≤ 1) ∨ (f 0 1 ≤ 5 ∧ f 1 1 ≤ 1 ∧ f 2 2 ≤ 1900 ∧ 1 ≤ f 4 2 ∧ f 4 2 ≤ 500 ∧ (f 0 1 = 1 → f 6 1 ≠ 0 ∨ (f 7 1).testBit 0 = true)))) ∧
  (∃ c : Cmd, ∃ s : State, ∃ q : SafeSession,
    let f (off len : Nat) : Nat := Arg.u c off len
    Names c s 6 ∧ s.md.mode ∈ [Mode.configure, .commission] ∧ s.saf.session = some q ∧ c.unit < 16 ∧ Rest c 16 ∧ f 7 1 < 4 ∧ 5 < f 0 1) ∧
  (∃ c : Cmd, ∃ s : State, ∃ q : SafeSession,
    let f (off len : Nat) : Nat := Arg.u c off len
    Names c s 6 ∧ s.md.mode ∈ [Mode.configure, .commission] ∧ s.saf.session = some q ∧ 16 ≤ c.unit ∧ c.unit < 24 ∧ Rest c 4 ∧ f 1 1 < 4 ∧ (f 0 1 = 0 ∨ f 0 1 ≤ 2 ∧ 10 ≤ f 2 2 ∧ f 2 2 ≤ 10000)) ∧
  (∃ c : Cmd, ∃ s : State, ∃ q : SafeSession,
    let f (off len : Nat) : Nat := Arg.u c off len
    Names c s 6 ∧ s.md.mode ∈ [Mode.configure, .commission] ∧ s.saf.session = some q ∧ 16 ≤ c.unit ∧ c.unit < 24 ∧ Rest c 4 ∧ f 1 1 < 4 ∧ 2 < f 0 1) ∧
  (∃ c : Cmd, ∃ s : State, ∃ q : SafeSession,
    let f (off len : Nat) : Nat := Arg.u c off len
    Names c s 6 ∧ s.md.mode ∈ [Mode.configure, .commission] ∧ s.saf.session = some q ∧ 64 ≤ c.unit ∧ Rest c 40 ∧ f 0 1 < 8 ∧ f 3 1 = 0 ∧ f 1 1 ≤ 7 ∧ f 2 1 ≤ 1 ∧ 1 ≤ f 16 4 ∧ 0 < Arg.s c 24 8 ∧ 0 < Arg.s c 32 8) ∧
  (∃ c : Cmd, ∃ s : State, ∃ q : SafeSession,
    let f (off len : Nat) : Nat := Arg.u c off len
    Names c s 6 ∧ s.md.mode ∈ [Mode.configure, .commission] ∧ s.saf.session = some q ∧ 64 ≤ c.unit ∧ Rest c 40 ∧ f 0 1 < 8 ∧ f 3 1 = 0 ∧ 7 < f 1 1) ∧
  (∃ c : Cmd, ∃ s : State, ∃ q : SafeSession, Names c s 6 ∧ s.md.mode ∈ [Mode.configure, .commission] ∧ s.saf.session = some q ∧ 64 ≤ c.unit ∧ Rest c 20 ∧ Arg.s c 0 8 < Arg.s c 8 8) ∧
  (∃ c : Cmd, ∃ s : State, ∃ q : SafeSession, Names c s 6 ∧ s.md.mode ∈ [Mode.configure, .commission] ∧ s.saf.session = some q ∧ 64 ≤ c.unit ∧ Rest c 20 ∧ Arg.s c 8 8 ≤ Arg.s c 0 8) ∧
  (∃ c : Cmd, ∃ s : State, Names c s 6 ∧ s.md.mode ∈ [Mode.configure, .commission] ∧ s.saf.session = none ∧ c.unit = 0 ∧ Rest c 13) ∧
  (∃ c : Cmd, ∃ s : State, Names c s 6 ∧ s.md.mode ∈ [Mode.configure, .commission] ∧ s.saf.session = none ∧ 64 ≤ c.unit ∧ Rest c 20) :=
  ⟨⟨cmd 6 0 [(0, 1, 30), (1, 1, 64), (2, 2, 10000), (4, 2, 1000), (6, 2, 200), (8, 2, 10000), (10, 2, 500), (12, 1, 199)], { st .configure 0 with saf := { session := some goodEdit } }, goodEdit, by decide +kernel⟩,
   ⟨cmd 6 0 [(0, 1, 31)], { st .configure 0 with saf := { session := some goodEdit } }, goodEdit, by decide +kernel⟩,
   ⟨cmd 6 15 [(7, 1, 3), (8, 8, -1)], { st .configure 0 with saf := { session := some goodEdit } }, goodEdit, by decide +kernel⟩,
   ⟨cmd 6 15 [(0, 1, 6)], { st .configure 0 with saf := { session := some goodEdit } }, goodEdit, by decide +kernel⟩,
   ⟨cmd 6 23 [(1, 1, 3)], { st .configure 0 with saf := { session := some goodEdit } }, goodEdit, by decide +kernel⟩,
   ⟨cmd 6 23 [(0, 1, 3)], { st .configure 0 with saf := { session := some goodEdit } }, goodEdit, by decide +kernel⟩,
   ⟨cmd 6 127 [(0, 1, 7), (1, 1, 7), (2, 1, 1), (16, 4, 1), (24, 8, 1), (32, 8, 9223372036854775807)], { st .configure 0 with saf := { session := some goodEdit } }, goodEdit, by decide +kernel⟩,
   ⟨cmd 6 127 [(0, 1, 7), (1, 1, 8)], { st .configure 0 with saf := { session := some goodEdit } }, goodEdit, by decide +kernel⟩,
   ⟨cmd 6 127 [(0, 8, -9223372036854775808), (8, 8, -9223372036854775807)], { st .configure 0 with saf := { session := some goodEdit } }, goodEdit, by decide +kernel⟩,
   ⟨cmd 6 127 [(0, 8, 5), (8, 8, 5)], { st .configure 0 with saf := { session := some goodEdit } }, goodEdit, by decide +kernel⟩,
   ⟨cmd 6 0 [], st .configure 0, by decide +kernel⟩,
   ⟨cmd 6 64 [], st .configure 0, by decide +kernel⟩⟩

theorem meets_SafetyVerdicts :
  (∃ s : State, ∃ k : Fin 16, ∃ held : Nat, (s.tm.lock = false ∨ held < Tab.get s.saf.cfg (1 + k.val) / 2 ^ 16 % 2 ^ 16 * 400)) ∧
  (∃ s : State, ∃ k : Fin 16, ∃ held : Nat, s.tm.lock = true ∧ Tab.get s.saf.cfg (1 + k.val) / 2 ^ 16 % 2 ^ 16 * 400 ≤ held) ∧
  (∃ s : State, ∃ k : Fin 16,
    let x := Tab.get s.saf.ins k.val
    let w := Tab.get s.saf.cfg (1 + k.val)
    (x.since = none ∨ s.enabled 7 = false ∨ w % 256 = 0 ∨ x.disc = true)) ∧
  (∃ s : State, ∃ k : Fin 16, ∃ t : Instant,
    let x := Tab.get s.saf.ins k.val
    let w := Tab.get s.saf.cfg (1 + k.val)
    ∃ p,
    x.since = some p ∧ s.enabled 7 = true ∧ w % 256 ≠ 0 ∧ x.disc = false ∧ p + w / 2 ^ 32 % 2 ^ 16 * 400000 ≤ s.tm.lp + t.lp) ∧
  (∃ s : State, ∃ k : Fin 16, ∃ t : Instant,
    let x := Tab.get s.saf.ins k.val
    let w := Tab.get s.saf.cfg (1 + k.val)
    ∃ p,
    x.since = some p ∧ s.enabled 7 = true ∧ w % 256 ≠ 0 ∧ x.disc = false ∧ s.tm.lp + t.lp < p + w / 2 ^ 32 % 2 ^ 16 * 400000) ∧
  (∃ s : State, ∃ x : BitVec 32, s.saf.judged = true ∧ (x = 0 ∨ s.enabled 7 = false)) ∧
  (∃ s : State, ∃ x : BitVec 32, s.saf.judged = true ∧ x ≠ 0 ∧ s.enabled 7 = true ∧ s.pair.cda.channel = true ∧ s.pair.cdb.channel = true) ∧
  (∃ s : State, ∃ k : Nat, ∃ j : Nat,
    let w := Tab.get s.saf.cfg (1 + k)
    k < 16 ∧ j < 8 ∧ s.saf.judged = false ∧ s.enabled 7 = true ∧ s.saf.begun = true ∧ s.pair.cda.channel = true ∧ (Tab.get s.saf.ins k).lat1 = some false ∧ w % 256 = 1 ∧ (w / 2 ^ 48 % 256).testBit j = true) ∧
  (∃ s : State, s.pair.st = 1 ∧ s.pair.cda.channel = false ∧ s.pair.cdb.channel = true ∧ 64 ≤ s.pair.cda.rebuilt) ∧
  (∃ s : State, (s.pair.cda.rebuilt < 64 ∨ s.pair.cda.channel = true)) :=
  ⟨⟨{ st .run 4095 with tm.lock := false }, 15, 0, by decide +kernel⟩,
   ⟨{ st .run 4095 with saf.ins := [(15, { lev1 := some false, since := some 5 })] }, 15, 0, by decide +kernel⟩,
   ⟨st .run 4095, 15, by decide +kernel⟩,
   ⟨{ st .run 4095 with saf := { cfg := [(16, 1 + 500 * 2 ^ 32)], ins := [(15, { lev1 := some false, since := some (400006250 - 500 * 400000) })] } }, 15, ⟨6250, 0⟩, 400006250 - 500 * 400000, by decide +kernel⟩,
   ⟨{ st .run 4095 with saf := { cfg := [(16, 1 + 500 * 2 ^ 32)], ins := [(15, { lev1 := some false, since := some (400006251 - 500 * 400000) })] } }, 15, ⟨6250, 0⟩, 400006251 - 500 * 400000, by decide +kernel⟩,
   ⟨{ st .run 4095 with saf.judged := true }, 0, by decide +kernel⟩,
   ⟨{ st .run 4095 with saf.judged := true }, 0xFFFFFFFF, by decide +kernel⟩,
   ⟨{ st .run 4095 with saf := { begun := true, cfg := [(16, 1 + 128 * 2 ^ 48 + 2 * 2 ^ 56)], ins := [(15, { lat1 := some false })] } }, 15, 7, by decide +kernel⟩,
   ⟨{ st .run 4095 with pair.cda := { rebuilt := 64 }, saf.crc1 := 5 }, by decide +kernel⟩,
   ⟨{ st .run 4095 with pair.cda := { rebuilt := 63 } }, by decide +kernel⟩⟩

theorem meets_SafetyDemandsAndReleases :
  (∃ c : Cmd, ∃ s : State, ∃ k : Fin 8, Names c s 6 ∧ c.unit = 0 ∧ s.md.mode ∈ [Mode.commission, .run, .hold, .degraded] ∧ Rest c 1 ∧ Arg.u c 0 1 = 2 ^ k.val ∧ Tab.get s.saf.cfg (17 + k.val) % 256 ≠ 0 ∧ Tab.wf s.saf.outs = true ∧ s.enabled 7 = true ∧ Safe.releasable s k.val = true) ∧
  (∃ c : Cmd, ∃ s : State, ∃ k : Fin 8, Names c s 6 ∧ c.unit = 0 ∧ s.md.mode ∈ [Mode.commission, .run, .hold, .degraded] ∧ Rest c 1 ∧ Arg.u c 0 1 = 2 ^ k.val ∧ Tab.get s.saf.cfg (17 + k.val) % 256 ≠ 0 ∧ Tab.wf s.saf.outs = true ∧ s.enabled 7 = true ∧ Safe.releasable s k.val = false) ∧
  (∃ c : Cmd, ∃ s : State, ∃ k : Fin 8, Names c s 6 ∧ c.unit = 0 ∧ s.md.mode ∈ [Mode.commission, .run, .hold, .degraded] ∧ Rest c 1 ∧ Arg.u c 0 1 = 2 ^ k.val ∧ Tab.get s.saf.cfg (17 + k.val) % 256 ≠ 0 ∧ Tab.wf s.saf.outs = true ∧ s.enabled 7 = false) ∧
  (∃ c : Cmd, ∃ s : State,
    let axes := (List.range 64).filter fun a => (Arg.u c 0 8).testBit a
    let has (a : Nat) : Bool := (Tab.get s.saf.cfg (25 + a) % 256).testBit (if Arg.u c 8 1 = 1 then 0 else 2)
    Names c s 6 ∧ c.unit = 0 ∧ s.md.mode ∈ [Mode.commission, .run, .hold, .degraded] ∧ Rest c 10 ∧ 1 ≤ Arg.u c 8 1 ∧ Arg.u c 8 1 ≤ 3 ∧ Arg.u c 9 1 < 2 ∧ s.enabled 7 = true ∧ (∀ a ∈ axes, has a = true)) ∧
  (∃ c : Cmd, ∃ s : State,
    let axes := (List.range 64).filter fun a => (Arg.u c 0 8).testBit a
    let has (a : Nat) : Bool := (Tab.get s.saf.cfg (25 + a) % 256).testBit (if Arg.u c 8 1 = 1 then 0 else 2)
    Names c s 6 ∧ c.unit = 0 ∧ s.md.mode ∈ [Mode.commission, .run, .hold, .degraded] ∧ Rest c 10 ∧ 1 ≤ Arg.u c 8 1 ∧ Arg.u c 8 1 ≤ 3 ∧ Arg.u c 9 1 < 2 ∧ s.enabled 7 = true ∧ (∃ a ∈ axes, has a = false)) ∧
  (∃ c : Cmd, ∃ s : State,
    let a := c.unit - 64
    let y := Tab.get s.saf.axes a
    Names c s 6 ∧ 64 ≤ c.unit ∧ s.md.mode ∉ [Mode.reset, .boot] ∧ Rest c 0 ∧ s.enabled 7 = true ∧ y.hist = []) ∧
  (∃ c : Cmd, ∃ s : State, Names c s 6 ∧ 64 ≤ c.unit ∧ s.md.mode ∉ [Mode.reset, .boot] ∧ Rest c 0 ∧ s.enabled 7 = false) ∧
  (∃ s : State, ∃ k : Fin 8, (s.safeOut k.val).ss1 = none) ∧
  (∃ s : State, ∃ k : Fin 8, (s.safeOut k.val).ss1 = none) ∧
  (∃ s : State, ∃ k : Fin 8, ∃ r : Ss1, (s.safeOut k.val).ss1 = some r ∧ 8 ≤ r.still) ∧
  (∃ s : State, ∃ k : Fin 8, ∃ r : Ss1, (s.safeOut k.val).ss1 = some r ∧ r.still < 8) ∧
  (∃ s : State, ∃ k : Fin 8, ∃ r : Ss1,
    let late := r.t0 + (Tab.get s.saf.cfg (17 + k.val) / 2 ^ 16 % 2 ^ 16 * 256000000 : Nat)
    (s.safeOut k.val).ss1 = some r ∧ late ≤ s.tm.control) ∧
  (∃ s : State, ∃ k : Fin 8, ∃ r : Ss1,
    let late := r.t0 + (Tab.get s.saf.cfg (17 + k.val) / 2 ^ 16 % 2 ^ 16 * 256000000 : Nat)
    (s.safeOut k.val).ss1 = some r ∧ s.tm.control < late) ∧
  (∃ s : State, ∃ i : Fin 16, ∃ t : Instant,
    let k := i.val / 2
    let x := s.safeOut k
    let w := Tab.get s.saf.cfg (17 + k)
    let on := if i.val % 2 = 0 then x.on1 else x.on2
    s.enabled 7 = true ∧ w % 256 ≠ 0 ∧ w.testBit 8 = true ∧ x.lockEdm = false ∧ on = s.saf.edm.testBit i.val ∧ Tab.get s.saf.edmSince i.val + (Tab.get s.saf.cfg 0 / 2 ^ 80 % 2 ^ 16 * 256000000 : Nat) ≤ (s.tm.edge t : Int) - s.tm.steps) ∧
  (∃ s : State, ∃ i : Fin 16,
    let k := i.val / 2
    let x := s.safeOut k
    let w := Tab.get s.saf.cfg (17 + k)
    let on := if i.val % 2 = 0 then x.on1 else x.on2
    s.enabled 7 = true ∧ w % 256 ≠ 0 ∧ w.testBit 8 = true ∧ x.lockEdm = false ∧ on ≠ s.saf.edm.testBit i.val ∧ x.stuck1 = false ∧ x.stuck2 = false) :=
  ⟨⟨cmd 6 0 [(0, 1, 128)], { st .run 4095 with saf := { cfg := [(24, 1)], outs := [(7, { latch := [.limit 3], lockTest := true, stuck1 := true })] } }, 7, by decide +kernel⟩,
   ⟨cmd 6 0 [(0, 1, 128)], { st .run 4095 with saf := { cfg := [(24, 1)], outs := [(7, { latch := [.limit 3] })], axes := [(3, { bad := 1 })] } }, 7, by decide +kernel⟩,
   ⟨cmd 6 0 [(0, 1, 128)], { st .run 0 with saf := { cfg := [(24, 1)], session := some {}, outs := [(7, { latch := [.limit 3] })] } }, 7, by decide +kernel⟩,
   ⟨cmd 6 0 [(0, 8, -9223372036854775808), (8, 1, 3), (9, 1, 1)], { st .run 4095 with saf := { cfg := [(88, 4)], session := some {}, axes := [(63, { ve := 5 })] } }, by decide +kernel⟩,
   ⟨cmd 6 0 [(0, 8, -9223372036854775808), (8, 1, 2), (9, 1, 1)], { st .run 4095 with saf := { cfg := [(88, 1)] } }, by decide +kernel⟩,
   ⟨cmd 6 127 [], { st .run 4095 with saf := { cfg := [(88, 7 * 256)], axes := [(63, { ve := -5, vc := 2147483647, sls := some {}, sdiNeg := some {}, viol := 4 })], outs := [(7, { off := true, ss1 := some {} })] } }, by decide +kernel⟩,
   ⟨cmd 6 64 [], st .run 0, by decide +kernel⟩,
   ⟨st .run 0, 7, by decide +kernel⟩,
   ⟨st .run 0, 7, by decide +kernel⟩,
   ⟨{ st .run 0 with saf := { cfg := [(24, 1 * 65536)], outs := [(7, { ss1 := some { t0 := 256000000000 - 256000000, still := 8 } })] } }, 7, { t0 := 256000000000 - 256000000, still := 8 }, by decide +kernel⟩,
   ⟨{ st .run 0 with saf := { cfg := [(24, 1 * 65536)], outs := [(7, { ss1 := some { t0 := 256000000000 - 256000000, still := 7 } })] } }, 7, { t0 := 256000000000 - 256000000, still := 7 }, by decide +kernel⟩,
   ⟨{ st .run 0 with saf := { cfg := [(24, 1 * 65536)], outs := [(7, { ss1 := some { t0 := 256000000000 - 256000000, still := 8 } })] } }, 7, { t0 := 256000000000 - 256000000, still := 8 }, by decide +kernel⟩,
   ⟨{ st .run 0 with saf := { cfg := [(24, 1 * 65536)], outs := [(7, { ss1 := some { t0 := 256000000000 - 255999999, still := 8 } })] } }, 7, { t0 := 256000000000 - 255999999, still := 8 }, by decide +kernel⟩,
   ⟨{ st .run 4095 with saf := { cfg := [(0, 10 * 2 ^ 80), (24, 1 + 256)], edm := 0x7FFF, edmSince := [(15, 256004000560 - 2560000000)] } }, 15, ⟨6250, 7⟩, by decide +kernel⟩,
   ⟨{ st .run 4095 with saf := { cfg := [(0, 10 * 2 ^ 80), (24, 1 + 256)], edm := 0xFFFF, edmSince := [(15, 256004000560 - 2560000000)] } }, 15, by decide +kernel⟩⟩

theorem meets_SvnCommitRaisesTheFusedVersions :
  (∃ c : Cmd, ∃ s : State, NamesHbd c s 3 ∧ c.unit = 0 ∧ Rest c 0 ∧ s.md.mode = .configure ∧ s.pair.st = 1) ∧
  (∃ c : Cmd, ∃ s : State, NamesHbd c s 3 ∧ c.unit = 0 ∧ Rest c 0 ∧ s.md.mode = .configure ∧ s.pair.st = 1 ∧ s.trust.run1.1 ≤ s.trust.svn1 ∧ s.trust.run2.1 ≤ s.trust.svn2 ∧ s.trust.run3.1 ≤ s.trust.svn3 ∧ s.trust.revoked ||| s.trust.run1.2 ||| s.trust.run2.2 ||| s.trust.run3.2 = s.trust.revoked) ∧
  (∃ c : Cmd, ∃ s : State, NamesHbd c s 3 ∧ c.unit = 0 ∧ Rest c 0 ∧ s.md.mode = .configure ∧ s.pair.st ≠ 1) ∧
  (∃ c : Cmd, ∃ s : State, NamesHbd c s 3 ∧ c.unit = 0 ∧ Rest c 0 ∧ s.md.mode ∉ [Mode.reset, .boot, .configure]) :=
  ⟨⟨hcmd 3 0 [], { st .configure 0 with trust := { svn1 := 63, svn2 := 5, svn3 := 0, revoked := 1, run1 := (5, 2), run2 := (63, 4), run3 := (1, 8) } }, by decide +kernel⟩,
   ⟨hcmd 3 0 [], { st .configure 0 with trust := { svn1 := 63, svn2 := 5, svn3 := 0, revoked := 3, run1 := (5, 2), run2 := (5, 0) } }, by decide +kernel⟩,
   ⟨hcmd 3 0 [], { st .configure 0 with pair.st := 2 }, by decide +kernel⟩,
   ⟨hcmd 3 0 [], st .run 0, by decide +kernel⟩⟩

theorem meets_KeysAreProvisionedAndAttested :
  (∃ c : Cmd, ∃ s : State, NamesHbd c s 3 ∧ c.unit = 0 ∧ s.md.mode = .configure ∧ Rest c 8 ∧ Arg.u c 0 8 % 64 = 0 ∧ s.trust.customer = 0) ∧
  (∃ c : Cmd, ∃ s : State, NamesHbd c s 3 ∧ c.unit = 0 ∧ s.md.mode = .configure ∧ Rest c 8 ∧ Arg.u c 0 8 % 64 = 0 ∧ s.trust.customer ≠ 0) ∧
  (∃ c : Cmd, ∃ s : State, NamesHbd c s 3 ∧ c.unit = 0 ∧ s.md.mode = .configure ∧ Rest c 8 ∧ Arg.u c 0 8 % 64 = 0 ∧ s.trust.customer = 0) ∧
  (∃ c : Cmd, ∃ s : State, NamesHbd c s 3 ∧ c.unit = 0 ∧ s.md.mode ∉ [Mode.reset, .boot] ∧ Rest c 40 ∧ Arg.u c 0 8 % 64 = 0) ∧
  (∃ c : Cmd, ∃ s : State, NamesHbd c s 3 ∧ c.unit = 0 ∧ s.md.mode ∉ [Mode.reset, .boot] ∧ Rest c 8 ∧ Arg.u c 0 8 % 64 = 0) ∧
  (∃ c : Cmd, ∃ s : State, NamesHbd c s 3 ∧ c.unit = 0 ∧ s.md.mode ∉ [Mode.reset, .boot] ∧ Rest c 40 ∧ Arg.u c 0 8 % 64 ≠ 0) :=
  ⟨⟨hcmd 3 0 [(0, 8, 18446744073709551552)], st .configure 0, by decide +kernel⟩,
   ⟨hcmd 3 0 [(0, 8, 18446744073709551552)], { st .configure 0 with trust.customer := 9 }, by decide +kernel⟩,
   ⟨hcmd 3 0 [(0, 8, 18446744073709551552)], st .configure 0, by decide +kernel⟩,
   ⟨hcmd 3 0 [(0, 8, 18446744073709551552), (8, 32, -1)], st .run 0, by decide +kernel⟩,
   ⟨hcmd 3 0 [(0, 8, 18446744073709551552)], st .run 0, by decide +kernel⟩,
   ⟨hcmd 3 0 [(0, 8, 63)], st .run 0, by decide +kernel⟩⟩

theorem meets_DebugScopesOpenAndClose :
  (∃ c : Cmd, ∃ s : State, NamesHbd c s 3 ∧ c.unit = 0 ∧ s.md.mode ∉ [Mode.reset, .boot] ∧ Rest c 0) ∧
  (∃ s : State, ∃ t : Instant, s.trust.challengeUntil ≤ (s.tm.edge t : Int) - s.tm.steps) ∧
  (∃ s : State, ∃ t : Instant, (s.tm.edge t : Int) - s.tm.steps < s.trust.challengeUntil) ∧
  (∃ c : Cmd, ∃ s : State, ∃ bs : Bytes,
    let scope := Bits.leAt bs 24 4
    ∃ ch,
    NamesHbd c s 3 ∧ c.unit = 0 ∧ s.md.mode ∉ [Mode.reset, .boot] ∧ Rest c 8 ∧ Arg.u c 0 8 % 64 = 0 ∧ s.trust.challenge = some ch ∧ s.tm.control < s.trust.challengeUntil ∧ (scope.testBit 1 = false ∨ s.md.mode = .configure)) ∧
  (∃ c : Cmd, ∃ s : State, ∃ bs : Bytes,
    let scope := Bits.leAt bs 24 4
    NamesHbd c s 3 ∧ c.unit = 0 ∧ s.md.mode ∉ [Mode.reset, .boot] ∧ Rest c 8 ∧ Arg.u c 0 8 % 64 = 0 ∧ (s.trust.challenge = none ∨ s.trust.challengeUntil ≤ s.tm.control) ∧ scope.testBit 1 = false) ∧
  (∃ c : Cmd, ∃ s : State, ∃ bs : Bytes,
    let scope := Bits.leAt bs 24 4
    NamesHbd c s 3 ∧ c.unit = 0 ∧ s.md.mode ∉ [Mode.reset, .boot] ∧ Rest c 8 ∧ Arg.u c 0 8 % 64 = 0 ∧ scope.testBit 1 = true ∧ s.md.mode ≠ .configure) ∧
  (∃ c : Cmd, ∃ s : State, NamesHbd c s 3 ∧ c.unit = 0 ∧ s.md.mode ∉ [Mode.reset, .boot] ∧ Rest c 8 ∧ Arg.u c 0 8 % 64 = 0) ∧
  (∃ c : Cmd, ∃ s : State, NamesHbd c s 3 ∧ c.unit = 0 ∧ s.md.mode ∉ [Mode.reset, .boot] ∧ Rest c 0 ∧ s.trust.fieldScope = false) ∧
  (∃ c : Cmd, ∃ s : State, NamesHbd c s 3 ∧ c.unit = 0 ∧ s.md.mode ∉ [Mode.reset, .boot] ∧ Rest c 0 ∧ s.trust.fieldScope = true ∧ s.md.mode = .configure) ∧
  (∃ s : State, ∃ t : Instant, s.trust.fieldScope = false ∧ s.trust.hbdScope = true ∧ s.trust.hbdUntil ≤ (s.tm.edge t : Int) - s.tm.steps) ∧
  (∃ s : State, ∃ t : Instant, s.trust.fieldScope = false ∧ s.trust.hbdScope = true ∧ (s.tm.edge t : Int) - s.tm.steps < s.trust.hbdUntil) ∧
  (∃ s : State, s.trust.fieldScope = false ∧ s.trust.hbdScope = false) ∧
  (∃ s : State, ∃ t : Instant, s.trust.fieldScope = true ∧ s.trust.hbdScope = true ∧ s.trust.hbdUntil < s.trust.fieldUntil ∧ s.trust.hbdUntil ≤ (s.tm.edge t : Int) - s.tm.steps) ∧
  (∃ s : State, ∃ t : Instant, s.trust.fieldScope = true ∧ s.trust.hbdScope = false ∧ s.md.mode ∈ [Mode.reset, .boot, .configure] ∧ s.trust.fieldUntil ≤ (s.tm.edge t : Int) - s.tm.steps) ∧
  (∃ s : State, s.trust.hbdScope = false) ∧
  (∃ s : State, s.trust.fieldScope = false) ∧
  (∃ s : State, s.trust.hbdScope = true) ∧
  (∃ s : State, s.trust.fieldScope = true) :=
  ⟨⟨hcmd 3 0 [], { st .run 0 with trust.challenge := some 5 }, by decide +kernel⟩,
   ⟨{ st .run 0 with trust.challenge := some 5, trust.challengeUntil := 256004000560 }, ⟨6250, 7⟩, by decide +kernel⟩,
   ⟨{ st .run 0 with trust.challenge := some 5, trust.challengeUntil := 256004000561 }, ⟨6250, 7⟩, by decide +kernel⟩,
   ⟨hcmd 3 0 [(0, 8, 64)], { st .configure 0 with trust.challenge := some 5, trust.challengeUntil := 256000000001 }, List.replicate 96 7, 5, by decide +kernel⟩,
   ⟨hcmd 3 0 [(0, 8, 64)], { st .run 0 with trust.challenge := some 5, trust.challengeUntil := 256000000000 }, List.replicate 24 0 ++ [1], by decide +kernel⟩,
   ⟨hcmd 3 0 [(0, 8, 64)], st .run 0, List.replicate 24 0 ++ [2], by decide +kernel⟩,
   ⟨hcmd 3 0 [(0, 8, 64)], st .run 0, by decide +kernel⟩,
   ⟨hcmd 3 0 [], { st .run 0 with trust.hbdScope := true }, by decide +kernel⟩,
   ⟨hcmd 3 0 [], { st .configure 0 with trust.fieldScope := true, trust.hbdScope := true, prog.conds := 5 }, by decide +kernel⟩,
   ⟨{ st .configure 0 with trust.hbdScope := true, trust.hbdUntil := 256004000560 }, ⟨6250, 7⟩, by decide +kernel⟩,
   ⟨{ st .configure 0 with trust.hbdScope := true, trust.hbdUntil := 256004000561 }, ⟨6250, 7⟩, by decide +kernel⟩,
   ⟨st .configure 0, by decide +kernel⟩,
   ⟨{ st .configure 0 with trust.hbdScope := true, trust.hbdUntil := 256004000560, trust.fieldScope := true, trust.fieldUntil := 256004000561 }, ⟨6250, 7⟩, by decide +kernel⟩,
   ⟨{ st .configure 0 with trust.fieldScope := true, trust.fieldUntil := 256004000560, prog.conds := 5, mot.axes := [(3, {})] }, ⟨6250, 7⟩, by decide +kernel⟩,
   ⟨{ st .configure 0 with trust.fieldScope := true }, by decide +kernel⟩,
   ⟨{ st .configure 0 with trust.hbdScope := true }, by decide +kernel⟩,
   ⟨{ st .configure 0 with trust.hbdScope := true }, by decide +kernel⟩,
   ⟨{ st .configure 0 with trust.fieldScope := true }, by decide +kernel⟩⟩

theorem meets_RingsAndMirrorAreWritten :
  (∃ s : State, (s.hbd.sess ≠ 1 ∨ s.hbd.pollEn = false)) ∧
  (∃ s : State, (s.hbd.sess ≠ 1 ∨ s.hbd.pollEn = false)) ∧
  (∃ s : State, ∃ k : Compl, ∃ rest : List Compl, ∃ x : Outstanding,
    let c := (Tab.get s.hbd.rings k.org.sq).size / 2 ^ 8 % 32
    Writing s ∧ s.hbd.compls = k :: rest ∧ (k.atHbd = true ∨ Flows s) ∧ s.hbd.outstanding = [x] ∧ x.org = k.org ∧ k.dup = false ∧ k.interim = false ∧ RingTakes s c 1) ∧
  (∃ s : State, ∃ r : Fin 32, ∃ e : SEntry, Writing s ∧ Flows s ∧ RingTakes s r.val 2 ∧ Tab.get s.hbd.streams r.val = [e]) ∧
  (∃ s : State, ∃ r : Fin 32, ∃ e : SEntry, Writing s ∧ Flows s ∧ RingTakes s r.val 2 ∧ Tab.get s.hbd.streams r.val = [e] ∧ s.hbd.hdumps = [] ∧ s.log.dumpRing = r.val) ∧
  (∃ s : State, ∃ body : Nat, ∃ seq : Nat, Writing s ∧ s.pair.linkA = false ∧ s.pair.linkB = false ∧ s.hbd.hdumps = [(body, seq)] ∧ RingTakes s (s.hbd.hdumpCfg % 32) 2) ∧
  (∃ s : State, s.hbd.mirrorCfg.testBit 16 = false) ∧
  (∃ s : State, s.hbd.mirrorCfg.testBit 16 = false) ∧
  (∃ s : State, ∃ r : HRec, Writing s ∧ Flows s ∧ s.hbd.mirrorCfg.testBit 16 = true ∧ s.hbd.mirrorCfg % 32 ≠ 0 ∧ s.hbd.hRing = [] ∧ s.hbd.restart = false ∧ s.hbd.fieldRecs = [r]) ∧
  (∃ s : State, Writing s ∧ s.hbd.mirrorCfg.testBit 16 = true ∧ s.hbd.mirrorCfg % 32 ≠ 0 ∧ s.hbd.restart = true) ∧
  (∃ s : State, ∃ r : Fin 32, ∃ us : Nat,
    let g := Tab.get s.hbd.rings (32 + r.val)
    g.threshold ≠ 0 ∧ g.delayUs ≠ 0 ∧ g.delayUs ≤ us ∧ Tab.get s.hbd.unsignalled r.val ≠ 0) ∧
  (∃ s : State, ∃ r : Fin 32, ∃ us : Nat,
    let g := Tab.get s.hbd.rings (32 + r.val)
    (g.threshold = 0 ∨ g.delayUs = 0 ∨ us < g.delayUs ∨ Tab.get s.hbd.unsignalled r.val = 0)) :=
  ⟨⟨{ st .run 4095 with hbd.pollEn := false, hbd.compls := [{}] }, by decide +kernel⟩,
   ⟨{ st .run 4095 with hbd.sess := 2, hbd.streams := [(31, [{}])] }, by decide +kernel⟩,
   ⟨{ st .run 4095 with hbd.rings := [(31, { size := 30 * 256 + 65536 + 4 }), (62, { size := 65536 + 3, base := 4096 })], hbd.cqTail := [(30, 4294967295)], hbd.cqHead := [(30, 4294967288)], hbd.outstanding := [{ org := { tag := 4294967295, session := 7, sq := 31, opcode := 0x0A02 }, sent := true, period := 4 }], hbd.compls := [{ org := { tag := 4294967295, session := 7, sq := 31, opcode := 0x0A02 }, result := 2 ^ 128 + 5 }, {}], hbd.period := 5 }, { org := { tag := 4294967295, session := 7, sq := 31, opcode := 0x0A02 }, result := 2 ^ 128 + 5 }, [{}], { org := { tag := 4294967295, session := 7, sq := 31, opcode := 0x0A02 }, sent := true, period := 4 }, by decide +kernel⟩,
   ⟨{ st .run 4095 with hbd.rings := [(63, { size := 131072 + 3, base := 4096 })], hbd.cqTail := [(31, 7)], hbd.streams := [(31, [{ bytes := 2 ^ 255 + 9 }])], log.dumpRing := 31 }, 31, { bytes := 2 ^ 255 + 9 }, by decide +kernel⟩,
   ⟨{ st .run 4095 with hbd.rings := [(63, { size := 131072 + 3, base := 4096 })], hbd.cqTail := [(31, 7)], hbd.streams := [(31, [{ bytes := 2 ^ 255 + 9 }])], log.dumpRing := 31 }, 31, { bytes := 2 ^ 255 + 9 }, by decide +kernel⟩,
   ⟨{ st .run 4095 with pair.linkA := false, pair.linkB := false, hbd.hdumpCfg := 63, hbd.hdumps := [(2 ^ 224 + 7, 4294967295)], hbd.rings := [(63, { size := 131072 + 3, base := 4096 })] }, 2 ^ 224 + 7, 4294967295, by decide +kernel⟩,
   ⟨{ st .run 4095 with hbd.fieldRecs := [{}] }, by decide +kernel⟩,
   ⟨{ st .run 4095 with hbd.restart := true }, by decide +kernel⟩,
   ⟨{ st .run 4095 with hbd.mirrorCfg := 65536 + 16, hbd.mirFBase := 8192, hbd.fieldRecs := [{ seq := 4294967295, sec := 5, ns := 7, code := 0xC001, src := 65535, p0 := 1, p1 := 2 }] }, { seq := 4294967295, sec := 5, ns := 7, code := 0xC001, src := 65535, p0 := 1, p1 := 2 }, by decide +kernel⟩,
   ⟨{ st .run 4095 with hbd.mirrorCfg := 65536 + 16, hbd.mirFBase := 8192, hbd.restart := true, hbd.epoch := 255, hbd.lastOld := 5 }, by decide +kernel⟩,
   ⟨{ st .run 4095 with hbd.unsignalled := [(31, 3)], hbd.rings := [(63, { threshold := 9, delayUs := 65535 })] }, 31, 65535, by decide +kernel⟩,
   ⟨{ st .run 4095 with hbd.unsignalled := [(31, 3)], hbd.rings := [(63, { threshold := 9 })] }, 31, 65535, by decide +kernel⟩⟩

theorem meets_HostDmaMovesData :
  (∃ c : Cmd, ∃ s : State,
    let chained := (Arg.u c 17 1).testBit 0
    NamesHbd c s 2 ∧ c.unit < 15 ∧ s.md.mode ∉ [Mode.reset, .boot] ∧ Arg.u c 17 1 < 2 ∧ Rest c 18 ∧ (s.pair.linkA = true ∨ s.pair.linkB = true) ∧ s.hbd.compls.length < 61440 ∧ Arg.u c 0 8 % 16 = 0 ∧ Arg.u c 16 1 ≤ 31 ∧ (if chained then Arg.u c 12 4 = 0 else 1 ≤ Arg.u c 12 4 ∧ Arg.u c 12 4 ≤ 2 ^ 24 ∧ Arg.u c 8 4 + Arg.u c 12 4 ≤ 2 ^ 25) ∧ (Tab.get s.hbd.hdma c.unit).work = none ∧ Dma.fchBusy s (Arg.u c 16 1) = false ∧ (chained = true ∨ Areas.hitsEnabled s (Arg.u c 8 4) (Arg.u c 12 4) = false)) ∧
  (∃ c : Cmd, ∃ s : State,
    let chained := (Arg.u c 17 1).testBit 0
    NamesHbd c s 2 ∧ c.unit < 15 ∧ s.md.mode ∉ [Mode.reset, .boot] ∧ Arg.u c 17 1 < 2 ∧ Rest c 18 ∧ (s.pair.linkA = true ∨ s.pair.linkB = true) ∧ s.hbd.compls.length < 61440 ∧ Arg.u c 0 8 % 16 = 0 ∧ Arg.u c 16 1 ≤ 31 ∧ (if chained then Arg.u c 12 4 = 0 else 1 ≤ Arg.u c 12 4 ∧ Arg.u c 12 4 ≤ 2 ^ 24 ∧ Arg.u c 8 4 + Arg.u c 12 4 ≤ 2 ^ 25) ∧ (Tab.get s.hbd.hdma c.unit).work = none ∧ Dma.fchBusy s (Arg.u c 16 1) = false) ∧
  (∃ s : State, ∃ h : Fin 16, ∃ desc : BitVec 128, ∃ w : Chain,
    let d := Tab.get s.hbd.hdma h.val
    let len := desc.toNat / 2 ^ 64 % 2 ^ 32
    let fl := desc.toNat / 2 ^ 96
    d.work = some w ∧ d.st = 1 ∧ w.len = 0 ∧ w.inFlight = 0 ∧ w.ending = none ∧ w.load = none ∧ w.deckChain = false ∧ Adc.mayWrite s w.fch = true ∧ d.descs + 1 < d.limit ∧ d.descs + 1 < 2 ^ 32 ∧ fl = 0 ∧ 1 ≤ len ∧ len ≤ 2 ^ 24 ∧ len < w.left) ∧
  (∃ s : State, ∃ h : Fin 16, ∃ desc : BitVec 128, ∃ w : Chain,
    let d := Tab.get s.hbd.hdma h.val
    let len := desc.toNat / 2 ^ 64 % 2 ^ 32
    let fl := desc.toNat / 2 ^ 96
    d.work = some w ∧ d.st = 1 ∧ w.len = 0 ∧ w.inFlight = 0 ∧ w.ending = none ∧ w.load = none ∧ w.deckChain = false ∧ Adc.mayWrite s w.fch = true ∧ d.descs + 1 < d.limit ∧ d.descs + 1 < 2 ^ 32 ∧ fl = 1 ∧ 1 ≤ len ∧ len ≤ 2 ^ 24 ∧ len = w.left) ∧
  (∃ s : State, ∃ h : Fin 16, ∃ desc : BitVec 128, ∃ w : Chain,
    let d := Tab.get s.hbd.hdma h.val
    let addr := desc.toNat % 2 ^ 64
    let len := desc.toNat / 2 ^ 64 % 2 ^ 32
    let fl := desc.toNat / 2 ^ 96
    d.work = some w ∧ d.st = 1 ∧ w.len = 0 ∧ w.inFlight = 0 ∧ w.ending = none ∧ w.load = none ∧ w.deckChain = false ∧ Adc.mayWrite s w.fch = true ∧ d.descs + 1 < d.limit ∧ d.descs + 1 < 2 ^ 32 ∧ fl = 2 ∧ len = 0 ∧ addr % 16 = 0) ∧
  (∃ s : State, ∃ h : Fin 16, (Tab.get s.hbd.hdma h.val).work = none) ∧
  (∃ s : State, ∃ h : Fin 16, (Tab.get s.hbd.hdma h.val).work = none) ∧
  (∃ s : State, ∃ h : Fin 16, (Tab.get s.hbd.hdma h.val).work = none) ∧
  (∃ s : State, ∃ h : Fin 16, ∃ data : Bytes, ∃ w : Chain,
    let d := Tab.get s.hbd.hdma h.val
    d.work = some w ∧ d.st = 1 ∧ w.load = none ∧ w.deckChain = false ∧ Adc.mayWrite s w.fch = true ∧ w.inFlight = 0 ∧ 1 ≤ w.len ∧ w.len ≤ 4095 ∧ w.ending = some .done ∧ w.toDeck = true ∧ data.length = w.len ∧ s.hbd.down = [] ∧ w.deck < 2 ^ 25) ∧
  (∃ s : State, ∃ h : Fin 16, ∃ w : Chain,
    let d := Tab.get s.hbd.hdma h.val
    d.work = some w ∧ d.st = 1 ∧ w.load = none ∧ w.deckChain = false ∧ Adc.mayWrite s w.fch = true ∧ w.inFlight = 0 ∧ 1 ≤ w.len ∧ w.len ≤ 4095 ∧ w.ending = some .done ∧ w.toDeck = false ∧ w.word.2 = [] ∧ (s.pair.linkA = true ∨ s.pair.linkB = true) ∧ s.pair.active ≠ 0 ∧ w.org.sq < 32) ∧
  (∃ s : State, ∃ h : Fin 16, ∃ off : BitVec 25, ∃ data : Bytes, s.pair.active ≠ 0 ∧ off.toNat + data.length ≤ 2 ^ 25 ∧ (Tab.get s.hbd.hdma h.val).work = none) ∧
  (∃ s : State, ∃ h : Fin 16, ∃ off : BitVec 25, ∃ data : Bytes, ∃ w, s.pair.active ≠ 0 ∧ off.toNat + data.length ≤ 2 ^ 25 ∧ (Tab.get s.hbd.hdma h.val).work = some w ∧ (Tab.get s.hbd.hdma h.val).st = 1 ∧ w.load = none ∧ w.len = 0 ∧ w.inFlight = data.length ∧ 1 ≤ data.length ∧ w.ending = some .done ∧ w.org.sq < 32) ∧
  (∃ s : State, s.pair.active ≠ 0 ∧ s.staged = []) ∧
  (∃ s : State, s.boot.cda.st = 2 ∧ s.boot.cda.img = [] ∧ (s.pair.linkA = true ∨ s.pair.linkB = true)) :=
  ⟨⟨hcmd 2 14 [(0, 8, 18446744073709551600), (8, 4, 0), (12, 4, 16777216), (16, 1, 31)], st .run 4095, by decide +kernel⟩,
   ⟨hcmd 2 14 [(0, 8, 18446744073709551600), (8, 4, 33554431), (12, 4, 1), (16, 1, 31)], st .run 4095, by decide +kernel⟩,
   ⟨{ st .run 4095 with hbd.hdma := [(15, { st := 1, descs := 4094, chain := 18446744073709551600, work := some { fch := 31, left := 4095, deck := 33554431 } })] }, 15, 18446744073709551615#128 + BitVec.ofNat 128 (4094 * 2 ^ 64), { fch := 31, left := 4095, deck := 33554431 }, by decide +kernel⟩,
   ⟨{ st .run 4095 with hbd.hdma := [(15, { st := 1, descs := 4094, chain := 18446744073709551600, work := some { fch := 31, left := 4095, deck := 33554431 } })] }, 15, 18446744073709551615#128 + BitVec.ofNat 128 (4095 * 2 ^ 64 + 2 ^ 96), { fch := 31, left := 4095, deck := 33554431 }, by decide +kernel⟩,
   ⟨{ st .run 4095 with hbd.hdma := [(15, { st := 1, descs := 4094, chain := 18446744073709551600, work := some { fch := 31, left := 4095, deck := 33554431 } })] }, 15, BitVec.ofNat 128 (18446744073709551600 + 2 ^ 97), { fch := 31, left := 4095, deck := 33554431 }, by decide +kernel⟩,
   ⟨st .run 4095, 15, by decide +kernel⟩,
   ⟨st .run 4095, 15, by decide +kernel⟩,
   ⟨st .run 4095, 15, by decide +kernel⟩,
   ⟨{ st .run 4095 with deck := [(4097, 3)], hbd.downNum := 4294967295, hbd.hdma := [(15, { st := 1, work := some { fch := 31, left := 0, deck := 33550336, len := 4095, addr := 77, last := true, ending := some .done } })] }, 15, List.replicate 4095 7, { fch := 31, left := 0, deck := 33550336, len := 4095, addr := 77, last := true, ending := some .done }, by decide +kernel⟩,
   ⟨{ st .run 4095 with deck := [(4097, 3)], hbd.hdma := [(15, { st := 1, bytes := 4294967295, descs := 3, work := some { toDeck := false, fch := 31, left := 0, deck := 4096, len := 4095, addr := 77, last := true, lastAddr := 64, ending := some .done, org := { tag := 9, sq := 31 } } })] }, 15, { toDeck := false, fch := 31, left := 0, deck := 4096, len := 4095, addr := 77, last := true, lastAddr := 64, ending := some .done, org := { tag := 9, sq := 31 } }, by decide +kernel⟩,
   ⟨{ st .run 4095 with deck := [(33550400, 3)] }, 15, 33550337, List.replicate 4095 7, by decide +kernel⟩,
   ⟨{ st .run 4095 with hbd.hdma := [(15, { st := 1, bytes := 4294967295, descs := 3, work := some { fch := 31, inFlight := 4095, ending := some .done, last := true, org := { tag := 9, sq := 31 } } })] }, 15, 33550337, List.replicate 4095 7, { fch := 31, inFlight := 4095, ending := some .done, last := true, org := { tag := 9, sq := 31 } }, by decide +kernel⟩,
   ⟨st .run 4095, by decide +kernel⟩,
   ⟨{ boot with boot.cda.st := 2, pair.linkB := true }, by decide +kernel⟩⟩

theorem meets_TransfersArePausedAndAborted :
  (∃ s : State, ∃ h : Fin 16, ∃ w : Chain,
    let d := Tab.get s.hbd.hdma h.val
    d.work = some w ∧ d.st = 1 ∧ (w.toDeck = false ∨ w.len = 0 ∧ w.inFlight = 0)) ∧
  (∃ s : State, ∃ h : Fin 16, ∃ w : Chain,
    let d := Tab.get s.hbd.hdma h.val
    d.work = some w ∧ d.st = 3 ∧ s.hbd.sess = 1 ∧ w.ending = none) ∧
  (∃ s : State, ∃ h : Fin 16, ∃ w : Chain,
    let d := Tab.get s.hbd.hdma h.val
    d.work = some w ∧ d.st = 4 ∧ s.hbd.sess = 1 ∧ d.pause = false ∧ w.ending = none) ∧
  (∃ s : State, ∃ h : Fin 16, ∃ w : Chain,
    let d := Tab.get s.hbd.hdma h.val
    d.work = some w ∧ d.st ≠ 4) ∧
  (∃ s : State, ∃ h : Fin 16, ∃ w : Chain,
    let d := Tab.get s.hbd.hdma h.val
    d.work = some w ∧ d.st = 1 ∧ w.load = none ∧ w.inFlight = 0 ∧ w.org.sq < 32 ∧ (w.len = 0 ∧ w.ending = none ∨ w.len ≠ 0 ∧ w.toDeck = true) ∧ (∀ k < 16, k ≠ h.val → (Tab.get s.hbd.hdma k).work = none) ∧ s.hbd.loadQueue = []) ∧
  (∃ s : State, s.md.mode ∉ [Mode.reset, .boot] ∧ s.boot.ended = true ∧ (s.pair.linkA = true ∨ s.pair.linkB = true)) ∧
  (∃ s : State, s.md.mode ∉ [Mode.reset, .boot] ∧ s.boot.ended = true ∧ (s.pair.linkA = true ∨ s.pair.linkB = true)) ∧
  (∃ c : Cmd, ∃ s : State,
    let target (o : Origin) : Prop := o.tag = Arg.u c 0 4 ∧
      o.session = (if Arg.u c 4 2 = 0 then c.session.toNat else Arg.u c 4 2) ∧ o.sq < 32
    ∃ h : Fin 16, ∃ d : Hdma, ∃ w : Chain,
    NamesHbd c s 1 ∧ c.unit = 0 ∧ s.md.mode ∉ [Mode.reset, .boot] ∧ Rest c 6 ∧ s.hbd.hdma = [(h.val, d)] ∧ d.work = some w ∧ target w.org ∧ w.load = none ∧ w.last = false ∧ w.ending = none ∧ w.inFlight = 0) ∧
  (∃ c : Cmd, ∃ s : State, NamesHbd c s 1 ∧ c.unit = 0 ∧ s.md.mode ∉ [Mode.reset, .boot] ∧ Rest c 6 ∧ s.hbd.hdma = [] ∧ s.hbd.loadQueue = [] ∧ s.acq.cap = [] ∧ s.hbd.down = [] ∧ s.mot.axes = [] ∧ s.loop.slots = [] ∧ s.prog.seqs = [] ∧ s.net.sends = [] ∧ s.prog.tasks = [] ∧ s.saf.commit = none) ∧
  (∃ c : Cmd, ∃ s : State,
    let target (o : Origin) : Prop := o.tag = Arg.u c 0 4 ∧
      o.session = (if Arg.u c 4 2 = 0 then c.session.toNat else Arg.u c 4 2) ∧ o.sq < 32
    ∃ o, ∃ r,
    NamesHbd c s 1 ∧ c.unit = 0 ∧ s.md.mode ∉ [Mode.reset, .boot] ∧ Rest c 6 ∧ s.hbd.hdma = [] ∧ s.hbd.loadQueue = [] ∧ s.acq.cap = [] ∧ s.hbd.down = [] ∧ s.mot.axes = [] ∧ s.loop.slots = [] ∧ s.prog.seqs = [] ∧ s.net.sends = [] ∧ s.prog.tasks = [] ∧ s.saf.commit = some (o, r) ∧ target o) :=
  ⟨⟨{ st .run 4095 with hbd.hdma := [(15, { st := 1, work := some { fch := 31 } })] }, 15, { fch := 31 }, by decide +kernel⟩,
   ⟨{ st .run 4095 with hbd.hdma := [(15, { st := 3, pause := true, work := some { fch := 31 } })] }, 15, { fch := 31 }, by decide +kernel⟩,
   ⟨{ st .run 4095 with hbd.hdma := [(15, { st := 4, work := some { fch := 31 } })] }, 15, { fch := 31 }, by decide +kernel⟩,
   ⟨{ st .run 4095 with hbd.hdma := [(15, { st := 3, work := some { fch := 31 } })] }, 15, { fch := 31 }, by decide +kernel⟩,
   ⟨{ st .run 4095 with hbd.hdma := [(15, { st := 1, bytes := 5, descs := 3, work := some { fch := 31, left := 10, org := { sq := 31 } } })] }, 15, { fch := 31, left := 10, org := { sq := 31 } }, by decide +kernel⟩,
   ⟨st .run 4095, by decide +kernel⟩,
   ⟨{ st .run 4095 with acq.fdmaStopped := 0xFFFFFFFF }, by decide +kernel⟩,
   ⟨hcmd 1 0 [(0, 4, 9), (4, 2, 7)], { st .run 4095 with hbd.hdma := [(15, { st := 1, bytes := 5, descs := 3, work := some { fch := 31, left := 10, org := { tag := 9, session := 7, sq := 31 } } })] }, 15, { st := 1, bytes := 5, descs := 3, work := some { fch := 31, left := 10, org := { tag := 9, session := 7, sq := 31 } } }, { fch := 31, left := 10, org := { tag := 9, session := 7, sq := 31 } }, by decide +kernel⟩,
   ⟨hcmd 1 0 [(0, 4, 9), (4, 2, 0)], st .run 4095, by decide +kernel⟩,
   ⟨hcmd 1 0 [(0, 4, 9), (4, 2, 0)], { st .run 4095 with saf.commit := some ({ tag := 9, session := 7, sq := 31 }, [(0, 5)], 3, 4) }, { tag := 9, session := 7, sq := 31 }, ([(0, 5)], 3, 4), by decide +kernel⟩⟩

theorem meets_DoorbellsAndSessions :
  (∃ v : BitVec 32, 1 ≤ v.toNat % 128 ∧ v.toNat % 128 ≤ 64) ∧
  (∃ v : BitVec 32, (v.toNat % 128 = 0 ∨ 64 < v.toNat % 128)) ∧
  (∃ s : State, ∃ us : Nat, (s.hbd.pollEn = false ∨ s.hbd.sess = 2 ∨ s.hbd.polled = true ∧ us < s.hbd.pollUs)) ∧
  (∃ s : State, ∃ p : DoorbellPage, ∃ us : Nat, s.hbd.pollEn = true ∧ s.hbd.sess = 0 ∧ (s.hbd.polled = false ∨ s.hbd.pollUs ≤ us) ∧ p.session.toNat = 0) ∧
  (∃ s : State, ∃ p : DoorbellPage, ∃ us : Nat, s.hbd.pollEn = true ∧ s.hbd.sess = 0 ∧ (s.hbd.polled = false ∨ s.hbd.pollUs ≤ us) ∧ 1 ≤ p.session.toNat ∧ p.session.toNat ≤ 65535 ∧ s.hbd.openOk = true ∧ s.hbd.hdma = [] ∧ s.hbd.loadQueue = []) ∧
  (∃ s : State, ∃ p : DoorbellPage, ∃ us : Nat, s.hbd.pollEn = true ∧ s.hbd.sess = 1 ∧ s.hbd.hdma = [] ∧ p.session.toNat = 0 ∧ (s.hbd.polled = false ∨ s.hbd.pollUs ≤ us)) ∧
  (∃ s : State, ∃ p : DoorbellPage, ∃ us : Nat, ∃ q : Fin 32, ∃ e : Entry, s.hbd.pollEn = true ∧ s.hbd.sess = 1 ∧ (s.hbd.polled = false ∨ s.hbd.pollUs ≤ us) ∧ p.session.toNat = s.hbd.sessNum ∧ 1 ≤ s.hbd.sessNum ∧ s.hbd.sessNum ≤ 65535 ∧ s.hbd.compls = [] ∧ s.hbd.outstanding = [] ∧ (Tab.get s.hbd.rings q.val).size % 32 ≠ 0 ∧ (∀ k < 32, k ≠ q.val → (Tab.get s.hbd.rings k).size % 32 = 0) ∧ s.hbd.ringErr.testBit q.val = false ∧ Tab.get s.hbd.sqHead q.val < 2 ^ 32 - 1 ∧ (p.sqTail.getD q.val 0).toNat = Tab.get s.hbd.sqHead q.val + 1 ∧ p.entries = [(q.val, [e])] ∧ e.opcode = 0x0A02#16 ∧ Names e.cmd s 7 ∧ e.cmd.unit = 0 ∧ Rest e.cmd 0 ∧ s.md.mode ∉ [Mode.reset, .boot] ∧ (s.pair.linkA = true ∨ s.pair.linkB = true)) ∧
  (∃ s : State, s.hbd.pollEn = false) ∧
  (∃ s : State, s.hbd.pollEn = true ∧ s.hbd.sess = 1 ∧ s.hbd.hdma = []) ∧
  (∃ s : State, ∃ q : Fin 32,
    let l := (Tab.get s.hbd.rings q.val).size % 32
    Writing s ∧ l ≠ 0 ∧ s.hbd.ringErr.testBit q.val = false) ∧
  (∃ s : State, ∃ q : Fin 32,
    let l := (Tab.get s.hbd.rings q.val).size % 32
    (l = 0 ∨ s.hbd.ringErr.testBit q.val = true)) ∧
  (∃ s : State, s.hbd.ringErr < 2 ^ 32) ∧
  (∃ s : State, ∃ v : BitVec 32, v.toNat.testBit 2 = true ∧ s.hbd.sess = 1 ∧ s.hbd.hdma = []) ∧
  (∃ v : BitVec 32, v.toNat.testBit 2 = false ∧ v.toNat.testBit 3 = true) ∧
  (∃ v : BitVec 32, v.toNat.testBit 2 = false ∧ v.toNat.testBit 3 = false) ∧
  (∃ s : State, s.hbd.sess = 2 ∧ s.hbd.reads = false) ∧
  (∃ s : State, (s.hbd.sess ≠ 2 ∨ s.hbd.reads = true)) :=
  ⟨⟨64 + 256, by decide +kernel⟩,
   ⟨65, by decide +kernel⟩,
   ⟨{ st .run 4095 with hbd.sess := 2 }, 0, by decide +kernel⟩,
   ⟨{ st .run 4095 with hbd.polled := true, hbd.pollUs := 64, hbd.sess := 0, hbd.polls := 4294967295, hbd.dbBase := 4096 }, ⟨0, [], [], []⟩, 64, by decide +kernel⟩,
   ⟨{ st .run 4095 with hbd.sess := 0, hbd.sqHead := [(1, 1)], hbd.changes := 65535, hbd.rings := [(0, { size := 4, base := 8192 }), (32, { size := 65536 + 4, base := 16384 })] }, ⟨65535, [], [], []⟩, 0, by decide +kernel⟩,
   ⟨st .run 4095, ⟨0, [], [], []⟩, 0, by decide +kernel⟩,
   ⟨{ st .run 4095 with hbd.rings := [(31, { size := 65536 + 4 + 31 * 256, base := 4096 }), (63, { size := 65536 + 4 })], hbd.sqHead := [(31, 4294967294)] }, ⟨7, List.replicate 31 0 ++ [4294967295], [], [(31, [⟨0x0A02, { cmd 7 0 [] with session := 0 }⟩])]⟩, 0, 31, ⟨0x0A02, { cmd 7 0 [] with session := 0 }⟩, by decide +kernel⟩,
   ⟨{ st .run 4095 with hbd.pollEn := false }, by decide +kernel⟩,
   ⟨st .run 4095, by decide +kernel⟩,
   ⟨{ st .run 4095 with hbd.rings := [(31, { size := 65536 + 4, base := 4096 })], hbd.sqHead := [(31, 4294967294)] }, 31, by decide +kernel⟩,
   ⟨{ st .run 4095 with hbd.rings := [(31, { size := 65536 + 4, base := 4096 })], hbd.ringErr := 2147483648 }, 31, by decide +kernel⟩,
   ⟨{ st .run 4095 with hbd.ringErr := 0xC0000003 }, by decide +kernel⟩,
   ⟨st .run 4095, 4, by decide +kernel⟩,
   ⟨8, by decide +kernel⟩,
   ⟨0xFFFFFFF3, by decide +kernel⟩,
   ⟨{ st .run 4095 with hbd.sess := 2, hbd.sessNum := 9, hbd.dbBase := 4096 }, by decide +kernel⟩,
   ⟨{ st .run 4095 with hbd.sess := 1 }, by decide +kernel⟩⟩

theorem meets_SetupAccesses :
  (∃ s : State, s.hbd.waiting = []) ∧
  (∃ s : State, s.hbd.waiting = []) ∧
  (∃ s : State, ∃ v, s.hbd.waiting = [] ∧ s.hbd.latch = some (0x44, v)) ∧
  (∃ s : State, s.hbd.waiting = []) ∧
  (∃ s : State, s.hbd.waiting ≠ []) ∧
  (∃ s : State, s.hbd.waiting ≠ []) ∧
  (∃ s : State, s.hbd.waiting ≠ []) ∧
  (∃ s : State, s.hbd.waiting = [] ∧ 256 ≤ s.hbd.pairPending.length ∧ (s.pair.linkA = true ∨ s.pair.linkB = true)) ∧
  (∃ s : State, ∃ o : BitVec 16, s.hbd.waiting = [] ∧ o.toNat ∈ [0x4040, 0x4280, 0x4304, 0x8000, 0xC004] ∧ s.boot.ended = true ∧ (s.pair.linkA = true ∨ s.pair.linkB = true)) ∧
  (∃ s : State, ∃ o : BitVec 16, s.hbd.waiting = [] ∧ o.toNat ∈ [0x4040, 0x4280, 0x4304, 0x8000, 0xC004] ∧ s.boot.ended = false) ∧
  (∃ s : State, s.hbd.waiting = [] ∧ s.boot.ended = true) ∧
  (∃ s : State, ∃ n : Nat, s.hbd.diag = [{ num := n, offset := 0x4280 }] ∧ s.pair.active = 1 ∧ s.boot.cda.st = 3 ∧ (s.pair.linkA = true ∨ s.pair.linkB = true)) ∧
  (∃ s : State, ∃ n : Nat, s.hbd.diag = [{ num := n, offset := 0x4280 }] ∧ s.boot.cda.st ≠ 3 ∧ s.pair.active = 1) ∧
  (∃ s : State, ∃ n : Nat, s.hbd.diag = [{ num := n, offset := 0x4280 }]) ∧
  (∃ s : State, ∃ n : Nat, ∃ us : Nat, s.hbd.diag = [{ num := n, offset := 0x4280 }] ∧ 40 ≤ us) ∧
  (∃ s : State, ∃ n : Nat, ∃ us : Nat, s.hbd.diag = [{ num := n, offset := 0x4280 }] ∧ us < 40) ∧
  (∃ s : State, ∃ n : Nat, ∃ o : Nat, ∃ v : Nat, s.hbd.diag = [{ num := n, offset := o, reply := some v }] ∧ (s.pair.linkA = true ∨ s.pair.linkB = true)) ∧
  (∃ s : State, s.hbd.waiting = [] ∧ s.hbd.pairPending.length < 256 ∧ s.hbd.sess = 0) ∧
  (∃ s : State, s.hbd.waiting = [] ∧ s.hbd.pairPending.length < 256 ∧ s.hbd.sess ≠ 0) ∧
  (∃ s : State, s.hbd.waiting = [] ∧ s.hbd.pairPending.length < 256) ∧
  (∃ s : State, s.hbd.waiting = [] ∧ s.hbd.pairPending.length < 256) ∧
  (∃ s : State, s.hbd.waiting = [] ∧ s.hbd.pairPending.length < 256) ∧
  (∃ s : State, s.hbd.waiting = [] ∧ s.hbd.pairPending.length < 256 ∧ s.boot.ended = true ∧ (s.pair.linkA = true ∨ s.pair.linkB = true) ∧ s.hbd.modeReg % 8 = Mode.run.code) ∧
  (∃ s : State, s.md.mode ∉ [Mode.reset, .boot]) ∧
  (∃ s : State, s.md.mode ≠ .configure) ∧
  (∃ c : Cmd, ∃ s : State, Names c s 7 ∧ c.unit = 0 ∧ s.md.mode ∉ [Mode.reset, .boot] ∧ Rest c 0) ∧
  (∃ c : Cmd, ∃ s : State, Names c s 7 ∧ c.unit = 0 ∧ s.md.mode ∉ [Mode.reset, .boot] ∧ Rest c 0 ∧ s.staged = []) ∧
  (∃ c : Cmd, ∃ s : State, Names c s 7 ∧ c.unit = 0 ∧ s.md.mode ∉ [Mode.reset, .boot] ∧ Rest c 0) ∧
  (∃ s : State, ∃ o : BitVec 16, s.hbd.waiting = [] ∧ s.hbd.pairPending.length < 256 ∧ (o.toNat < 0x4000 ∨ s.boot.ended = true ∧ (s.pair.linkA = true ∨ s.pair.linkB = true))) ∧
  (∃ s : State, ∃ o : BitVec 16, s.hbd.waiting = [] ∧ s.hbd.pairPending.length < 256 ∧ 0x4000 ≤ o.toNat ∧ (s.boot.ended = false ∨ s.pair.linkA = false ∧ s.pair.linkB = false)) ∧
  (∃ v : BitVec 32, v.toNat.testBit 2 = true) ∧
  (∃ v : BitVec 32, v.toNat.testBit 2 = false) ∧
  (∃ v : BitVec 32, v.toNat.testBit 31 = true) ∧
  (∃ v : BitVec 32, v.toNat.testBit 31 = false) :=
  ⟨⟨{ st .run 4095 with hbd.dbBase := 0xFFFFFFFFFFFFF000 }, by decide +kernel⟩,
   ⟨{ st .run 4095 with hbd.dbBase := 0xFFFFFFFFFFFFF000 }, by decide +kernel⟩,
   ⟨{ st .run 4095 with hbd.latch := some (0x44, 9) }, 9, by decide +kernel⟩,
   ⟨st .run 4095, by decide +kernel⟩,
   ⟨{ st .run 4095 with hbd.waiting := [.bad 5 true 7] }, by decide +kernel⟩,
   ⟨{ st .run 4095 with hbd.waiting := [.bad 5 true 7] }, by decide +kernel⟩,
   ⟨{ st .run 4095 with hbd.waiting := [.bad 5 true 7] }, by decide +kernel⟩,
   ⟨{ st .run 4095 with hbd.pairPending := List.replicate 256 2 }, by decide +kernel⟩,
   ⟨st .run 4095, 0xC004, by decide +kernel⟩,
   ⟨boot, 0x8000, by decide +kernel⟩,
   ⟨st .run 4095, by decide +kernel⟩,
   ⟨{ st .run 4095 with hbd.diag := [{ num := 5, offset := 0x4280 }] }, 5, by decide +kernel⟩,
   ⟨{ st .run 4095 with boot.cda := {}, hbd.diag := [{ num := 5, offset := 0x4280 }] }, 5, by decide +kernel⟩,
   ⟨{ st .run 4095 with hbd.diag := [{ num := 5, offset := 0x4280 }] }, 5, by decide +kernel⟩,
   ⟨{ st .run 4095 with hbd.diag := [{ num := 5, offset := 0x4280 }] }, 5, 40, by decide +kernel⟩,
   ⟨{ st .run 4095 with hbd.diag := [{ num := 5, offset := 0x4280 }] }, 5, 39, by decide +kernel⟩,
   ⟨{ st .run 4095 with hbd.diag := [{ num := 5, offset := 4, reply := some 77 }] }, 5, 4, 77, by decide +kernel⟩,
   ⟨{ st .run 4095 with hbd.sess := 0 }, by decide +kernel⟩,
   ⟨st .run 4095, by decide +kernel⟩,
   ⟨st .run 4095, by decide +kernel⟩,
   ⟨st .run 4095, by decide +kernel⟩,
   ⟨st .run 4095, by decide +kernel⟩,
   ⟨{ st .run 4095 with hbd.modeReg := Mode.run.code, hbd.downNum := 4294967295, hbd.pairPending := List.replicate 255 2 }, by decide +kernel⟩,
   ⟨st .run 4095, by decide +kernel⟩,
   ⟨st .run 4095, by decide +kernel⟩,
   ⟨cmd 7 0 [], st .run 4095, by decide +kernel⟩,
   ⟨cmd 7 0 [], st .run 4095, by decide +kernel⟩,
   ⟨cmd 7 0 [], st .run 4095, by decide +kernel⟩,
   ⟨st .run 4095, 0xFFFF, by decide +kernel⟩,
   ⟨boot, 0x4000, by decide +kernel⟩,
   ⟨4, by decide +kernel⟩,
   ⟨0xFFFFFFFB, by decide +kernel⟩,
   ⟨0x80000000, by decide +kernel⟩,
   ⟨0x7FFFFFFF, by decide +kernel⟩⟩

theorem meets_LintisStackInstructions :
  (∃ e : Fin 16, ∃ t : Nat, ∃ c : Cycle, c.stack.length ≤ 254 ∧ ∀ op ∈ ([0x00, 0x04, 0x05, 0x06, 0x07, 0x08] : Bytes), InSequence (lint [op] c) e t c [op]) ∧
  (∃ s : State, ∃ e : Fin 16, ∃ t : Nat, ∃ c : Cycle, ∃ v : BitVec 8, c.stack.length ≤ 254 ∧ InSequence s e t c [0x10, v]) ∧
  (∃ s : State, ∃ e : Fin 16, ∃ t : Nat, ∃ c : Cycle, ∃ v : BitVec 16, c.stack.length ≤ 254 ∧ InSequence s e t c (0x11 :: Bits.toLe 2 v.toNat)) ∧
  (∃ s : State, ∃ e : Fin 16, ∃ t : Nat, ∃ c : Cycle, ∃ v : BitVec 32, c.stack.length ≤ 254 ∧ InSequence s e t c (0x12 :: Bits.toLe 4 v.toNat)) ∧
  (∃ e : Fin 16, ∃ t : Nat, ∃ c : Cycle, ∃ x : Nat, ∃ r : List Nat, r.length ≤ 250 ∧ c.stack = x :: r ∧ ∀ op ∈ ([0x13, 0x15] : Bytes), InSequence (lint [op] c) e t c [op]) ∧
  (∃ e : Fin 16, ∃ t : Nat, ∃ c : Cycle, ∃ x : Nat, ∃ y : Nat, ∃ r : List Nat, r.length ≤ 250 ∧ c.stack = y :: x :: r ∧ ∀ op ∈ ([0x14, 0x16, 0x17, 0x19] : Bytes), InSequence (lint [op] c) e t c [op]) ∧
  (∃ e : Fin 16, ∃ t : Nat, ∃ c : Cycle, ∃ w : Nat, ∃ x : Nat, ∃ y : Nat, ∃ z : Nat, ∃ r : List Nat, r.length ≤ 250 ∧ c.stack = z :: y :: x :: w :: r ∧ InSequence (lint [0x18] c) e t c [0x18]) ∧
  (∃ e : Fin 16, ∃ t : Nat, ∃ c : Cycle, ∃ x : Nat, ∃ y : Nat, ∃ z : Nat, ∃ r : List Nat, r.length ≤ 250 ∧ c.stack = z :: y :: x :: r ∧ InSequence (lint [0x90] c) e t c [0x90]) ∧
  (∃ s : State, ∃ e : Fin 16, ∃ t : Nat, ∃ c : Cycle, ∃ b : BitVec 8, c.stack.length ≤ 255 ∧ InSequence s e t c [0x1A, b]) ∧
  (∃ s : State, ∃ e : Fin 16, ∃ t : Nat, ∃ c : Cycle, ∃ u : BitVec 16, ∃ b : BitVec 8, InSequence s e t c (0x02 :: Bits.toLe 2 u.toNat ++ [b]) ∧ (u.toNat, b.toNat) ∉ c.signals) ∧
  (∃ s : State, ∃ e : Fin 16, ∃ t : Nat, ∃ c : Cycle, AtCode s e t c [0x01] ∧ c.ops + 1 ≤ (s.task t).cfg.budget) :=
  ⟨⟨15, 5, cyc (List.replicate 254 7), by decide +kernel⟩,
   ⟨lint [0x10, 0x80] (cyc (List.replicate 254 7)), 15, 5, cyc (List.replicate 254 7), 0x80, by decide +kernel⟩,
   ⟨lint [0x11, 0xFE, 0xFF] (cyc (List.replicate 254 7)), 15, 5, cyc (List.replicate 254 7), 0xFFFE, by decide +kernel⟩,
   ⟨lint [0x12, 1, 2, 3, 0xFF] (cyc (List.replicate 254 7)), 15, 5, cyc (List.replicate 254 7), 0xFF030201, by decide +kernel⟩,
   ⟨15, 5, cyc [2, 7], 2, [7], by decide +kernel⟩,
   ⟨15, 5, cyc [3, 2, 7], 2, 3, [7], by decide +kernel⟩,
   ⟨15, 5, cyc [4, 3, 2, 1, 7], 1, 2, 3, 4, [7], by decide +kernel⟩,
   ⟨15, 5, cyc [4, 3, 2, 7], 2, 3, 4, [7], by decide +kernel⟩,
   ⟨lint [0x1A, 254] (cyc (9 :: List.range 254)), 15, 5, cyc (9 :: List.range 254), 254, by decide +kernel⟩,
   ⟨lint [0x02, 0xFF, 0x03, 23] (cyc []), 15, 5, cyc [], 1023, 23, by decide +kernel⟩,
   ⟨lint [1] (cyc [7]), 15, 5, cyc [7], by decide +kernel⟩⟩

theorem meets_LintisInt32Instructions :
  (∃ e : Fin 16, ∃ t : Nat, ∃ c : Cycle, ∃ x : BitVec 32, ∃ y : BitVec 32, ∃ r : List Nat, r.length ≤ 250 ∧ c.stack = y.toNat :: x.toNat :: r ∧ ∀ op ∈ ([0x30, 0x31, 0x32, 0x38, 0x39, 0x3A, 0x3C, 0x3D, 0x3E, 0x60, 0x61, 0x62, 0x63, 0x64] : Bytes), InSequence (lint [op] c) e t c [op]) ∧
  (∃ e : Fin 16, ∃ t : Nat, ∃ c : Cycle, ∃ x : BitVec 32, ∃ y : BitVec 32, ∃ r : List Nat, r.length ≤ 250 ∧ c.stack = y.toNat :: x.toNat :: r ∧ y ≠ 0 ∧ ∀ op ∈ ([0x33, 0x34, 0x36, 0x37] : Bytes), InSequence (lint [op] c) e t c [op]) ∧
  (∃ s : State, ∃ e : Fin 16, ∃ t : Nat, ∃ c : Cycle, ∃ x : BitVec 32, ∃ y : BitVec 32, ∃ r : List Nat, r.length ≤ 250 ∧ c.stack = y.toNat :: x.toNat :: r ∧ y = 0 ∧ AtCode s e t c [0x33]) ∧
  (∃ s : State, ∃ e : Fin 16, ∃ t : Nat, ∃ c : Cycle, ∃ x : BitVec 32, ∃ y : BitVec 32, ∃ r : List Nat, r.length ≤ 250 ∧ c.stack = y.toNat :: x.toNat :: r ∧ y = 0 ∧ AtCode s e t c [0x34]) ∧
  (∃ s : State, ∃ e : Fin 16, ∃ t : Nat, ∃ c : Cycle, ∃ x : BitVec 32, ∃ y : BitVec 32, ∃ r : List Nat, r.length ≤ 250 ∧ c.stack = y.toNat :: x.toNat :: r ∧ y = 0 ∧ AtCode s e t c [0x36]) ∧
  (∃ s : State, ∃ e : Fin 16, ∃ t : Nat, ∃ c : Cycle, ∃ x : BitVec 32, ∃ y : BitVec 32, ∃ r : List Nat, r.length ≤ 250 ∧ c.stack = y.toNat :: x.toNat :: r ∧ y = 0 ∧ AtCode s e t c [0x37]) ∧
  (∃ e : Fin 16, ∃ t : Nat, ∃ c : Cycle, ∃ x : BitVec 32, ∃ r : List Nat, r.length ≤ 250 ∧ c.stack = x.toNat :: r ∧ ∀ op ∈ ([0x35, 0x3B, 0x6E] : Bytes), InSequence (lint [op] c) e t c [op]) ∧
  (∃ e : Fin 16, ∃ t : Nat, ∃ c : Cycle, ∃ x : BitVec 32, ∃ lo : BitVec 32, ∃ hi : BitVec 32, ∃ r : List Nat, r.length ≤ 250 ∧ c.stack = hi.toNat :: lo.toNat :: x.toNat :: r ∧ InSequence (lint [0x91] c) e t c [0x91]) ∧
  (∃ e : Fin 16, ∃ t : Nat, ∃ c : Cycle, ∃ x : BitVec 32, ∃ lo : BitVec 32, ∃ hi : BitVec 32, ∃ r : List Nat, r.length ≤ 250 ∧ c.stack = hi.toNat :: lo.toNat :: x.toNat :: r ∧ lo.sle x = true ∧ x.sle hi = true ∧ InSequence (lint [0x92] c) e t c [0x92]) ∧
  (∃ s : State, ∃ e : Fin 16, ∃ t : Nat, ∃ c : Cycle, ∃ x : BitVec 32, ∃ lo : BitVec 32, ∃ hi : BitVec 32, ∃ r : List Nat, r.length ≤ 250 ∧ c.stack = hi.toNat :: lo.toNat :: x.toNat :: r ∧ AtCode s e t c [0x92] ∧ (lo.sle x = false ∨ x.sle hi = false)) :=
  ⟨⟨15, 5, cyc [0xFFFFFFFF, 0x80000000, 7], 0x80000000, 0xFFFFFFFF, [7], by decide +kernel⟩,
   ⟨15, 5, cyc [0xFFFFFFFF, 0x80000000, 7], 0x80000000, 0xFFFFFFFF, [7], by decide +kernel⟩,
   ⟨lint [51] (cyc [0, 0x80000000, 7]), 15, 5, cyc [0, 0x80000000, 7], 0x80000000, 0, [7], by decide +kernel⟩,
   ⟨lint [52] (cyc [0, 0x80000000, 7]), 15, 5, cyc [0, 0x80000000, 7], 0x80000000, 0, [7], by decide +kernel⟩,
   ⟨lint [54] (cyc [0, 0x80000000, 7]), 15, 5, cyc [0, 0x80000000, 7], 0x80000000, 0, [7], by decide +kernel⟩,
   ⟨lint [55] (cyc [0, 0x80000000, 7]), 15, 5, cyc [0, 0x80000000, 7], 0x80000000, 0, [7], by decide +kernel⟩,
   ⟨15, 5, cyc [0x80000000, 7], 0x80000000, [7], by decide +kernel⟩,
   ⟨15, 5, cyc [5, 0xFFFFFFFB, 5, 7], 5, 0xFFFFFFFB, 5, [7], by decide +kernel⟩,
   ⟨15, 5, cyc [5, 0xFFFFFFFB, 5, 7], 5, 0xFFFFFFFB, 5, [7], by decide +kernel⟩,
   ⟨lint [0x92] (cyc [5, 0xFFFFFFFB, 6, 7]), 15, 5, cyc [5, 0xFFFFFFFB, 6, 7], 6, 0xFFFFFFFB, 5, [7], by decide +kernel⟩⟩

theorem meets_LintisInt64Instructions :
  (∃ e : Fin 16, ∃ t : Nat, ∃ c : Cycle, ∃ x : BitVec 64, ∃ y : BitVec 64, ∃ r : List Nat, r.length ≤ 250 ∧ c.stack = cellsOf y ++ cellsOf x ++ r ∧ ∀ op ∈ ([0x40, 0x41, 0x42, 0x46, 0x47, 0x48, 0x65, 0x66, 0x67] : Bytes), InSequence (lint [op] c) e t c [op]) ∧
  (∃ e : Fin 16, ∃ t : Nat, ∃ c : Cycle, ∃ x : BitVec 64, ∃ y : BitVec 64, ∃ r : List Nat, r.length ≤ 250 ∧ c.stack = cellsOf y ++ cellsOf x ++ r ∧ y ≠ 0 ∧ ∀ op ∈ ([0x43, 0x44] : Bytes), InSequence (lint [op] c) e t c [op]) ∧
  (∃ s : State, ∃ e : Fin 16, ∃ t : Nat, ∃ c : Cycle, ∃ x : BitVec 64, ∃ y : BitVec 64, ∃ r : List Nat, r.length ≤ 250 ∧ c.stack = cellsOf y ++ cellsOf x ++ r ∧ y = 0 ∧ AtCode s e t c [0x43]) ∧
  (∃ s : State, ∃ e : Fin 16, ∃ t : Nat, ∃ c : Cycle, ∃ x : BitVec 64, ∃ y : BitVec 64, ∃ r : List Nat, r.length ≤ 250 ∧ c.stack = cellsOf y ++ cellsOf x ++ r ∧ y = 0 ∧ AtCode s e t c [0x44]) ∧
  (∃ e : Fin 16, ∃ t : Nat, ∃ c : Cycle, ∃ x : BitVec 64, ∃ n : Nat, ∃ r : List Nat, r.length ≤ 250 ∧ c.stack = n :: (cellsOf x ++ r) ∧ ∀ op ∈ ([0x49, 0x4A, 0x4B] : Bytes), InSequence (lint [op] c) e t c [op]) ∧
  (∃ e : Fin 16, ∃ t : Nat, ∃ c : Cycle, ∃ x : BitVec 64, ∃ r : List Nat, r.length ≤ 250 ∧ c.stack = cellsOf x ++ r ∧ ∀ op ∈ ([0x45, 0x6F] : Bytes), InSequence (lint [op] c) e t c [op]) :=
  ⟨⟨15, 5, cyc [4294967295, 4294967295, 2147483648, 0, 7], 0x8000000000000000, 0xFFFFFFFFFFFFFFFF, [7], by decide +kernel⟩,
   ⟨15, 5, cyc [4294967295, 4294967295, 2147483648, 0, 7], 0x8000000000000000, 0xFFFFFFFFFFFFFFFF, [7], by decide +kernel⟩,
   ⟨lint [67] (cyc [0, 0, 2147483648, 0, 7]), 15, 5, cyc [0, 0, 2147483648, 0, 7], 0x8000000000000000, 0, [7], by decide +kernel⟩,
   ⟨lint [68] (cyc [0, 0, 2147483648, 0, 7]), 15, 5, cyc [0, 0, 2147483648, 0, 7], 0x8000000000000000, 0, [7], by decide +kernel⟩,
   ⟨15, 5, cyc [127, 2147483648, 0, 7], 0x8000000000000000, 127, [7], by decide +kernel⟩,
   ⟨15, 5, cyc [2147483648, 0, 7], 0x8000000000000000, [7], by decide +kernel⟩⟩

theorem meets_LintisFloatInstructions :
  (∃ e : Fin 16, ∃ t : Nat, ∃ c : Cycle, ∃ x : BitVec 32, ∃ y : BitVec 32, ∃ r : List Nat, r.length ≤ 250 ∧ c.stack = y.toNat :: x.toNat :: r ∧ ∀ op ∈ ([0x50, 0x51, 0x52, 0x53, 0x68, 0x69, 0x6A] : Bytes), InSequence (lint [op] c) e t c [op]) ∧
  (∃ e : Fin 16, ∃ t : Nat, ∃ c : Cycle, ∃ x : BitVec 32, ∃ r : List Nat, r.length ≤ 250 ∧ c.stack = x.toNat :: r ∧ ∀ op ∈ ([0x54, 0x55, 0x56, 0x57] : Bytes), InSequence (lint [op] c) e t c [op]) ∧
  (∃ e : Fin 16, ∃ t : Nat, ∃ c : Cycle, ∃ x : BitVec 64, ∃ y : BitVec 64, ∃ r : List Nat, r.length ≤ 250 ∧ c.stack = cellsOf y ++ cellsOf x ++ r ∧ ∀ op ∈ ([0x58, 0x59, 0x5A, 0x5B, 0x6B, 0x6C, 0x6D] : Bytes), InSequence (lint [op] c) e t c [op]) ∧
  (∃ e : Fin 16, ∃ t : Nat, ∃ c : Cycle, ∃ x : BitVec 64, ∃ r : List Nat, r.length ≤ 250 ∧ c.stack = cellsOf x ++ r ∧ ∀ op ∈ ([0x5C, 0x5D, 0x5E, 0x5F] : Bytes), InSequence (lint [op] c) e t c [op]) :=
  ⟨⟨15, 5, cyc [0xC0490FDB, 0x3F800000, 7], 0x3F800000, 0xC0490FDB, [7], by decide +kernel⟩,
   ⟨15, 5, cyc [0xC0490FDB, 7], 0xC0490FDB, [7], by decide +kernel⟩,
   ⟨15, 5, cyc [3221823995, 1413754136, 1072693248, 0, 7], 0x3FF0000000000000, 0xC00921FB54442D18, [7], by decide +kernel⟩,
   ⟨15, 5, cyc [3221823995, 1413754136, 7], 0xC00921FB54442D18, [7], by decide +kernel⟩⟩

theorem meets_LintisConversions :
  (∃ e : Fin 16, ∃ t : Nat, ∃ c : Cycle, ∃ x : BitVec 32, ∃ r : List Nat, r.length ≤ 250 ∧ c.stack = x.toNat :: r ∧ ∀ op ∈ ([0x80, 0x81, 0x83, 0x84, 0x86, 0x87, 0x89, 0x8A, 0x8E] : Bytes), InSequence (lint [op] c) e t c [op]) ∧
  (∃ e : Fin 16, ∃ t : Nat, ∃ c : Cycle, ∃ x : BitVec 64, ∃ r : List Nat, r.length ≤ 250 ∧ c.stack = cellsOf x ++ r ∧ ∀ op ∈ ([0x82, 0x85, 0x88, 0x8B, 0x8C, 0x8D, 0x8F] : Bytes), InSequence (lint [op] c) e t c [op]) :=
  ⟨⟨15, 5, cyc [0xCF000001, 7], 0xCF000001, [7], by decide +kernel⟩,
   ⟨15, 5, cyc [3252682752, 2097153, 7], 0xC1E0000000200001, [7], by decide +kernel⟩⟩

theorem meets_LintisLoads :
  (∃ s : State, ∃ e : Fin 16, ∃ t : Nat, ∃ c : Cycle, ∃ a : BitVec 32,
    let code (op : Byte) : Bytes := op :: Bits.toLe 4 a.toNat
    c.stack.length ≤ 254 ∧ Lintis.granted s t false a.toNat 4 = true ∧ a.toNat % 4 = 0 ∧ InSequence s e t c (code 0x20)) ∧
  (∃ s : State, ∃ e : Fin 16, ∃ t : Nat, ∃ c : Cycle, ∃ a : BitVec 32,
    let code (op : Byte) : Bytes := op :: Bits.toLe 4 a.toNat
    c.stack.length ≤ 254 ∧ Lintis.granted s t false a.toNat 8 = true ∧ a.toNat % 4 = 0 ∧ InSequence s e t c (code 0x21)) ∧
  (∃ s : State, ∃ e : Fin 16, ∃ t : Nat, ∃ c : Cycle, ∃ a : BitVec 32,
    let code (op : Byte) : Bytes := op :: Bits.toLe 4 a.toNat
    c.stack.length ≤ 254 ∧ Lintis.granted s t false a.toNat 1 = true ∧ InSequence s e t c (code 0x22)) ∧
  (∃ s : State, ∃ e : Fin 16, ∃ t : Nat, ∃ c : Cycle, ∃ a : BitVec 32,
    let code (op : Byte) : Bytes := op :: Bits.toLe 4 a.toNat
    c.stack.length ≤ 254 ∧ Lintis.granted s t false a.toNat 1 = true ∧ InSequence s e t c (code 0x23)) ∧
  (∃ s : State, ∃ e : Fin 16, ∃ t : Nat, ∃ c : Cycle, ∃ a : BitVec 32,
    let code (op : Byte) : Bytes := op :: Bits.toLe 4 a.toNat
    c.stack.length ≤ 254 ∧ Lintis.granted s t false a.toNat 2 = true ∧ a.toNat % 2 = 0 ∧ InSequence s e t c (code 0x24)) ∧
  (∃ s : State, ∃ e : Fin 16, ∃ t : Nat, ∃ c : Cycle, ∃ a : BitVec 32,
    let code (op : Byte) : Bytes := op :: Bits.toLe 4 a.toNat
    c.stack.length ≤ 254 ∧ Lintis.granted s t false a.toNat 2 = true ∧ a.toNat % 2 = 0 ∧ InSequence s e t c (code 0x25)) ∧
  (∃ s : State, ∃ e : Fin 16, ∃ t : Nat, ∃ c : Cycle, ∃ a : BitVec 32,
    let code (op : Byte) : Bytes := op :: Bits.toLe 4 a.toNat
    ∃ b : BitVec 8,
    c.stack.length ≤ 254 ∧ Lintis.granted s t false a.toNat 1 = true ∧ InSequence s e t c (code 0x95 ++ [b])) ∧
  (∃ s : State, ∃ e : Fin 16, ∃ t : Nat, ∃ c : Cycle, ∃ a : BitVec 32,
    let code (op : Byte) : Bytes := op :: Bits.toLe 4 a.toNat
    c.stack.length ≤ 254 ∧ Lintis.granted s t false a.toNat 4 = false ∧ AtCode s e t c (code 0x20)) ∧
  (∃ s : State, ∃ e : Fin 16, ∃ t : Nat, ∃ c : Cycle, ∃ a : BitVec 32,
    let code (op : Byte) : Bytes := op :: Bits.toLe 4 a.toNat
    c.stack.length ≤ 254 ∧ Lintis.granted s t false a.toNat 2 = true ∧ a.toNat % 2 = 1 ∧ AtCode s e t c (code 0x24)) ∧
  (∃ s : State, ∃ e : Fin 16, ∃ t : Nat, ∃ c : Cycle, ∃ a : Nat, ∃ r : List Nat, c.stack = a :: r ∧ r.length ≤ 250 ∧ Lintis.granted s t false a 4 = true ∧ a % 4 = 0 ∧ InSequence s e t c [0x2A]) ∧
  (∃ s : State, ∃ e : Fin 16, ∃ t : Nat, ∃ c : Cycle, ∃ a : Nat, ∃ r : List Nat, c.stack = a :: r ∧ r.length ≤ 250 ∧ Lintis.granted s t false a 8 = true ∧ a % 4 = 0 ∧ InSequence s e t c [0x2B]) ∧
  (∃ s : State, ∃ e : Fin 16, ∃ t : Nat, ∃ c : Cycle, ∃ a : Nat, ∃ r : List Nat, c.stack = a :: r ∧ r.length ≤ 250 ∧ Lintis.granted s t false a 1 = true ∧ InSequence s e t c [0x2C]) ∧
  (∃ s : State, ∃ off : Nat, ∃ n : Nat, off + n ≤ 2 ^ 28 ∧ s.prog.forces = [] ∧ s.prog.ending = []) ∧
  (∃ s : State, ∃ c : Cycle, ∃ off : Nat, ∃ v : Nat, off < 2 ^ 28 ∧ v < 256 ∧ s.prog.forces = [] ∧ s.prog.ending = [] ∧ Tab.get c.shared off = 256 + v) ∧
  (∃ s : State, ∃ a : Nat, ∃ f : Force, s.prog.forces = [(0, f)] ∧ f.active = true ∧ f.kind = 2 ∧ f.typ = 0 ∧ f.addr = a) :=
  ⟨⟨lint [32, 0, 0, 0, 32] (cyc (List.replicate 254 7)), 15, 5, cyc (List.replicate 254 7), 536870912, by decide +kernel⟩,
   ⟨lint [33, 0, 0, 0, 32] (cyc (List.replicate 254 7)), 15, 5, cyc (List.replicate 254 7), 536870912, by decide +kernel⟩,
   ⟨lint [34, 0, 0, 0, 32] (cyc (List.replicate 254 7)), 15, 5, cyc (List.replicate 254 7), 536870912, by decide +kernel⟩,
   ⟨lint [35, 0, 0, 0, 32] (cyc (List.replicate 254 7)), 15, 5, cyc (List.replicate 254 7), 536870912, by decide +kernel⟩,
   ⟨lint [36, 0, 0, 0, 32] (cyc (List.replicate 254 7)), 15, 5, cyc (List.replicate 254 7), 536870912, by decide +kernel⟩,
   ⟨lint [37, 0, 0, 0, 32] (cyc (List.replicate 254 7)), 15, 5, cyc (List.replicate 254 7), 536870912, by decide +kernel⟩,
   ⟨lint [0x95, 1, 0, 0, 32, 7] (cyc (List.replicate 254 7)), 15, 5, cyc (List.replicate 254 7), 536870913, 7, by decide +kernel⟩,
   ⟨lint [0x20, 0, 1, 0, 32] (cyc (List.replicate 254 7)), 15, 5, cyc (List.replicate 254 7), 536871168, by decide +kernel⟩,
   ⟨lint [0x24, 1, 0, 0, 32] (cyc (List.replicate 254 7)), 15, 5, cyc (List.replicate 254 7), 536870913, by decide +kernel⟩,
   ⟨lint [42] (cyc [536870912, 7]), 15, 5, cyc [536870912, 7], 536870912, [7], by decide +kernel⟩,
   ⟨lint [43] (cyc [536870912, 7]), 15, 5, cyc [536870912, 7], 536870912, [7], by decide +kernel⟩,
   ⟨lint [44] (cyc [536870912, 7]), 15, 5, cyc [536870912, 7], 536870912, [7], by decide +kernel⟩,
   ⟨lint [] (cyc []), 0, 8, by decide +kernel⟩,
   ⟨lint [] (cyc []), { cyc [] with shared := [(268435455, 511)] }, 268435455, 255, by decide +kernel⟩,
   ⟨{ lint [] (cyc []) with prog.forces := [(0, { active := true, kind := 2, addr := 536870912, value := 4294967296 + 77 })] }, 536870912, { active := true, kind := 2, addr := 536870912, value := 4294967296 + 77 }, by decide +kernel⟩⟩

theorem meets_LintisStores :
  (∃ s : State, ∃ e : Fin 16, ∃ t : Nat, ∃ c : Cycle, ∃ a : BitVec 32, ∃ x : Nat, ∃ r : List Nat,
    let code (op : Byte) : Bytes := op :: Bits.toLe 4 a.toNat
    c.stack = x :: r ∧ Lintis.granted s t true a.toNat 4 = true ∧ a.toNat % 4 = 0 ∧ a.toNat / 2 ^ 28 = 2 ∧ Prog.bufferWords c.shared ≤ 1024 ∧ InSequence s e t c (code 0x26)) ∧
  (∃ s : State, ∃ e : Fin 16, ∃ t : Nat, ∃ c : Cycle, ∃ a : BitVec 32, ∃ x : Nat, ∃ r : List Nat,
    let code (op : Byte) : Bytes := op :: Bits.toLe 4 a.toNat
    ∃ y, ∃ r',
    c.stack = x :: r ∧ r = y :: r' ∧ Lintis.granted s t true a.toNat 8 = true ∧ a.toNat % 4 = 0 ∧ a.toNat / 2 ^ 28 = 2 ∧ Prog.bufferWords c.shared ≤ 1024 ∧ InSequence s e t c (code 0x27)) ∧
  (∃ s : State, ∃ e : Fin 16, ∃ t : Nat, ∃ c : Cycle, ∃ a : BitVec 32, ∃ x : Nat, ∃ r : List Nat,
    let code (op : Byte) : Bytes := op :: Bits.toLe 4 a.toNat
    c.stack = x :: r ∧ Lintis.granted s t true a.toNat 1 = true ∧ a.toNat / 2 ^ 28 = 2 ∧ Prog.bufferWords c.shared ≤ 1024 ∧ InSequence s e t c (code 0x28)) ∧
  (∃ s : State, ∃ e : Fin 16, ∃ t : Nat, ∃ c : Cycle, ∃ a : BitVec 32, ∃ x : Nat, ∃ r : List Nat,
    let code (op : Byte) : Bytes := op :: Bits.toLe 4 a.toNat
    c.stack = x :: r ∧ Lintis.granted s t true a.toNat 2 = true ∧ a.toNat % 2 = 0 ∧ a.toNat / 2 ^ 28 = 2 ∧ Prog.bufferWords c.shared ≤ 1024 ∧ InSequence s e t c (code 0x29)) ∧
  (∃ s : State, ∃ e : Fin 16, ∃ t : Nat, ∃ c : Cycle, ∃ a : BitVec 32, ∃ x : Nat, ∃ r : List Nat,
    let code (op : Byte) : Bytes := op :: Bits.toLe 4 a.toNat
    let off := a.toNat % 2 ^ 28
    let own := Tab.set c.shared off (256 + x % 256)
    c.stack = x :: r ∧ Lintis.granted s t true a.toNat 1 = true ∧ a.toNat / 2 ^ 28 = 3 ∧ InSequence s e t c (code 0x28) ∧ Prog.bufferWords own ≤ 1024) ∧
  (∃ s : State, ∃ e : Fin 16, ∃ t : Nat, ∃ c : Cycle, ∃ a : BitVec 32, ∃ x : Nat, ∃ r : List Nat,
    let code (op : Byte) : Bytes := op :: Bits.toLe 4 a.toNat
    c.stack = x :: r ∧ Lintis.granted s t true a.toNat 1 = true ∧ a.toNat / 2 ^ 28 = 4 ∧ Prog.bufferWords c.shared ≤ 1024 ∧ InSequence s e t c (code 0x28)) ∧
  (∃ s : State, ∃ e : Fin 16, ∃ t : Nat, ∃ c : Cycle, ∃ a : BitVec 32, ∃ x : Nat, ∃ r : List Nat,
    let code (op : Byte) : Bytes := op :: Bits.toLe 4 a.toNat
    ∃ b : BitVec 8,
    c.stack = x :: r ∧ b.toNat < 8 ∧ Lintis.granted s t true a.toNat 1 = true ∧ a.toNat / 2 ^ 28 = 2 ∧ Prog.bufferWords c.shared ≤ 1024 ∧ InSequence s e t c (code 0x96 ++ [b])) ∧
  (∃ s : State, ∃ e : Fin 16, ∃ t : Nat, ∃ c : Cycle, ∃ a : BitVec 32, ∃ x : Nat, ∃ r : List Nat,
    let code (op : Byte) : Bytes := op :: Bits.toLe 4 a.toNat
    c.stack = x :: r ∧ Lintis.granted s t true a.toNat 4 = false ∧ AtCode s e t c (code 0x26)) ∧
  (∃ s : State, ∃ e : Fin 16, ∃ t : Nat, ∃ c : Cycle, ∃ a : Nat, ∃ x : Nat, ∃ r : List Nat, c.stack = a :: x :: r ∧ a / 2 ^ 28 = 2 ∧ Prog.bufferWords c.shared ≤ 1024 ∧ Lintis.granted s t true a 4 = true ∧ a % 4 = 0 ∧ InSequence s e t c [0x2D]) ∧
  (∃ s : State, ∃ e : Fin 16, ∃ t : Nat, ∃ c : Cycle, ∃ a : Nat, ∃ x : Nat, ∃ r : List Nat, ∃ y, ∃ r', c.stack = a :: x :: r ∧ a / 2 ^ 28 = 2 ∧ Prog.bufferWords c.shared ≤ 1024 ∧ r = y :: r' ∧ Lintis.granted s t true a 8 = true ∧ a % 4 = 0 ∧ InSequence s e t c [0x2E]) ∧
  (∃ s : State, ∃ e : Fin 16, ∃ t : Nat, ∃ c : Cycle, ∃ a : Nat, ∃ x : Nat, ∃ r : List Nat, c.stack = a :: x :: r ∧ a / 2 ^ 28 = 2 ∧ Prog.bufferWords c.shared ≤ 1024 ∧ Lintis.granted s t true a 1 = true ∧ InSequence s e t c [0x2F]) ∧
  (∃ s : State, ∃ e : Fin 16, ∃ t : Nat, ∃ c : Cycle, ∃ u : Nat, ∃ dst : Nat, ∃ x : Nat, ∃ r : List Nat, c.stack = u :: dst :: x :: r ∧ dst / 2 ^ 28 = 2 ∧ u ≤ 65536 ∧ Prog.bufferWords c.shared ≤ 1024 ∧ Lintis.granted s t true dst u = true ∧ InSequence s e t c [0x94]) ∧
  (∃ s : State, ∃ e : Fin 16, ∃ t : Nat, ∃ c : Cycle, ∃ u : Nat, ∃ dst : Nat, ∃ x : Nat, ∃ r : List Nat, c.stack = u :: dst :: x :: r ∧ dst / 2 ^ 28 = 2 ∧ u ≤ 65536 ∧ Prog.bufferWords c.shared ≤ 1024 ∧ Lintis.granted s t true dst u = true ∧ Lintis.granted s t false x u = true ∧ InSequence s e t c [0x93]) :=
  ⟨⟨lint [38, 252, 0, 0, 32] (cyc [0xFFFF01FF, 7]), 15, 5, cyc [0xFFFF01FF, 7], 536871164, 0xFFFF01FF, [7], by decide +kernel⟩,
   ⟨lint [0x27, 248, 0, 0, 32] (cyc [0xFFFF01FF, 5, 7]), 15, 5, cyc [0xFFFF01FF, 5, 7], 536871160, 0xFFFF01FF, 5 :: [7], 5, [7], by decide +kernel⟩,
   ⟨lint [40, 252, 0, 0, 32] (cyc [0xFFFF01FF, 7]), 15, 5, cyc [0xFFFF01FF, 7], 536871164, 0xFFFF01FF, [7], by decide +kernel⟩,
   ⟨lint [41, 252, 0, 0, 32] (cyc [0xFFFF01FF, 7]), 15, 5, cyc [0xFFFF01FF, 7], 536871164, 0xFFFF01FF, [7], by decide +kernel⟩,
   ⟨lint [0x28, 63, 0, 0, 48] (cyc [0xFFFF01FF, 7]), 15, 5, cyc [0xFFFF01FF, 7], 805306431, 0xFFFF01FF, [7], by decide +kernel⟩,
   ⟨lint [0x28, 7, 0, 0, 64] (cyc [0xFFFF01FF, 7]), 15, 5, cyc [0xFFFF01FF, 7], 1073741831, 0xFFFF01FF, [7], by decide +kernel⟩,
   ⟨lint [0x96, 1, 0, 0, 32, 7] (cyc [0xFFFF01FE, 7]), 15, 5, cyc [0xFFFF01FE, 7], 536870913, 0xFFFF01FE, [7], 7, by decide +kernel⟩,
   ⟨lint [0x26, 0, 0, 0, 16] (cyc [1, 7]), 15, 5, cyc [1, 7], 268435456, 1, [7], by decide +kernel⟩,
   ⟨lint [45] (cyc [536871164, 0xFFFF01FF, 7]), 15, 5, cyc [536871164, 0xFFFF01FF, 7], 536871164, 0xFFFF01FF, [7], by decide +kernel⟩,
   ⟨lint [0x2E] (cyc [536871160, 0xFFFF01FF, 5, 7]), 15, 5, cyc [536871160, 0xFFFF01FF, 5, 7], 536871160, 0xFFFF01FF, 5 :: [7], 5, [7], by decide +kernel⟩,
   ⟨lint [47] (cyc [536871164, 0xFFFF01FF, 7]), 15, 5, cyc [536871164, 0xFFFF01FF, 7], 536871164, 0xFFFF01FF, [7], by decide +kernel⟩,
   ⟨lint [0x94] (cyc [33, 536870912, 0x1FF, 7]), 15, 5, cyc [33, 536870912, 0x1FF, 7], 33, 536870912, 0x1FF, [7], by decide +kernel⟩,
   ⟨lint [0x93] (cyc [8, 536870916, 536870912, 7]), 15, 5, cyc [8, 536870916, 536870912, 7], 8, 536870916, 536870912, [7], by decide +kernel⟩⟩

theorem meets_LintisControlFlow :
  (∃ s : State, ∃ e : Fin 16, ∃ t : Nat, ∃ c : Cycle, ∃ j : BitVec 16,
    let dst := ((c.pc : Int) + 3 + j.toInt).toNat
    let code (op : Byte) : Bytes := op :: Bits.toLe 2 j.toNat
    AtCode s e t c (code 0x70) ∧ Lintis.lands s t c.pc (c.pc + 3) dst = true) ∧
  (∃ s : State, ∃ e : Fin 16, ∃ t : Nat, ∃ c : Cycle, ∃ j : BitVec 16,
    let dst := ((c.pc : Int) + 3 + j.toInt).toNat
    let code (op : Byte) : Bytes := op :: Bits.toLe 2 j.toNat
    ∃ x, ∃ r,
    c.stack = x :: r ∧ Lintis.lands s t c.pc (c.pc + 3) dst = true ∧ Lintis.lands s t c.pc (c.pc + 3) (c.pc + 3) = true ∧ AtCode s e t c (code 0x72)) ∧
  (∃ s : State, ∃ e : Fin 16, ∃ t : Nat, ∃ c : Cycle, ∃ j : BitVec 16,
    let dst := ((c.pc : Int) + 3 + j.toInt).toNat
    let code (op : Byte) : Bytes := op :: Bits.toLe 2 j.toNat
    ∃ x, ∃ r,
    c.stack = x :: r ∧ Lintis.lands s t c.pc (c.pc + 3) dst = true ∧ Lintis.lands s t c.pc (c.pc + 3) (c.pc + 3) = true ∧ AtCode s e t c (code 0x73)) ∧
  (∃ s : State, ∃ e : Fin 16, ∃ t : Nat, ∃ c : Cycle, ∃ k : BitVec 32,
    let code (op : Byte) : Bytes := op :: Bits.toLe 4 k.toNat
    AtCode s e t c (code 0x71) ∧ Lintis.lands s t c.pc (c.pc + 5) k.toNat = true) ∧
  (∃ s : State, ∃ e : Fin 16, ∃ t : Nat, ∃ c : Cycle, ∃ k : BitVec 32,
    let code (op : Byte) : Bytes := op :: Bits.toLe 4 k.toNat
    AtCode s e t c (code 0x71) ∧ Lintis.lands s t c.pc (c.pc + 5) k.toNat = false) ∧
  (∃ s : State, ∃ e : Fin 16, ∃ t : Nat, ∃ c : Cycle, ∃ k : BitVec 32,
    let code (op : Byte) : Bytes := op :: Bits.toLe 4 k.toNat
    AtCode s e t c (code 0x74) ∧ c.ret.length < 32 ∧ Lintis.lands s t c.pc (c.pc + 5) k.toNat = true) ∧
  (∃ s : State, ∃ e : Fin 16, ∃ t : Nat, ∃ c : Cycle, ∃ k : BitVec 32,
    let code (op : Byte) : Bytes := op :: Bits.toLe 4 k.toNat
    AtCode s e t c (code 0x74) ∧ 32 ≤ c.ret.length) ∧
  (∃ s : State, ∃ e : Fin 16, ∃ t : Nat, ∃ c : Cycle, ∃ k : BitVec 32,
    let code (op : Byte) : Bytes := op :: Bits.toLe 4 k.toNat
    ∃ n, ∃ r,
    let count := Lintis.constWord s k.toNat
    let dst := Lintis.constWord s (k.toNat + (if n < count ∧ n < 2 ^ 31 then 8 + 4 * n else 4))
    c.stack = n :: r ∧ AtCode s e t c (code 0x77) ∧ Lintis.lands s t c.pc (c.pc + 5) dst = true) ∧
  (∃ s : State, ∃ e : Fin 16, ∃ t : Nat, ∃ c : Cycle, ∃ k, ∃ r, c.ret = k :: r ∧ AtCode s e t c [0x75] ∧ Lintis.lands s t c.pc (c.pc + 1) k = true) ∧
  (∃ s : State, ∃ e : Fin 16, ∃ t : Nat, ∃ c : Cycle, c.ret = [] ∧ AtCode s e t c [0x75]) ∧
  (∃ s : State, ∃ e : Fin 16, ∃ t : Nat, ∃ c : Cycle, ∃ k, ∃ r, c.stack = k :: r ∧ AtCode s e t c [0x76] ∧ Lintis.mayRun s t k = true ∧ c.ret.length < 32 ∧ k ∈ s.prog.image.funcs ∧ Lintis.lands s t c.pc (c.pc + 1) k = true) ∧
  (∃ s : State, ∃ e : Fin 16, ∃ t : Nat, ∃ c : Cycle, ∃ k, ∃ r, c.stack = k :: r ∧ AtCode s e t c [0x76] ∧ Lintis.mayRun s t k = false) ∧
  (∃ s : State, ∃ e : Fin 16, ∃ t : Nat, ∃ c : Cycle, ∃ k, ∃ r, c.stack = k :: r ∧ AtCode s e t c [0x76] ∧ Lintis.mayRun s t k = true ∧ c.ret.length < 32 ∧ k ∉ s.prog.image.funcs) ∧
  (∃ s : State, ∃ e : Fin 16, ∃ t : Nat, ∃ c : Cycle, ∃ b : BitVec 8, AtCode s e t c [0x03, b]) ∧
  (∃ s : State, ∃ e : Fin 16, ∃ t : Nat, ∃ c : Cycle, c.stack = [] ∧ AtCode s e t c [0x15]) ∧
  (∃ s : State, ∃ e : Fin 16, ∃ t : Nat, ∃ c : Cycle, c.stack.length = 256 ∧ AtCode s e t c [0x04]) :=
  ⟨⟨lint [0x70, 0xFD, 0xFF] (cyc []), 15, 5, cyc [], 0xFFFD, by decide +kernel⟩,
   ⟨lint [114, 0xFD, 0xFF] (cyc [0, 5]), 15, 5, cyc [0, 5], 0xFFFD, 0, [5], by decide +kernel⟩,
   ⟨lint [115, 0xFD, 0xFF] (cyc [0, 5]), 15, 5, cyc [0, 5], 0xFFFD, 0, [5], by decide +kernel⟩,
   ⟨lint [0x71, 191, 0, 0, 0] (cyc [5]), 15, 5, cyc [5], 191, by decide +kernel⟩,
   ⟨lint [0x71, 192, 0, 0, 0] (cyc [5]), 15, 5, cyc [5], 192, by decide +kernel⟩,
   ⟨lint [0x74, 191, 0, 0, 0] ({ cyc [5] with ret := List.replicate 31 (7 : Nat) }), 15, 5, { cyc [5] with ret := List.replicate 31 (7 : Nat) }, 191, by decide +kernel⟩,
   ⟨lint [0x74, 191, 0, 0, 0] ({ cyc [5] with ret := List.replicate 32 (7 : Nat) }), 15, 5, { cyc [5] with ret := List.replicate 32 (7 : Nat) }, 191, by decide +kernel⟩,
   ⟨lint [0x77, 0, 0, 0, 0] (cyc [0, 5]), 15, 5, cyc [0, 5], 0, 0, [5], by decide +kernel⟩,
   ⟨lint [0x75] ({ cyc [5] with ret := [99, 7] }), 15, 5, { cyc [5] with ret := [99, 7] }, 99, [7], by decide +kernel⟩,
   ⟨lint [0x75] (cyc [5]), 15, 5, cyc [5], by decide +kernel⟩,
   ⟨lint [0x76] ({ cyc [80, 5] with ret := List.replicate 31 (7 : Nat) }), 15, 5, { cyc [80, 5] with ret := List.replicate 31 (7 : Nat) }, 80, [5], by decide +kernel⟩,
   ⟨lint [0x76] (cyc [63, 5]), 15, 5, cyc [63, 5], 63, [5], by decide +kernel⟩,
   ⟨lint [0x76] (cyc [81, 5]), 15, 5, cyc [81, 5], 81, [5], by decide +kernel⟩,
   ⟨lint [0x03, 255] (cyc [81, 5]), 15, 5, cyc [81, 5], 255, by decide +kernel⟩,
   ⟨lint [0x15] (cyc []), 15, 5, cyc [], by decide +kernel⟩,
   ⟨lint [0x04] (cyc (List.replicate 256 (7 : Nat))), 15, 5, cyc (List.replicate 256 (7 : Nat)), by decide +kernel⟩⟩

/-- The hypotheses of `QueueIsFirstInFirstOut` and `EveryStepKeepsTheDeckCanonical`. -/
theorem meets_StepInvariants : ∃ s t : State, Tab.wf s.deck = true ∧ step s = .next t ∧ s.pending ≠ [] :=
  ⟨{ State.reset with pending := [.ack] }, after (step { State.reset with pending := [.ack] }), by decide +kernel, by rfl,
    by decide +kernel⟩
/-- The hypotheses of `FusesAreOnlyBurnt`. -/
theorem meets_FusesAreOnlyBurnt : ∃ s t : State, step s = .next t ∧ s.trust.revoked.testBit 3 = true ∧ s.trust.customer ≠ 0 :=
  ⟨{ State.reset with pending := [.ack], trust := { revoked := 8, customer := 5 } },
    after (step { State.reset with pending := [.ack], trust := { revoked := 8, customer := 5 } }), by rfl, by decide +kernel,
    by decide +kernel⟩
/-- The hypotheses of `StoresStayInTheTasksData`. -/
theorem meets_StoresStayInTheTasksData :
    ∃ (s : State) (u : State) (c : Cycle), Tab.wf s.deck = true ∧ Lintis.current s 15 = some (5, c) ∧ exec (.opFill 15) s = .next u :=
  ⟨lint [0x94] (cyc [33, 0x20000000, 0x1FF]), after (exec (.opFill 15) (lint [0x94] (cyc [33, 0x20000000, 0x1FF]))),
    cyc [33, 0x20000000, 0x1FF], by decide +kernel, by decide +kernel, by rfl⟩
/-- The hypothesis of `EveryCommandCompletes`. -/
theorem meets_EveryCommandCompletes : ∃ i : Instr, ∀ f ir, i ≠ .tapInstruction f ir := ⟨.ack, fun _ _ h => nomatch h⟩
theorem meets_StepRunsTheFrontCommand :
    (∃ (s : State) (i : Instr) (rest : List Instr), s.pending = i :: rest) ∧ ∃ s : State, s.pending = [] :=
  ⟨⟨{ State.reset with pending := [.ack, .time] }, .ack, [.time], rfl⟩, State.reset, rfl⟩

end Sys2Proof.Tests
end

section
/-!
TXTS_READ (R102): the tests of R12 for a command of the time service, what the queue's removal answers, and the statement.
-/

namespace Sys2Proof.Proofs
open Machine Says Laws

/-! The tests of R12 for a command of the time service. -/

/-- R12's mode test passes in every mode but RESET and BOOT. -/
theorem afterBoot_of_not_mem {m : Mode} (h : m ∉ [Mode.reset, .boot]) : m.afterBoot = true := by
  cases m with
  | reset => simp at h
  | boot => simp at h
  | _ => rfl

/-- The reserved bytes the model reads as zero are those that `Rest` calls zero (R6). -/
theorem zeroFrom_iff_rest {c : Cmd} {off : Nat} : Arg.zeroFrom c off = true ↔ Rest c off := by
  simp [Arg.zeroFrom, Rest, Nat.shiftRight_eq_div_pow]

/-- A command of the time service that passes every test of R12 is carried out, whichever element of the pair it names. -/
theorem timeCmd_pass {c : Cmd} {s : State} (hn : NamesPairAny c s) {op : Nat} {fmt : Bool} (hf : fmt = true)
    (hb : s.md.mode.afterBoot = true) {m : Mode → Bool} (hm : m s.md.mode = true) (rep : Reply) :
    Cmds.timeCmd op fmt m c s rep = Cmds.fin op c s rep := by
  rw [Cmds.timeCmd, pre_pass hn rfl hf hb hm]

/-- The format is tested first: its failure alone makes a command MALFORMED (R12). -/
theorem pre_malformed_of_format {c : Cmd} {s : State} {fmt : Bool} (hf : fmt = false) (named read : Bool) (m : Mode → Bool)
    (rep : Reply) : Ops.pre c named fmt read m s rep = .malformed := by
  simp [Ops.pre, hf]

/-- The completion MALFORMED of a command. -/
theorem fin_malformed (op : Nat) (c : Cmd) (s : State) :
    Cmds.fin op c s .malformed = answer c op .malformed 0 0 false s := by
  simp [Cmds.fin, Ops.finish, complete_eq]

/-- A command of the time service with a wrong argument format completes MALFORMED. -/
theorem timeCmd_malformed {fmt : Bool} (hf : fmt = false) (op : Nat) (m : Mode → Bool) (c : Cmd) (s : State) (rep : Reply) :
    Cmds.timeCmd op fmt m c s rep = answer c op .malformed 0 0 false s := by
  rw [Cmds.timeCmd, pre_malformed_of_format hf, fin_malformed]

/-! What TXTS_READ answers: one equation per state of the named queue. -/

/-- Table 1-7's 12-byte form, written out. -/
theorem form12_eq (x : Nat) : Time.form12 x = x / (10 ^ 9 * 256) + x % (10 ^ 9 * 256) / 256 * 2 ^ 64 := rfl

/-- Channel A's queue loses its oldest entry, which is the result (Table 2-7 with channel 0). -/
theorem txtsRead_channelA {c : Cmd} {s : State} {x : TxTs} {l : List TxTs} (hc : Arg.u c 0 1 = 0)
    (hq : s.tm.txA = x :: l) :
    txtsRead c s = .done { s with tm := { s.tm with txA := l } }
      (x.time / (10 ^ 9 * 256) + x.time % (10 ^ 9 * 256) / 256 * 2 ^ 64 + x.id % 2 ^ 16 * 2 ^ 96 + l.length * 2 ^ 120) := by
  simp [txtsRead, hc, hq, form12_eq]

/-- Channel B's queue loses its oldest entry, which is the result (Table 2-7 with channel 1). -/
theorem txtsRead_channelB {c : Cmd} {s : State} {x : TxTs} {l : List TxTs} (hc : Arg.u c 0 1 = 1)
    (hq : s.tm.txB = x :: l) :
    txtsRead c s = .done { s with tm := { s.tm with txB := l } }
      (x.time / (10 ^ 9 * 256) + x.time % (10 ^ 9 * 256) / 256 * 2 ^ 64 + x.id % 2 ^ 16 * 2 ^ 96 + 2 ^ 112 +
        l.length * 2 ^ 120) := by
  simp [txtsRead, hc, hq, form12_eq]

/-- An empty queue answers with byte 15 = 0xFF alone and leaves the state as it was. -/
theorem txtsRead_empty {c : Cmd} {s : State}
    (h : Arg.u c 0 1 = 0 ∧ s.tm.txA = [] ∨ Arg.u c 0 1 = 1 ∧ s.tm.txB = []) :
    txtsRead c s = .done s (0xFF * 2 ^ 120) := by
  obtain ⟨hc, hq⟩ | ⟨hc, hq⟩ := h <;> simp [txtsRead, hc, hq]

/-! The command itself. -/

/-- TXTS_READ of a channel there is completes DONE with what the removal answers. -/
theorem exec_txtsRead_done {c : Cmd} {s t : State} {result : Nat} (hn : NamesPairAny c s)
    (hm : s.md.mode ∉ [Mode.reset, .boot]) (hr : Rest c 1) (hc : Arg.u c 0 1 < 2) (h : txtsRead c s = .done t result) :
    exec (.txtsRead c) s = .next (done c 0x0531 result t) := by
  have hf : (decide (Arg.u c 0 1 < 2) && Arg.zeroFrom c 1) = true := by simp [hc, zeroFrom_of_rest hr]
  rw [exec_txtsRead, Cmds.txtsRead, timeCmd_pass hn hf (afterBoot_of_not_mem hm) rfl, h, fin_done]

/-- TXTS_READ of another channel, or with a reserved byte that is not 0, is MALFORMED in every mode. -/
theorem exec_txtsRead_malformed {c : Cmd} (h : 2 ≤ Arg.u c 0 1 ∨ ¬ Rest c 1) (s : State) :
    exec (.txtsRead c) s = .next (answer c 0x0531 .malformed 0 0 false s) := by
  have hf : (decide (Arg.u c 0 1 < 2) && Arg.zeroFrom c 1) = false := by
    rw [Bool.and_eq_false_iff, decide_eq_false_iff_not, Nat.not_lt, Bool.eq_false_iff, ne_eq, zeroFrom_iff_rest]
    exact h
  rw [exec_txtsRead, Cmds.txtsRead, timeCmd_malformed hf]

/-- Settles O17, from what the removal answers for each state of the named queue and the two ways the format can fail. -/
theorem txtsReadRemovesTheOldestEntry : Obligations.TxtsReadRemovesTheOldestEntry := by
  unfold Obligations.TxtsReadRemovesTheOldestEntry
  refine ⟨?_, fun c s _ h => exec_txtsRead_malformed h s⟩
  rintro c s _ hn hm hr rfl
  have hdone {t : State} {result : Nat} (hc : Arg.u c 0 1 < 2) (h : txtsRead c s = .done t result) :=
    exec_txtsRead_done hn hm hr hc h
  refine ⟨fun x l hc hq => ?channelA, fun x l hc hq => ?channelB, fun h => ?empty⟩
  case channelA => exact hdone (by omega) (txtsRead_channelA hc hq)
  case channelB => exact hdone (by omega) (txtsRead_channelB hc hq)
  case empty => exact hdone (by omega) (txtsRead_empty h)

end Sys2Proof.Proofs
end

section
/-!
MODE_REQUEST for the present mode and for a target that cannot be named (R111, R113): the codes of Table 3-1 as targets, what
the request answers, and the statement.
-/

namespace Sys2Proof.Proofs
open Machine Says Laws

/-! The codes of Table 3-1 as targets of a request. -/

/-- The code of Table 3-1 determines the mode. -/
@[simp] theorem ofCode_code (m : Mode) : Mode.ofCode m.code = m := by
  cases m <;> rfl

/-- The targets that cannot be named are those that R111 lists. -/
theorem targetOk_eq_false_iff {t : Nat} : Modes.targetOk t = false ↔ t ∈ [0, 1, 6] ∨ 7 < t := by
  simp only [Modes.targetOk, Bool.and_eq_false_iff, decide_eq_false_iff_not, List.mem_cons, List.not_mem_nil, or_false]
  omega

/-- A mode after BOOT other than DEGRADED can be named as a target. -/
theorem targetOk_code {m : Mode} (hb : m.afterBoot = true) (hd : m ≠ .degraded) : Modes.targetOk m.code = true := by
  cases m with
  | reset => simp [Mode.afterBoot] at hb
  | boot => simp [Mode.afterBoot] at hb
  | degraded => exact absurd rfl hd
  | _ => rfl

/-- The modes R113 can meet, those a request can name, are the ones after BOOT other than DEGRADED. -/
theorem afterBoot_and_ne_degraded_of_mem :
    ∀ m ∈ [Mode.configure, .commission, .run, .hold, .safeStop], m.afterBoot = true ∧ m ≠ .degraded := by
  decide

/-! What the request answers. -/

/-- Table 3-5's result where a request leaves the mode as it was: mode before and mode after agree, no return mode. -/
theorem result_same (s : State) (m : Mode) :
    Modes.result s m m .reset = s.tm.frame % 2 ^ 64 + m.code * 2 ^ 64 + m.code * 2 ^ 72 := by
  simp [Modes.result, Mode.code]

/-- A request for the present mode leaves the state as it was, before any condition of Table 3-3 is tested (R113). -/
theorem request_present {c : Cmd} {s : State} (h : Arg.u c 0 1 = s.md.mode.code) :
    Modes.request c s = .done s (s.tm.frame % 2 ^ 64 + s.md.mode.code * 2 ^ 64 + s.md.mode.code * 2 ^ 72) := by
  rw [← result_same]
  simp [Modes.request, h]

/-! The command itself. -/

/-- A pair command with a wrong argument format completes MALFORMED, whatever its Locator names and in every mode. -/
theorem pairCmd_malformed {fmt : Bool} (hf : fmt = false) (op region : Nat) (unit : Nat → Bool) (read : Bool)
    (m : Mode → Bool) (c : Cmd) (s : State) (rep : Reply) :
    Cmds.pairCmd op region unit fmt read m c s rep = answer c op .malformed 0 0 false s := by
  rw [Cmds.pairCmd, pre_malformed_of_format hf, fin_malformed]

/-- MODE_REQUEST of a target that can be named, after BOOT, completes with what the request answers. -/
theorem modeRequest_pass {c : Cmd} {s : State} (hn : Names c s 7) (hu : c.unit = 0) (hr : Rest c 1)
    (ht : Modes.targetOk (Arg.u c 0 1) = true) (hb : s.md.mode.afterBoot = true) :
    Cmds.modeRequest c s = Cmds.fin 0x0701 c s (Modes.request c s) := by
  have hf : (c.isPair && Modes.targetOk (Arg.u c 0 1) && Arg.zeroFrom c 1) = true := by
    simp [isPair_of_names hn, ht, zeroFrom_of_rest hr]
  exact pairCmd_pass hn (by simp [hu]) hf hb rfl _

/-- MODE_REQUEST for the present mode, one that can be named, completes DONE and changes nothing (R113). -/
theorem exec_modeRequest_present {c : Cmd} {s : State} (hn : Names c s 7) (hu : c.unit = 0) (hr : Rest c 1)
    (hb : s.md.mode.afterBoot = true) (hd : s.md.mode ≠ .degraded) (h : Arg.u c 0 1 = s.md.mode.code) :
    exec (.modeRequest c) s = .next (done c 0x0701
      (s.tm.frame % 2 ^ 64 + s.md.mode.code * 2 ^ 64 + s.md.mode.code * 2 ^ 72) s) := by
  have ht : Modes.targetOk (Arg.u c 0 1) = true := h ▸ targetOk_code hb hd
  rw [exec_modeRequest, modeRequest_pass hn hu hr ht hb, request_present h, fin_done]

/-- MODE_REQUEST of a target that cannot be named is MALFORMED, in every mode and whatever else the entry holds (R111). -/
theorem exec_modeRequest_malformed {c : Cmd} (h : Arg.u c 0 1 ∈ [0, 1, 6] ∨ 7 < Arg.u c 0 1) (s : State) :
    exec (.modeRequest c) s = .next (answer c 0x0701 .malformed 0 0 false s) := by
  have hf : (c.isPair && Modes.targetOk (Arg.u c 0 1) && Arg.zeroFrom c 1) = false := by
    simp [targetOk_eq_false_iff.mpr h]
  rw [exec_modeRequest, Cmds.modeRequest, pairCmd_malformed hf]

/-- Settles O12, from the request's answer for the present mode and the format test that a target of R111 fails. -/
theorem presentModeRequestChangesNothing : Obligations.PresentModeRequestChangesNothing := by
  unfold Obligations.PresentModeRequestChangesNothing
  refine ⟨fun c s hn hu hr hm h => ?present, fun c s _ _ h => exec_modeRequest_malformed h s⟩
  case present =>
    obtain ⟨hb, hd⟩ := afterBoot_and_ne_degraded_of_mem _ hm
    exact exec_modeRequest_present hn hu hr hb hd h

end Sys2Proof.Proofs
end

section
/-!
TRUST_SVN_COMMIT (R605): the tests of R12 for a command of the HBD, what a commit burns, and the statement.
-/

namespace Sys2Proof.Proofs
open Machine Says Laws

/-! The tests of R12 for a command of the HBD. -/

/-- A final completion of the HBD that is not DONE joins those on their way. -/
theorem completeHbd_eq (c : Cmd) (op : Nat) (st : Status) (reason : Nat) (s : State) :
    Ops.completeHbd (c.origin op) st reason 0 s = answerHbd c op st reason s := by
  have : ¬ 32 ≤ c.sq.val := by omega
  simp [Ops.completeHbd, Ops.pushCompl, Cmd.origin, this, answerHbd]

/-- The completion REFUSED of a command of the HBD, with its reason code. -/
theorem finishHbd_refuse (op : Nat) (c : Cmd) (s : State) (reason : Nat) :
    Ops.finishHbd (c.origin op) s (.refuse reason) = answerHbd c op .refused reason s :=
  completeHbd_eq c op .refused reason s

/-- A command of the HBD that names its element in its format, after BOOT in a mode its row does not permit, completes
WRONG_MODE. -/
theorem hbdCmd_wrongMode {c : Cmd} {s : State} {r : Nat} (h : NamesHbd c s r) {op : Nat} {ok : Nat → Bool}
    (hu : ok c.unit = true) {fmt : Bool} (hf : fmt = true) (hb : s.md.mode.afterBoot = true) {m : Mode → Bool}
    (hm : m s.md.mode = false) (rep : Reply) :
    Cmds.hbdCmd op r ok fmt m c s rep = answerHbd c op .wrongMode 0 s :=
  calc
    _ = Cmds.hbdCmd op r ok fmt Cmds.anyMode c s .wrongMode := by simp [Cmds.hbdCmd, Ops.hbdPre, Cmds.anyMode, hm]
    _ = Ops.finishHbd (c.origin op) s .wrongMode := hbdCmd_pass h hu hf hb rfl _
    _ = answerHbd c op .wrongMode 0 s := completeHbd_eq c op .wrongMode 0 s

/-! What a commit burns. -/

@[simp] theorem trustSet_trust (s : State) (t : Trust) : (trustSet s t).trust = t := rfl

/-- The trust store after a commit: each kind's SVN raised to the running image's, and their REVOKE bits fused (R605). -/
def burnt (t : Trust) : Trust :=
  { t with
    svn1 := max t.svn1 t.run1.1, svn2 := max t.svn2 t.run2.1, svn3 := max t.svn3 t.run3.1
    revoked := t.revoked ||| t.run1.2 ||| t.run2.2 ||| t.run3.2 }

/-- The three SVN values in result bytes 0 to 2 and REVOKED in byte 3 (R605). -/
def fuseResult (t : Trust) : Nat := t.svn1 + t.svn2 * 2 ^ 8 + t.svn3 * 2 ^ 16 + t.revoked * 2 ^ 24

/-- With PAIR_STATE 1 the commit burns the fuses and answers with their new values. -/
theorem svnCommit_done {s : State} (h : s.pair.st = 1) :
    Trusted.svnCommit s = .done (trustSet s (burnt s.trust)) (fuseResult (burnt s.trust)) := by
  simp [Trusted.svnCommit, h, trustSet, burnt, fuseResult]

/-- In every other PAIR_STATE the commit is refused with 0x92 (R605). -/
theorem svnCommit_refuse {s : State} (h : s.pair.st ≠ 1) : Trusted.svnCommit s = .refuse 0x92 := by
  simp [Trusted.svnCommit, h]

/-- A commit writes no fuse when no running image has a higher SVN than its kind's fuses or a REVOKE bit that is not fused. -/
theorem burnt_eq_self {t : Trust} (h1 : t.run1.1 ≤ t.svn1) (h2 : t.run2.1 ≤ t.svn2) (h3 : t.run3.1 ≤ t.svn3)
    (hr : t.revoked ||| t.run1.2 ||| t.run2.2 ||| t.run3.2 = t.revoked) : burnt t = t := by
  simp only [burnt, Nat.max_eq_left h1, Nat.max_eq_left h2, Nat.max_eq_left h3, hr]

/-! The command itself. -/

/-- In CONFIGURE the command's completion is the one its reply asks for. -/
theorem exec_trustSvnCommit_configure {c : Cmd} {s : State} (hn : NamesHbd c s 3) (hu : c.unit = 0) (hr : Rest c 0)
    (hm : s.md.mode = .configure) :
    exec (.trustSvnCommit c) s = .next (Ops.finishHbd (c.origin 0x0901) s (Trusted.svnCommit s)) := by
  rw [exec_trustSvnCommit, Cmds.trustSvnCommit,
    hbdCmd_pass hn (by simp [hu]) (zeroFrom_of_rest hr) (by simp [hm, Mode.afterBoot]) (by simp [Cmds.confOnly, hm])]

/-- In CONFIGURE with PAIR_STATE 1 the command completes DONE with the burnt fuses (R605). -/
theorem exec_trustSvnCommit_done {c : Cmd} {s : State} (hn : NamesHbd c s 3) (hu : c.unit = 0) (hr : Rest c 0)
    (hm : s.md.mode = .configure) (hp : s.pair.st = 1) :
    exec (.trustSvnCommit c) s =
      .next (doneHbd c 0x0901 (fuseResult (burnt s.trust)) (trustSet s (burnt s.trust))) := by
  rw [exec_trustSvnCommit_configure hn hu hr hm, svnCommit_done hp, finishHbd_done]

/-- In CONFIGURE with any other PAIR_STATE the command is refused with 0x92 (R605). -/
theorem exec_trustSvnCommit_refused {c : Cmd} {s : State} (hn : NamesHbd c s 3) (hu : c.unit = 0) (hr : Rest c 0)
    (hm : s.md.mode = .configure) (hp : s.pair.st ≠ 1) :
    exec (.trustSvnCommit c) s = .next (answerHbd c 0x0901 .refused 0x92 s) := by
  rw [exec_trustSvnCommit_configure hn hu hr hm, svnCommit_refuse hp, finishHbd_refuse]

/-- After BOOT in a mode other than CONFIGURE the command completes WRONG_MODE. -/
theorem exec_trustSvnCommit_wrongMode {c : Cmd} {s : State} (hn : NamesHbd c s 3) (hu : c.unit = 0) (hr : Rest c 0)
    (hb : s.md.mode.afterBoot = true) (hm : s.md.mode ≠ .configure) :
    exec (.trustSvnCommit c) s = .next (answerHbd c 0x0901 .wrongMode 0 s) := by
  rw [exec_trustSvnCommit, Cmds.trustSvnCommit,
    hbdCmd_wrongMode hn (by simp [hu]) (zeroFrom_of_rest hr) hb (by simp [Cmds.confOnly, hm])]

/-- Settles O49, from the store a commit burns, which is the store as it was where the images ask for nothing new, and the
answers in another PAIR_STATE and in another mode. -/
theorem svnCommitRaisesTheFusedVersions : Obligations.SvnCommitRaisesTheFusedVersions := by
  unfold Obligations.SvnCommitRaisesTheFusedVersions
  intro c s hn hu hr
  refine ⟨fun hm hp => ?raised, fun hm hp h1 h2 h3 hrev => ?unchanged, fun hm hp => ?refused, fun hm => ?wrongMode⟩
  case raised => exact exec_trustSvnCommit_done hn hu hr hm hp
  case unchanged =>
    rw [runs_next (exec_trustSvnCommit_done hn hu hr hm hp), doneHbd_trust, trustSet_trust]
    exact burnt_eq_self h1 h2 h3 hrev
  case refused => exact exec_trustSvnCommit_refused hn hu hr hm hp
  case wrongMode =>
    simp only [List.mem_cons, List.not_mem_nil, or_false, not_or] at hm
    obtain ⟨hreset, hboot, hconf⟩ := hm
    exact exec_trustSvnCommit_wrongMode hn hu hr (afterBoot_of_not_mem (by simp [hreset, hboot])) hconf

end Sys2Proof.Proofs
end
